-- ==== Sys2Proof/Word.lean ====
section
/-! DEFINITION. The byte of a station port or of the instrument line, and the 32-bit data word of an event. -/

namespace Sys2Proof

/-- One byte: eight bits, on a station port or on the instrument line (00 Conventions). -/
abbrev Byte := BitVec 8

/-- A 32-bit data word of an event record, two's complement where it holds a signed figure (R165, R183). -/
abbrev DataWord := BitVec 32

/-- The data word that holds a figure. -/
def dataWord (x : Int) : DataWord := BitVec.ofInt 32 x

end Sys2Proof
end

