-- ==== Sys2Proof/Syntax.lean ====
section
/-! DEFINITION. The named objects of the part and its commands: one constructor of `Instr` for each row of
spec/opcode_table.json, with the row's operands in the widths of R179. -/

namespace Sys2Proof

/-- The three station ports (00 Naming). -/
inductive Port where
  | c | e | t
  deriving DecidableEq, Repr

/-- The two caverns (00 Naming). -/
inductive Cavern where
  | cv1 | cv2
  deriving DecidableEq, Repr

/-- The two heat stores (00 Naming). -/
inductive Store where
  | hsA | hsB
  deriving DecidableEq, Repr

/-- The five trains: three compression trains and two expansion trains (00 Naming). -/
inductive Train where
  | c1 | c2 | c3 | x1 | x2
  deriving DecidableEq, Repr

/-- The six instrument sources (08, source table). -/
inductive Source where
  | s1 | s2 | s3 | s4 | s5 | s6
  deriving DecidableEq, Repr

/-- The commands: one constructor for each row of the opcode table. A `Port` operand is the port the step takes
place at. Multi-byte operands have the widths of R179 and R180. `now` is a moment of the reference oscillator in
ticks of 25 MHz (log 5). `slots` are the whole byte slots of a frame that no other step of the frame accounts for
(log 9); `chars` are whole characters received on ILRX (log 10). -/
inductive Instr where
  -- configuration (R180, codes 0x01 to 0x0E)
  | readIdentity (p : Port)
  | setCavern (p : Port) (cavern : Byte) (gain : BitVec 24) (floor ceiling rate refTemp tol : BitVec 16)
  | setStore (p : Port) (store : Byte) (capacity : BitVec 32) (tBase tSpent tUse tol : BitVec 16) (margin : Byte)
  | setTrain (p : Port) (train : Byte) (rated minLoad ramp band : BitVec 32) (maxFlow : BitVec 16)
  | setFigures (p : Port) (yGen yChg qx qc : BitVec 16) (loss : BitVec 32) (dA dB : BitVec 16)
      (genAir genHeat chgRoom chgStore : BitVec 32)
  | setTiming (p : Port) (stable stale : BitVec 16) (aging : BitVec 32) (lead hold : BitVec 16)
      (deadline settle : Byte)
  | setArithMode (p : Port) (mode settings : Byte)
  | setLockEnable (p : Port) (setting : Byte)
  | loadInventoryCavern (p : Port) (number method : Byte) (amount : BitVec 32) (temp : BitVec 16)
  | loadInventoryStore (p : Port) (number method : Byte) (amount : BitVec 32) (temp : BitVec 16)
  | setTime (p : Port) (seconds : BitVec 32) (now : Nat)
  | declareReady (p : Port)
  | withdraw (p : Port)
  | park (p : Port)
  | setReserveBand (p : Port) (cavern code side : Byte)
  -- trains (codes 0x10 to 0x16)
  | requestRun (p : Port) (train cavernPref storePref : Byte)
  | release (p : Port) (train : Byte)
  | runReport (p : Port) (train : Byte) (power energy air heat : BitVec 32) (outlet : BitVec 16)
      (validity condition mode : Byte)
  | readTrain (p : Port) (train : Byte)
  | clearTrip (p : Port) (train : Byte)
  | clearDerate (p : Port) (train : Byte)
  | discardTop (p : Port) (store : Byte)
  -- trading (codes 0x20 to 0x27)
  | offer (p : Port) (interval power up down ref : BitVec 32)
  | confirm (p : Port) (interval : BitVec 32) (seq : Byte) (value : BitVec 32)
  | withdrawOffer (p : Port) (interval : BitVec 32) (seq : Byte)
  | voidSlot (p : Port) (interval : BitVec 32) (seq : Byte)
  | activateReserve (p : Port) (interval : BitVec 32) (seq : Byte) (amount : BitVec 32)
  | readSlots (p : Port) (first : BitVec 32) (count skip : Byte)
  | scanSlots (p : Port) (first last : BitVec 32) (figure comparison : Byte) (value : BitVec 32) (stride : Byte)
  | fetchSettlement (p : Port)
  -- reads and events (codes 0x30 to 0x3F)
  | readCavern (p : Port) (cavern : Byte)
  | readStore (p : Port) (store : Byte)
  | readPosition (p : Port)
  | readArith (p : Port)
  | clearArith (p : Port)
  | readTime (p : Port)
  | fetchEvent (p : Port)
  | setEventMask (p : Port) (setting : Byte)
  | portReset (p : Port)
  -- port traffic
  | unknownCommandCode (p : Port) (code : Byte)
  | streamedReport (p : Port) (train : Byte) (power energy air heat : BitVec 32) (outlet : BitVec 16)
      (validity condition mode : Byte)
  | escapeByte (p : Port)
  | frameEnd (p : Port) (slots : List Byte)
  -- pins
  | presentFall (p : Port)
  | presentRise (p : Port)
  | resetFall
  | resetRise (now : Nat)
  | pinChange (code : BitVec 3) (rsvtb : Bool)
  -- plant clock
  | tpulseEdge (now : Nat)
  | holdoverEntry (now : Nat)
  | holdoverAdvance (now : Nat)
  | stagingLeadEvent
  | boundary
  -- instrument line
  | instrumentFrame (chars : List Byte)
  | lineIdleGap
  | sourceStale (src : Source)
  -- timed work of the blocks
  | agingPass
  | offerExpiry (interval : Nat)
  | lateRung (train : Train)
  | overdueRung (train : Train)
  | lostRung (train : Train)
  -- position engine
  | walkStart
  | offerWalkCompletion
  | confirmWalkCompletion
  | recheckWalkCompletion
  -- further pins and the line
  | envlockChange (high : Bool)
  | selectFall (p : Port)
  | framingError
  deriving DecidableEq, Repr

end Sys2Proof
end

