-- ==== Sys2Proof/Config.lean ====
section
/-! DEFINITION. The constants the manual fixes: ranges of figures, lengths of queues, and the moments of the
plant clock in ticks of the 25 MHz reference. No implementation-defined value and no free value is needed. -/

namespace Sys2Proof.Config

/-- Top of every mass figure, kg (R1). -/
def massTop : Nat := 100000000
/-- Top of the pressure estimate, kPa (R1). -/
def pressureTop : Nat := 30000
/-- Top of a heat for a mass, MJ (R1). -/
def heatTop : Nat := 200000000
/-- Top of a power, kW (R1). -/
def powerTop : Nat := 2000000
/-- Top of a report figure and of its plausibility limit (R1), and of budget spent (R38). -/
def reportTop : Nat := 2147483647
/-- Top of a parcel temperature, 0.1 K (R1). -/
def temperatureTop : Nat := 9000
/-- Top of a slot or settlement energy, Wh (R1). -/
def energyTop : Int := 2147483647
/-- Bottom of a slot or settlement energy, Wh (R1). -/
def energyBottom : Int := -2147483648
/-- Top of a cavern or store counter (R1). -/
def counterTop : Int := 9223372036854775807
/-- Bottom of a cavern or store counter (R1). -/
def counterBottom : Int := -9223372036854775807
/-- Where a 32-bit count stops: plant seconds, ages, timers, shortfall, interval totals (R36, R58, R71, R117, R142, R160). -/
def countTop : Nat := 4294967295
/-- Parcels a store's stack holds at most (R47). -/
def stackTop : Nat := 24
/-- Records an event queue holds at most (R168). -/
def queueTop : Nat := 16
/-- Records the settlement ring holds at most (R88). -/
def ringTop : Nat := 32
/-- Slot records of the book (R78). -/
def slotCount : Nat := 96
/-- Plant seconds of an interval (00 Units). -/
def intervalSeconds : Nat := 900
/-- Half a second in ticks of the 25 MHz reference (R72; log 5). -/
def halfSecond : Nat := 12500000
/-- One second in ticks of the 25 MHz reference (R73; log 5). -/
def oneSecond : Nat := 25000000
/-- One and a half seconds in ticks of the 25 MHz reference (R73; log 5). -/
def watchSpan : Nat := 37500000

end Sys2Proof.Config
end

