-- ==== Sys2Proof/Machine/State.lean ====
section
/-! DEFINITION. The state of the part as plain data, block by block as the block diagram gives it (00), and its
values after the RESET pin. -/

namespace Sys2Proof.Machine

/-! ## Codes -/

/-- Part state (R185). -/
inductive PartState where | config | service | parked
  deriving DecidableEq, Repr

/-- Presence of a port's master (R173, R188). -/
inductive Presence where | absent | joined | declared
  deriving DecidableEq, Repr

/-- Protocol phase of a port interface (R173). -/
inductive Phase where | idle | command | executing | result
  deriving DecidableEq, Repr

/-- The frame of a port: none in progress, one that is not taken, or one that is taken, with the whole byte slots it
has had so far (R174). -/
inductive Frame where | closed | refused | taken (slots : Nat)
  deriving DecidableEq, Repr

/-- Validity of a measurement (R159). -/
inductive Validity where | good | suspect | fault | stale
  deriving DecidableEq, Repr

/-- Quality of a cavern's or a store's account (R34, R67). -/
inductive Quality where | unknown | tracked | estimated
  deriving DecidableEq, Repr

/-- Side of a reserve band (R6). -/
inductive BandSide where | bottom | top
  deriving DecidableEq, Repr

/-- Rounding mode (R3). -/
inductive Mode where | guarded | nearest
  deriving DecidableEq, Repr

/-- Arithmetic exception codes (R20, R21). -/
inductive ExcCode where | undefined | overflow | underflow
  deriving DecidableEq, Repr

/-- Source computations of a capture, in the order of the table of R22. -/
inductive ExcSource where
  | pressure | bounds | band | rate | walk | deposit | draw | merge | decay | reconcile | report
  deriving DecidableEq, Repr

/-- What an event or a capture is about (R22, R165). -/
inductive Subject where
  | nothing | cavern (c : Cavern) | store (st : Store) | train (t : Train) | slot (interval : Nat)
  deriving DecidableEq, Repr

/-- The capture record (R22). -/
structure Capture where
  code : ExcCode
  source : ExcSource
  subject : Subject
  slot : Option Nat
  deriving DecidableEq, Repr

/-- Event kinds in the row order of the gathering table (R166). -/
inductive EventKind where
  | permitGranted | permitLapsed | permitEnded | orderStaged | orderChanged | orderSettled | equipmentCheck
  | reportLate | reportOverdue | permitLost | trainTripped | reportClamped | offerLapsed | slotActive | slotSettled
  | atRisk | riskCleared | slotShort | hold | resume | envelopeBreach | breachCleared | cavernInReserve
  | cavernAtCeiling | rateHold | storeFull | reheatShort | reconciled | topDiscarded | instrumentStale
  | arithException | unpermittedFlow | timeHoldover | portWithdrawn | portJoined | serviceState
  deriving DecidableEq, Repr

/-- Event classes (R165). -/
inductive EventClass where | alert | notice | info
  deriving DecidableEq, Repr

/-- An event record (R165). -/
structure EventRecord where
  kind : EventKind
  cls : EventClass
  subject : Subject
  seconds : Nat
  word1 : DataWord
  word2 : DataWord
  deriving DecidableEq, Repr

/-- Limit codes, in the order of the table of R25. -/
inductive Limit where | none | air | heat | room | storeRoom | rate | plant | band
  deriving DecidableEq, Repr

/-- Permit states (R117). -/
inductive Permit where | off | queued | granted | running | stopping | tripped
  deriving DecidableEq, Repr

/-- Trip causes (R117). -/
inductive TripCause where | notReady | tripped | lost | port
  deriving DecidableEq, Repr

/-- Timing states of a train (R117). -/
inductive Timing where | onTime | late | overdue
  deriving DecidableEq, Repr

/-- Report conditions (R143). -/
inductive Condition where | ready | notReady | tripped
  deriving DecidableEq, Repr

/-- Slot states (R78). -/
inductive SlotState where | empty | offered | committed | active | voided
  deriving DecidableEq, Repr

/-! ## Pins, station ports, events, instrument line, clock -/

/-- The levels the pins show. `resetLow` is the asserted RESET pin (R191); `rsvtb` high selects the bottom side
(00 Signals). -/
structure Pins where
  rsv : BitVec 3
  rsvtb : Bool
  envlock : Bool
  presentC : Bool
  presentE : Bool
  presentT : Bool
  resetLow : Bool
  deriving DecidableEq, Repr

/-- A station port interface (R173, R174). `streamed` says that the command phase being collected is a streamed one,
which its first byte decided (R154, R155). `deferred` holds a result placed by the engine back to the next frame
(R176). -/
structure PortIface where
  phase : Phase
  collected : List Byte
  result : List Byte
  read : Nat
  stream : Bool
  streamed : Bool
  presence : Presence
  frame : Frame
  status : Byte
  deferred : Bool
  deriving DecidableEq, Repr

/-- The three port interfaces. -/
structure Spi where
  c : PortIface
  e : PortIface
  t : PortIface
  deriving DecidableEq, Repr

/-- What the Event Router holds for one port: its queue, its MISSED flag, its INFO mask and its two breach latches
(R167, R168, R172). -/
structure EventPort where
  queue : List EventRecord
  missed : Bool
  mask : Bool
  latch1 : Bool
  latch2 : Bool
  deriving DecidableEq, Repr

/-- The Event Router. -/
structure Evr where
  c : EventPort
  e : EventPort
  t : EventPort
  deriving DecidableEq, Repr

/-- A source record of the instrument line (R160). `staleDue` says that the last advance brought the age to the
stale time (R162; log 6). -/
structure SourceRec where
  value : Option Nat
  validity : Validity
  lastSeq : Option Byte
  age : Nat
  staleDue : Bool
  deriving DecidableEq, Repr

/-- The line of ILRX: waiting for 1 ms of idle line, or collecting with the characters held so far (R157). -/
inductive Line where
  | waitIdle
  | collecting (chars : List Byte)
  deriving DecidableEq, Repr

/-- The Instrument Line Receiver. -/
structure Ilr where
  s1 : SourceRec
  s2 : SourceRec
  s3 : SourceRec
  s4 : SourceRec
  s5 : SourceRec
  s6 : SourceRec
  line : Line
  deriving DecidableEq, Repr

/-- The Plant Clock (R71). `moment` is the latest moment of the reference the part has been shown (log 5);
`stagingDue`, `boundaryDue` and `expiryMark` are the work an advance has handed on and that is not taken yet
(log 6). -/
structure Pck where
  seconds : Nat
  timeSet : Bool
  holdover : Bool
  holdCount : Nat
  lastAdvance : Nat
  moment : Nat
  stagingMark : Option Nat
  stagingDue : Option Nat
  boundaryDue : Bool
  expiryMark : Option Nat
  deriving DecidableEq, Repr

/-! ## Caverns and stores -/

/-- The raw limits, bands and effective limits of a cavern (R26), present together. -/
structure Limits where
  rawFloor : Nat
  rawCeiling : Nat
  bandBottom : Nat
  bandTop : Nat
  effFloor : Nat
  effCeiling : Nat
  deriving DecidableEq, Repr

/-- A cavern record (R26). The flow state is derived from the attached set (R36). The three `kept` marks say that a
figure was kept, or stayed absent, when its computation was abandoned (R20, R23). -/
structure CavernRec where
  configured : Bool
  gain : Nat
  floor : Nat
  ceiling : Nat
  rate : Nat
  refTemp : Nat
  tol : Nat
  swCode : BitVec 3
  swSide : BandSide
  mass : Nat
  quality : Quality
  loaded : Int
  filled : Int
  withdrawn : Int
  reconciled : Int
  pressure : Option Nat
  pressureV : Validity
  temp : Option Nat
  tempV : Validity
  lastTemp : Option Nat
  estimate : Option Nat
  limits : Option Limits
  budget : Option Nat
  spent : Nat
  attached : List Train
  inReserve : Bool
  atCeiling : Bool
  rateHold : Bool
  breachLow : Bool
  breachHigh : Bool
  stableTimer : Nat
  keptLimits : Bool
  keptBudget : Bool
  keptEstimate : Bool
  deriving DecidableEq, Repr

/-- The Cavern Inventory Unit: the two records, the hardware band in force and the lock enable (R26). -/
structure Ciu where
  cv1 : CavernRec
  cv2 : CavernRec
  hwCode : BitVec 3
  hwSide : BandSide
  lockEnable : Bool
  deriving DecidableEq, Repr

/-- A parcel (R47); `temp = none` is UNKNOWN. -/
structure Parcel where
  heat : Nat
  temp : Option Nat
  opened : Bool
  origin : Option Train
  opening : Nat
  deriving DecidableEq, Repr

/-- A store record (R46). The flow state is derived from the trains (R49). -/
structure StoreRec where
  configured : Bool
  capacity : Nat
  tBase : Nat
  tSpent : Nat
  tUse : Nat
  tol : Nat
  margin : Nat
  decay : Nat
  stack : List Parcel
  loadedFlag : Bool
  quality : Quality
  charging : Option Train
  drawing : List Train
  full : Bool
  short : Bool
  shortfall : Nat
  deposited : Int
  drawn : Int
  writtenOff : Int
  reconciled : Int
  reachable : Nat
  top : Option Nat
  topV : Validity
  deriving DecidableEq, Repr

/-- The Heat Store Unit: the two records and the aging timer (R46, R61). -/
structure Hsu where
  hsA : StoreRec
  hsB : StoreRec
  agingTimer : Nat
  agingDue : Bool
  deriving DecidableEq, Repr

/-! ## Schedule book -/

/-- What an OFFERED slot holds beside its N and band (R78). -/
structure Offered where
  held : Int
  expiry : Nat
  deriving DecidableEq, Repr

/-- What an ACTIVE slot holds (R78). -/
structure Activity where
  reserve : Int
  energy : Int
  delivered : Int
  mark : Nat
  deriving DecidableEq, Repr

/-- A reserve band, up and down (R78). -/
structure Band where
  up : Nat
  down : Nat
  deriving DecidableEq, Repr

/-- A slot record (R78). The direction follows from N. -/
structure Slot where
  interval : Nat
  state : SlotState
  seq : Byte
  power : Int
  band : Option Band
  ref : BitVec 32
  offer : Option Offered
  atRisk : Bool
  atRiskSeen : Bool
  short : Bool
  shortSeen : Bool
  margin : Option Nat
  activity : Option Activity
  deriving DecidableEq, Repr

/-- A settlement record (R87, R183). -/
structure Settlement where
  interval : Nat
  ref : BitVec 32
  power : Int
  band : Band
  scheduled : Int
  activated : Int
  delivered : Int
  deviation : Int
  wasEmpty : Bool
  wasVoided : Bool
  atRiskSeen : Bool
  shortSeen : Bool
  overrun : Bool
  seq : Byte
  deriving DecidableEq, Repr

/-- The Schedule Book: the current interval, the 96 slot records by index, the unscheduled delivery and the
settlement ring, oldest first (R78, R85, R88). -/
structure Sbk where
  current : Nat
  slots : List Slot
  unscheduled : Int
  ring : List Settlement
  deriving DecidableEq, Repr

/-! ## Dispatch -/

/-- A current order (R117); `held` is the mark HELD. -/
structure Order where
  target : Nat
  ramp : Nat
  seq : Byte
  held : Bool
  deriving DecidableEq, Repr

/-- A next order (R117). -/
structure NextOrder where
  target : Nat
  ramp : Nat
  interval : Nat
  deriving DecidableEq, Repr

/-- Attached cavern and store (R117). -/
structure Attachment where
  cavern : Cavern
  store : Store
  deriving DecidableEq, Repr

/-- Preferences of a QUEUED train; `none` is ANY (R117). -/
structure Prefs where
  cavern : Option Cavern
  store : Option Store
  deriving DecidableEq, Repr

/-- Last report of a train (R117). -/
structure LastReport where
  power : Nat
  condition : Condition
  deriving DecidableEq, Repr

/-- A train record (R117) with its silence count (R142). `rungs` is how many rungs of the silence ladder the last
advance found reached (R150; log 6). -/
structure TrainRec where
  configured : Bool
  rated : Nat
  minLoad : Nat
  rampLimit : Nat
  band : Nat
  maxFlow : Nat
  cap : Nat
  derated : Bool
  permit : Permit
  cause : Option TripCause
  prefs : Option Prefs
  attachment : Option Attachment
  order : Order
  nextOrder : Option NextOrder
  stagedSeq : Byte
  settlePending : Bool
  settleCount : Nat
  timing : Timing
  reference : Option Nat
  silence : Nat
  rungs : Nat
  last : Option LastReport
  totalAir : Nat
  totalHeat : Nat
  totalEnergy : Nat
  deriving DecidableEq, Repr

/-- The next slot as the dispatch view holds it (R119). -/
structure NextSlot where
  interval : Nat
  state : SlotState
  power : Int
  deriving DecidableEq, Repr

/-- The dispatch view (R119). `active` is the net power of an ACTIVE current slot, `none` when it is idle; the
staging flag is set exactly while `next` is present. -/
structure View where
  current : Nat
  active : Option Int
  next : Option NextSlot
  deriving DecidableEq, Repr

/-- The Dispatch Unit: the five train records, the permit request queue, oldest first, and the dispatch view (R117,
R119, R123). -/
structure Dsu where
  c1 : TrainRec
  c2 : TrainRec
  c3 : TrainRec
  x1 : TrainRec
  x2 : TrainRec
  queue : List Train
  view : View
  deriving DecidableEq, Repr

/-! ## Position engine -/

/-- The figures of SET FIGURES but for the decay factors (R186). -/
structure Figures where
  yGen : Nat
  yChg : Nat
  qx : Nat
  qc : Nat
  loss : Nat
  genAir : Nat
  genHeat : Nat
  chgRoom : Nat
  chgStore : Nat
  deriving DecidableEq, Repr

/-- Rounding mode, enables, notice inhibit, sticky flag and capture record (R22, R23). -/
structure Arith where
  mode : Mode
  trap : Bool
  overflowNotice : Bool
  underflowNotice : Bool
  inhibit : Bool
  sticky : Bool
  capture : Option Capture
  deriving DecidableEq, Repr

/-- The reasons of a hold state (R114). -/
structure HoldReasons where
  air : Bool
  heat : Bool
  room : Bool
  storeRoom : Bool
  full : Bool
  port : Bool
  deriving DecidableEq, Repr

/-- An OFFER or CONFIRM with its parameters (R93, R104, R106). -/
inductive Request where
  | offer (interval : Nat) (power : Int) (up down : Nat) (ref : BitVec 32)
  | confirm (interval : Nat) (seq : Byte) (value : Int)
  deriving DecidableEq, Repr

/-- A walk base (R96), with the settings it was captured under. -/
structure Base where
  air : Nat
  room : Nat
  heat : Nat
  free : Nat
  rate : Nat
  rateLeft : Nat
  expansion : Nat
  compression : Nat
  current : Nat
  secondsLeft : Nat
  slots : List Slot
  mode : Mode
  trap : Bool
  overflowNotice : Bool
  underflowNotice : Bool
  figures : Figures
  generation : BitVec 32
  deriving DecidableEq, Repr

/-- A walk in flight (R93): a recheck, when it carries no request, or an OFFER or CONFIRM walk. `base = none` stands
for a walk that the engine has started and whose base capture, at WALK_START, is still to come (R94, R96; log 7). -/
structure Flight where
  request : Option Request
  base : Option Base
  restart : Bool
  deriving DecidableEq, Repr

/-- The Position Engine (R93, R114). The engine state is derived from the walk in flight. -/
structure Pen where
  recheckFlag : Bool
  waiting : Option Request
  flight : Option Flight
  generation : BitVec 32
  genHold : HoldReasons
  chgHold : HoldReasons
  lastLimit : Limit
  deriving DecidableEq, Repr

/-! ## Service controller -/

/-- The fields of SET TIMING (R187). -/
structure Times where
  stable : Nat
  stale : Nat
  aging : Nat
  lead : Nat
  hold : Nat
  deadline : Nat
  settle : Nat
  deriving DecidableEq, Repr

/-- The Service Controller: part state, figures-set flag and the configured values (R185 to R187). -/
structure Svc where
  part : PartState
  figuresSet : Bool
  figures : Figures
  times : Times
  deriving DecidableEq, Repr

/-! ## The whole part -/

/-- The state of the part, and the queue of the commands that wait, first in, first out (log 1). -/
structure State where
  pins : Pins
  spi : Spi
  evr : Evr
  ilr : Ilr
  pck : Pck
  ciu : Ciu
  hsu : Hsu
  sbk : Sbk
  dsu : Dsu
  arith : Arith
  pen : Pen
  svc : Svc
  pending : List Instr
  deriving DecidableEq, Repr

/-- The part stops with no fault: every bad command is answered with a refusal code and the part goes on (R181). -/
inductive Fault where
  deriving DecidableEq, Repr

/-- A command with no meaning in the model. -/
inductive Refusal where
  /-- Raised by an arm of `exec` whose command has no meaning yet, with the row's mnemonic; no arm does so. Safe. -/
  | notModelled (mnemonic : String)
  deriving DecidableEq, Repr

/-! ## Reset values -/

/-- A port interface after the RESET pin, with the presence that the PRESENT level gives (R173). -/
def PortIface.reset (present : Bool) : PortIface where
  phase := .idle
  collected := []
  result := []
  read := 0
  stream := false
  streamed := false
  presence := if present then .joined else .absent
  frame := .closed
  status := 0
  deferred := false

/-- The Event Router's values for a port after the RESET pin (R171). -/
def EventPort.reset : EventPort where
  queue := []
  missed := false
  mask := false
  latch1 := false
  latch2 := false

/-- A source record after the RESET pin (R160). -/
def SourceRec.reset : SourceRec where
  value := none
  validity := .stale
  lastSeq := none
  age := 0
  staleDue := false

/-- The instrument line after the RESET pin: it waits for 1 ms of idle line (R157). -/
def Ilr.reset : Ilr where
  s1 := .reset
  s2 := .reset
  s3 := .reset
  s4 := .reset
  s5 := .reset
  s6 := .reset
  line := .waitIdle

/-- The Plant Clock after the RESET pin, released at a moment (R71). -/
def Pck.reset (now : Nat) : Pck where
  seconds := 0
  timeSet := false
  holdover := false
  holdCount := 0
  lastAdvance := now
  moment := now
  stagingMark := none
  stagingDue := none
  boundaryDue := false
  expiryMark := none

/-- A cavern record after the RESET pin (R26); the unset fields are 0 (log 4). -/
def CavernRec.reset : CavernRec where
  configured := false
  gain := 0
  floor := 0
  ceiling := 0
  rate := 0
  refTemp := 0
  tol := 0
  swCode := 0
  swSide := .bottom
  mass := 0
  quality := .unknown
  loaded := 0
  filled := 0
  withdrawn := 0
  reconciled := 0
  pressure := none
  pressureV := .stale
  temp := none
  tempV := .stale
  lastTemp := none
  estimate := none
  limits := none
  budget := none
  spent := 0
  attached := []
  inReserve := false
  atCeiling := false
  rateHold := false
  breachLow := false
  breachHigh := false
  stableTimer := 0
  keptLimits := false
  keptBudget := false
  keptEstimate := false

/-- The side that RSVTB selects: low selects top, high selects bottom (00 Signals). -/
def sideOfPin (rsvtb : Bool) : BandSide := if rsvtb then .bottom else .top

/-- The Cavern Inventory Unit after the RESET pin: the hardware band in force is what the pins show (R26). -/
def Ciu.reset (pins : Pins) : Ciu where
  cv1 := .reset
  cv2 := .reset
  hwCode := pins.rsv
  hwSide := sideOfPin pins.rsvtb
  lockEnable := false

/-- A store record after the RESET pin (R46); the unset fields are 0 (log 4). -/
def StoreRec.reset : StoreRec where
  configured := false
  capacity := 0
  tBase := 0
  tSpent := 0
  tUse := 0
  tol := 0
  margin := 2
  decay := 0
  stack := []
  loadedFlag := false
  quality := .tracked
  charging := none
  drawing := []
  full := false
  short := false
  shortfall := 0
  deposited := 0
  drawn := 0
  writtenOff := 0
  reconciled := 0
  reachable := 0
  top := none
  topV := .stale

/-- The Heat Store Unit after the RESET pin (R46, R61). -/
def Hsu.reset : Hsu where
  hsA := .reset
  hsB := .reset
  agingTimer := 0
  agingDue := false

/-- A slot record of an interval with the defaults of R78 and a given sequence. -/
def Slot.blank (interval : Nat) (seq : Byte) : Slot where
  interval := interval
  state := .empty
  seq := seq
  power := 0
  band := none
  ref := 0
  offer := none
  atRisk := false
  atRiskSeen := false
  short := false
  shortSeen := false
  margin := none
  activity := none

/-- The Schedule Book after the RESET pin: the record at index i holds interval i (R78, R85, R88). -/
def Sbk.reset : Sbk where
  current := 0
  slots := (List.range Config.slotCount).map (fun i => Slot.blank i 0)
  unscheduled := 0
  ring := []

/-- A train record after the RESET pin (R117, R142); the unset fields are 0 (log 4). -/
def TrainRec.reset : TrainRec where
  configured := false
  rated := 0
  minLoad := 0
  rampLimit := 0
  band := 0
  maxFlow := 0
  cap := 0
  derated := false
  permit := .off
  cause := none
  prefs := none
  attachment := none
  order := ⟨0, 0, 0, false⟩
  nextOrder := none
  stagedSeq := 0
  settlePending := false
  settleCount := 0
  timing := .onTime
  reference := none
  silence := 0
  rungs := 0
  last := none
  totalAir := 0
  totalHeat := 0
  totalEnergy := 0

/-- The Dispatch Unit after the RESET pin (R117, R119, R123). -/
def Dsu.reset : Dsu where
  c1 := .reset
  c2 := .reset
  c3 := .reset
  x1 := .reset
  x2 := .reset
  queue := []
  view := ⟨0, none, none⟩

/-- The arithmetic settings after the RESET pin (R22, R23). -/
def Arith.reset : Arith where
  mode := .guarded
  trap := false
  overflowNotice := false
  underflowNotice := false
  inhibit := false
  sticky := false
  capture := none

/-- The reason set {PORT}, which both directions hold after the RESET pin (R114, R191). -/
def HoldReasons.portOnly : HoldReasons where
  air := false
  heat := false
  room := false
  storeRoom := false
  full := false
  port := true

/-- The Position Engine after the RESET pin (R25, R93, R114). -/
def Pen.reset : Pen where
  recheckFlag := false
  waiting := none
  flight := none
  generation := 0
  genHold := .portOnly
  chgHold := .portOnly
  lastLimit := .none

/-- The Service Controller after the RESET pin (R185 to R187); the unset figures are 0 (log 4). -/
def Svc.reset : Svc where
  part := .config
  figuresSet := false
  figures := ⟨0, 0, 0, 0, 0, 0, 0, 0, 0⟩
  times := ⟨300, 30, 600, 60, 120, 10, 30⟩

/-- The part right after the rise of RESET at a moment, with the pins at given levels and given commands waiting
(R191). -/
def State.afterReset (pins : Pins) (now : Nat) (waiting : List Instr) : State where
  pins := { pins with resetLow := false }
  spi := ⟨.reset pins.presentC, .reset pins.presentE, .reset pins.presentT⟩
  evr := ⟨.reset, .reset, .reset⟩
  ilr := .reset
  pck := .reset now
  ciu := .reset pins
  hsu := .reset
  sbk := .reset
  dsu := .reset
  arith := .reset
  pen := .reset
  svc := .reset
  pending := waiting

/-- The levels the pins show at the model's reset: all low, RESET released (log 3). -/
def Pins.reset : Pins where
  rsv := 0
  rsvtb := false
  envlock := false
  presentC := false
  presentE := false
  presentT := false
  resetLow := false

/-- The machine right after reset (R191), with the pins of log 3 and an empty queue. -/
def State.reset : State := State.afterReset Pins.reset 0 []

end Sys2Proof.Machine
end

