-- ==== Sys2Proof/Machine/Arith.lean ====
section
/-! DEFINITION. The position arithmetic of chapter 1: rounding, saturation and the conversions A1 to A9, each as a
pure function of exact integers, with the exception its saturation raises. -/

namespace Sys2Proof.Machine

/-! ## Rounding and saturation (R1, R2) -/

/-- The rounding a result takes. -/
inductive Rounding where | up | down | nearest
  deriving DecidableEq, Repr

/-- Rounding classes (R2). -/
inductive RoundClass where | requirement | availability | estimate
  deriving DecidableEq, Repr

/-- The rounding of a class in a mode (R2). -/
def roundingOf : Mode → RoundClass → Rounding
  | .guarded, .requirement => .up
  | .guarded, .availability => .down
  | .guarded, .estimate => .nearest
  | .nearest, _ => .nearest

/-- The exact quotient `n / d` rounded once (R2, R3): up, down, or to nearest with halves away from zero. -/
def roundDiv : Rounding → Nat → Nat → Nat
  | .up, n, d => (n + (d - 1)) / d
  | .down, n, d => n / d
  | .nearest, n, d => (2 * n + d) / (2 * d)

/-- A figure with the exception its saturation raised, if any. -/
structure Figure where
  val : Nat
  exc : Option ExcCode
  deriving DecidableEq, Repr

/-- A signed figure with the exception its saturation raised, if any. -/
structure SignedFigure where
  val : Int
  exc : Option ExcCode
  deriving DecidableEq, Repr

/-- Saturation at the top of a range that starts at zero: OVERFLOW (R1). -/
def saturate (top x : Nat) : Figure :=
  if top < x then ⟨top, some .overflow⟩ else ⟨x, none⟩

/-- Saturation at both ends of a signed range: OVERFLOW at either end (R1). -/
def saturateSigned (bottom top x : Int) : SignedFigure :=
  if top < x then ⟨top, some .overflow⟩ else if x < bottom then ⟨bottom, some .overflow⟩ else ⟨x, none⟩

/-- Saturation of a signed result to a range from zero: OVERFLOW above the top, UNDERFLOW below zero (R1). -/
def saturateMass (top : Nat) (x : Int) : Figure :=
  if (top : Int) < x then ⟨top, some .overflow⟩ else if x < 0 then ⟨0, some .underflow⟩ else ⟨x.toNat, none⟩

/-- Slot and settlement energies (R1, R18). -/
def saturateEnergy (x : Int) : SignedFigure := saturateSigned Config.energyBottom Config.energyTop x

/-- Cavern and store counters (R1, R33, R66). -/
def saturateCounter (x : Int) : SignedFigure := saturateSigned Config.counterBottom Config.counterTop x

/-! ## Cavern conversions (R4 to R8) -/

/-- A1, the pressure estimate: m × G × T / 2^40 to nearest, saturated at 30,000 kPa (R4). -/
def pressureEstimate (mass gain temp : Nat) : Figure :=
  saturate Config.pressureTop (roundDiv .nearest (mass * gain * temp) (2 ^ 40))

/-- A2, the mass at a pressure: p × 2^40 / (G × T), saturated at 100,000,000 kg (R5). -/
def massAtPressure (r : Rounding) (pressure gain temp : Nat) : Figure :=
  saturate Config.massTop (roundDiv r (pressure * 2 ^ 40) (gain * temp))

/-- The numerator n of the band fraction n / 64 of a code (R6). -/
def bandFraction (code : BitVec 3) : Nat := if code = 0 then 0 else 2 ^ (code.toNat - 1)

/-- A3, the band amount of a code: range × n / 64, a requirement (R6). -/
def bandAmount (mode : Mode) (range : Nat) (code : BitVec 3) : Nat :=
  roundDiv (roundingOf mode .requirement) (range * bandFraction code) 64

/-- The band of one side: the larger of the hardware and the software band, each 0 when its side is the other one
(R6). -/
def sideBand (mode : Mode) (range : Nat) (side hwSide : BandSide) (hwCode : BitVec 3) (swSide : BandSide)
    (swCode : BitVec 3) : Nat :=
  max (if hwSide = side then bandAmount mode range hwCode else 0)
    (if swSide = side then bandAmount mode range swCode else 0)

/-- The bands and effective limits that follow from the raw masses; a floor above the ceiling leaves no working range
and gives both the value min(effective floor, raw ceiling) (R6). -/
def effectiveLimits (rawFloor rawCeiling bandBottom bandTop : Nat) : Limits :=
  let f := rawFloor + bandBottom
  let c := rawCeiling - bandTop
  if c < f then ⟨rawFloor, rawCeiling, bandBottom, bandTop, min f rawCeiling, min f rawCeiling⟩
  else ⟨rawFloor, rawCeiling, bandBottom, bandTop, f, c⟩

/-- A4, the rate budget of an interval: r × 2^38 / (G × T), an availability, saturated at 100,000,000 kg (R8). -/
def rateBudget (mode : Mode) (rate gain temp : Nat) : Figure :=
  saturate Config.massTop (roundDiv (roundingOf mode .availability) (rate * 2 ^ 38) (gain * temp))

/-! ## Power, mass and heat (R9 to R11) -/

/-- A5, the mass for a power over s seconds: |N| × s × 25 / (9 × y10) (R9). -/
def massForPower (r : Rounding) (power seconds y : Nat) : Figure :=
  saturate Config.massTop (roundDiv r (power * seconds * 25) (9 * y))

/-- A6, the heat for a mass: M × q / 1,000 (R10). -/
def heatForMass (r : Rounding) (mass q : Nat) : Figure :=
  saturate Config.heatTop (roundDiv r (mass * q) 1000)

/-- A6 in reverse form, the mass a heat supports: Q × 1,000 / q, an availability, saturated at 100,000,000 kg (R10). -/
def massForHeat (mode : Mode) (heat q : Nat) : Figure :=
  saturate Config.massTop (roundDiv (roundingOf mode .availability) (heat * 1000) q)

/-- A7, the power from a mass over one interval: M × y10 / 2,500, an availability, held at 2,000,000 kW as every use
of it is part of a comparison (R11, R21). -/
def powerFromMass (mode : Mode) (mass y : Nat) : Nat :=
  min Config.powerTop (roundDiv (roundingOf mode .availability) (mass * y) 2500)

/-! ## Parcel arithmetic (R12 to R17) -/

/-- The temperature excess of a KNOWN temperature over the base of its store (R12). -/
def excess (tBase temp : Nat) : Nat := temp - tBase

/-- The common quotient of deposit and merge: (H1 + H2) × ΔT1 × ΔT2 / (H1 × ΔT2 + H2 × ΔT1), 0 over a zero divisor
(R13, R14). -/
def mixedExcess (mode : Mode) (h1 d1 h2 d2 : Nat) : Nat :=
  roundDiv (roundingOf mode .availability) ((h1 + h2) * d1 * d2) (h1 * d2 + h2 * d1)

/-- A8 deposit of heat Q at an outlet temperature into a parcel (R13). -/
def depositTemp (mode : Mode) (tBase heat : Nat) (temp : Option Nat) (q : Nat) (outlet : Option Nat) : Option Nat :=
  match temp, outlet with
  | some t, some o =>
    if heat = 0 then some (tBase + excess tBase o)
    else some (tBase + mixedExcess mode heat (excess tBase t) q (excess tBase o))
  | _, _ => none

/-- A8 merge of an upper and a lower parcel: the merged temperature (R14). -/
def mergeTemp (mode : Mode) (tBase h1 : Nat) (t1 : Option Nat) (h2 : Nat) (t2 : Option Nat) : Option Nat :=
  match t1, t2 with
  | some a, some b =>
    if h2 = 0 then some a
    else if h1 = 0 then some b
    else some (tBase + mixedExcess mode h1 (excess tBase a) h2 (excess tBase b))
  | _, _ => none

/-- A8 decay of one figure: x × (65,536 − d) / 65,536, an availability (R16). -/
def decayed (mode : Mode) (d x : Nat) : Nat :=
  roundDiv (roundingOf mode .availability) (x * (65536 - d)) 65536

/-- A8 top reconciliation: the new heat of a parcel for a measured temperature, saturated at the heat plus the free
capacity of the store (R17). -/
def reconciledHeat (tBase free heat : Nat) (temp : Option Nat) (measured : Nat) : Figure :=
  if measured ≤ tBase then ⟨0, if measured < tBase then some .underflow else none⟩
  else
    match temp with
    | none => ⟨heat, none⟩
    | some t =>
      if excess tBase t = 0 then ⟨heat, none⟩
      else saturate (heat + free) (roundDiv .nearest (heat * excess tBase measured) (excess tBase t))

/-- A8 top reconciliation: the new temperature of the parcel (R17). -/
def reconciledTemp (tBase measured : Nat) : Nat := max tBase measured

/-! ## Energy and plausibility limits (R18, R19) -/

/-- A9, the energy for a power over s seconds: P × s × 5 / 18 Wh to nearest (R18). -/
def energyFor (power seconds : Nat) : Nat := roundDiv .nearest (power * seconds * 5) 18

/-- Plausibility limit of the power of a report (R19). -/
def powerLimit (rated : Nat) : Figure := saturate Config.reportTop (roundDiv .up (rated * 5) 4)

/-- Plausibility limit of the air of a report (R19). -/
def airLimit (maxFlow elapsed : Nat) : Figure := saturate Config.reportTop (roundDiv .up (maxFlow * elapsed * 5) 4)

/-- Plausibility limit of the energy of a report (R19). -/
def energyLimit (rated elapsed : Nat) : Figure :=
  saturate Config.reportTop (roundDiv .up (rated * elapsed * 25) 72)

/-- Plausibility limit of the heat of a report, from its air after its own limit (R19). -/
def heatLimit (air qc : Nat) : Figure := saturate Config.reportTop (roundDiv .up (air * qc * 5) 4000)

end Sys2Proof.Machine
end

