-- ==== Sys2Proof/WellFormed.lean ====
section
/-! DEFINITION. Which commands are spelled as the part can meet them. The fields of a command have exactly the
widths of the wire (R179), so almost every check is made by the types; what is left is said here. -/

namespace Sys2Proof

/-- The number of a train in commands (00 Naming). -/
def Train.number : Train → Nat
  | .c1 => 1 | .c2 => 2 | .c3 => 3 | .x1 => 4 | .x2 => 5

/-- The train a number names, if any (00 Naming). -/
def Train.ofNumber : Nat → Option Train
  | 1 => some .c1 | 2 => some .c2 | 3 => some .c3 | 4 => some .x1 | 5 => some .x2 | _ => none

/-- The owner port of a train (R117). -/
def Train.owner : Train → Port
  | .c1 | .c2 | .c3 => .c
  | .x1 | .x2 => .e

/-- An expansion train (R117). -/
def Train.expands : Train → Bool
  | .c1 | .c2 | .c3 => false
  | .x1 | .x2 => true

/-- The port owns the train a number names (R155, first row). -/
def Port.owns (p : Port) (number : Nat) : Bool :=
  match Train.ofNumber number with
  | some tr => tr.owner == p
  | none => false

/-- The command codes of the catalogue (R180). -/
def catalogued (code : Nat) : Bool :=
  (1 ≤ code && code ≤ 0x0E) || (0x10 ≤ code && code ≤ 0x16) || (0x20 ≤ code && code ≤ 0x27) ||
    (0x30 ≤ code && code ≤ 0x35) || code == 0x38 || code == 0x39 || code == 0x3F

/-- A streamed report opens with a train number the port owns; an unknown first byte is not both a catalogue code and
a streamed first byte of the port; the escape byte belongs to a port that can stream; an instrument frame has eight
characters (R155, R157, R175). -/
def WellFormed : Instr → Bool
  | .streamedReport p train .. => p.owns train.toNat
  | .unknownCommandCode p code => !(catalogued code.toNat && p.owns code.toNat)
  | .escapeByte p => p != .t
  | .instrumentFrame chars => chars.length == 8
  | _ => true

end Sys2Proof
end

