-- ==== Sys2Proof/Machine/Ops.lean ====
section
/-! DEFINITION. The named operations over the state that every block uses: reading and changing one record, handing
an event to the Event Router (R165 to R168), capturing an arithmetic exception (R20 to R22), and what a change posts
with the Position Engine (R94, R95, R112). -/

namespace Sys2Proof.Machine

/-! ## One record at a time -/

/-- The train order, CV1 before CV2, HS-A before HS-B, and the ports in the order of R172 (00 Naming). -/
def allTrains : List Train := [.c1, .c2, .c3, .x1, .x2]
/-- Both caverns, in order. -/
def allCaverns : List Cavern := [.cv1, .cv2]
/-- Both stores, in order. -/
def allStores : List Store := [.hsA, .hsB]
/-- The six sources, in order. -/
def allSources : List Source := [.s1, .s2, .s3, .s4, .s5, .s6]

/-- The interface of a port. -/
def Spi.get (x : Spi) : Port → PortIface
  | .c => x.c | .e => x.e | .t => x.t
/-- Replace the interface of a port. -/
def Spi.set (x : Spi) (p : Port) (v : PortIface) : Spi :=
  match p with
  | .c => { x with c := v } | .e => { x with e := v } | .t => { x with t := v }

/-- What the router holds for a port. -/
def Evr.get (x : Evr) : Port → EventPort
  | .c => x.c | .e => x.e | .t => x.t
/-- Replace what the router holds for a port. -/
def Evr.set (x : Evr) (p : Port) (v : EventPort) : Evr :=
  match p with
  | .c => { x with c := v } | .e => { x with e := v } | .t => { x with t := v }

/-- A source record. -/
def Ilr.get (x : Ilr) : Source → SourceRec
  | .s1 => x.s1 | .s2 => x.s2 | .s3 => x.s3 | .s4 => x.s4 | .s5 => x.s5 | .s6 => x.s6
/-- Replace a source record. -/
def Ilr.set (x : Ilr) (src : Source) (v : SourceRec) : Ilr :=
  match src with
  | .s1 => { x with s1 := v } | .s2 => { x with s2 := v } | .s3 => { x with s3 := v }
  | .s4 => { x with s4 := v } | .s5 => { x with s5 := v } | .s6 => { x with s6 := v }

/-- A cavern record. -/
def Ciu.get (x : Ciu) : Cavern → CavernRec
  | .cv1 => x.cv1 | .cv2 => x.cv2
/-- Replace a cavern record. -/
def Ciu.set (x : Ciu) (c : Cavern) (v : CavernRec) : Ciu :=
  match c with
  | .cv1 => { x with cv1 := v } | .cv2 => { x with cv2 := v }

/-- A store record. -/
def Hsu.get (x : Hsu) : Store → StoreRec
  | .hsA => x.hsA | .hsB => x.hsB
/-- Replace a store record. -/
def Hsu.set (x : Hsu) (st : Store) (v : StoreRec) : Hsu :=
  match st with
  | .hsA => { x with hsA := v } | .hsB => { x with hsB := v }

/-- A train record. -/
def Dsu.get (x : Dsu) : Train → TrainRec
  | .c1 => x.c1 | .c2 => x.c2 | .c3 => x.c3 | .x1 => x.x1 | .x2 => x.x2
/-- Replace a train record. -/
def Dsu.set (x : Dsu) (t : Train) (v : TrainRec) : Dsu :=
  match t with
  | .c1 => { x with c1 := v } | .c2 => { x with c2 := v } | .c3 => { x with c3 := v }
  | .x1 => { x with x1 := v } | .x2 => { x with x2 := v }

/-- Change the interface of a port. -/
def State.modPort (s : State) (p : Port) (f : PortIface → PortIface) : State :=
  { s with spi := s.spi.set p (f (s.spi.get p)) }
/-- Change what the router holds for a port. -/
def State.modEvents (s : State) (p : Port) (f : EventPort → EventPort) : State :=
  { s with evr := s.evr.set p (f (s.evr.get p)) }
/-- Change a source record. -/
def State.modSource (s : State) (src : Source) (f : SourceRec → SourceRec) : State :=
  { s with ilr := s.ilr.set src (f (s.ilr.get src)) }
/-- Change a cavern record. -/
def State.modCavern (s : State) (c : Cavern) (f : CavernRec → CavernRec) : State :=
  { s with ciu := s.ciu.set c (f (s.ciu.get c)) }
/-- Change a store record. -/
def State.modStore (s : State) (st : Store) (f : StoreRec → StoreRec) : State :=
  { s with hsu := s.hsu.set st (f (s.hsu.get st)) }
/-- Change a train record. -/
def State.modTrain (s : State) (t : Train) (f : TrainRec → TrainRec) : State :=
  { s with dsu := s.dsu.set t (f (s.dsu.get t)) }

/-- A cavern record of the part. -/
def State.cavern (s : State) (c : Cavern) : CavernRec := s.ciu.get c
/-- A store record of the part. -/
def State.store (s : State) (st : Store) : StoreRec := s.hsu.get st
/-- A train record of the part. -/
def State.train (s : State) (t : Train) : TrainRec := s.dsu.get t
/-- A port interface of the part. -/
def State.port (s : State) (p : Port) : PortIface := s.spi.get p
/-- What the router holds for a port of the part. -/
def State.events (s : State) (p : Port) : EventPort := s.evr.get p

/-- The slot record of an interval of the window, at index interval mod 96 (04, 4.3). -/
def State.slot (s : State) (interval : Nat) : Slot :=
  s.sbk.slots.getD (interval % Config.slotCount) (Slot.blank interval 0)
/-- Change the slot record of an interval. -/
def State.modSlot (s : State) (interval : Nat) (f : Slot → Slot) : State :=
  { s with sbk := { s.sbk with slots := s.sbk.slots.set (interval % Config.slotCount) (f (s.slot interval)) } }

/-- The presence of a port's master. -/
def State.presence (s : State) (p : Port) : Presence := (s.port p).presence

/-- Count up by one and stop at the top of a 32-bit count. -/
def countUp (n : Nat) : Nat := if n < Config.countTop then n + 1 else n

/-! ## Derived state -/

/-- Flow state of a cavern (R36). -/
inductive CavernFlow where | idle | filling | withdrawing
  deriving DecidableEq, Repr

/-- The flow state follows the attached set (R36). -/
def CavernRec.flow (r : CavernRec) : CavernFlow :=
  if r.attached.any (fun t => !t.expands) then .filling
  else if r.attached.any Train.expands then .withdrawing
  else .idle

/-- Flow state of a store (R49). -/
inductive StoreFlow where | idle | charging | drawing
  deriving DecidableEq, Repr

/-- The flow state follows the attached trains (R49). -/
def StoreRec.flow (r : StoreRec) : StoreFlow :=
  if r.charging.isSome then .charging else if r.drawing ≠ [] then .drawing else .idle

/-- Content: the sum of the heats of all parcels (R46). -/
def StoreRec.content (r : StoreRec) : Nat := (r.stack.map Parcel.heat).sum

/-- Free capacity: capacity minus content, 0 for a store not configured (R46). -/
def StoreRec.free (r : StoreRec) : Nat := if r.configured then r.capacity - r.content else 0

/-- Usable air: mass above the effective floor, 0 where there is none; 0 while the limits are absent (R7, R116). -/
def CavernRec.usableAir (r : CavernRec) : Nat :=
  match r.limits with
  | some l => r.mass - l.effFloor
  | none => 0

/-- Room: mass to the effective ceiling, 0 where there is none; 0 while the limits are absent (R7, R116). -/
def CavernRec.room (r : CavernRec) : Nat :=
  match r.limits with
  | some l => l.effCeiling - r.mass
  | none => 0

/-- The ATTN output of a port: high exactly while its queue holds a record (R169). -/
def State.attn (s : State) (p : Port) : Bool := (s.events p).queue ≠ []

/-- The envelope lock is effective while ENVLOCK is high and the enable is on (R31). -/
def State.lockEffective (s : State) : Bool := s.pins.envlock && s.ciu.lockEnable

/-- The PRESENT level of a port. -/
def Pins.present (x : Pins) : Port → Bool
  | .c => x.presentC | .e => x.presentE | .t => x.presentT

/-- Change the PRESENT level of a port. -/
def Pins.setPresent (x : Pins) (p : Port) (v : Bool) : Pins :=
  match p with
  | .c => { x with presentC := v } | .e => { x with presentE := v } | .t => { x with presentT := v }

/-- Nothing of the part makes progress while RESET is low (R191). -/
def live (f : State → State) (s : State) : State := if s.pins.resetLow then s else f s

/-! ## Events (R165 to R168) -/

/-- The routes of the gathering table (R166). -/
inductive Route where | owner | schedule | plantWide
  deriving DecidableEq, Repr

/-- The route of a kind (R166). -/
def EventKind.route : EventKind → Route
  | .permitGranted | .permitLapsed | .permitEnded | .orderStaged | .orderChanged | .orderSettled | .equipmentCheck
  | .reportLate | .reportOverdue | .permitLost | .trainTripped | .reportClamped => .owner
  | .offerLapsed | .slotActive | .slotSettled | .atRisk | .riskCleared | .slotShort | .hold | .resume => .schedule
  | .envelopeBreach | .breachCleared | .cavernInReserve | .cavernAtCeiling | .rateHold | .storeFull | .reheatShort
  | .reconciled | .topDiscarded | .instrumentStale | .arithException | .unpermittedFlow | .timeHoldover
  | .portWithdrawn | .portJoined | .serviceState => .plantWide

/-- A record goes to a port: to the owner port of the train that is its subject, to the T-port, or to every port that
is not ABSENT (R166). -/
def routedTo (presence : Presence) (r : EventRecord) (p : Port) : Bool :=
  match r.kind.route with
  | .owner =>
    match r.subject with
    | .train t => t.owner == p
    | _ => false
  | .schedule => p == .t
  | .plantWide => presence != .absent

/-- Offer a record to a port's queue: dropped by the INFO mask, joined after the newest, or discarded with MISSED at a
queue of 16 (R167, R168). -/
def EventPort.take (q : EventPort) (r : EventRecord) : EventPort :=
  if r.cls = .info ∧ q.mask then q
  else if q.queue.length < Config.queueTop then { q with queue := q.queue ++ [r] }
  else { q with missed := true }

/-- What becomes of one port's queue when the router takes a hand-over (R166, R168). -/
def EventPort.offered (q : EventPort) (presence : Presence) (r : EventRecord) (p : Port) : EventPort :=
  if routedTo presence r p then q.take r else q

/-- The router takes a hand-over as one event (R165). -/
def State.route (s : State) (r : EventRecord) : State :=
  { s with evr :=
    { c := s.evr.c.offered s.spi.c.presence r .c
      e := s.evr.e.offered s.spi.e.presence r .e
      t := s.evr.t.offered s.spi.t.presence r .t } }

/-- A block hands the router an event; the router adds the plant seconds (R165). -/
def emit (kind : EventKind) (cls : EventClass) (subject : Subject) (w1 w2 : Int) (s : State) : State :=
  s.route ⟨kind, cls, subject, s.pck.seconds, dataWord w1, dataWord w2⟩

/-- An entry is of class NOTICE, a departure of class INFO (R40, R53, R54, R58, R59). -/
def entryClass (entered : Bool) : EventClass := if entered then .notice else .info

/-! ## Codes that stand in data words and answers (R179) -/

/-- Exception code (R179). -/
def ExcCode.code : ExcCode → Nat
  | .undefined => 1 | .overflow => 2 | .underflow => 3

/-- Source of a capture, 1 to 11 in the order of R22 (R179). -/
def ExcSource.code : ExcSource → Nat
  | .pressure => 1 | .bounds => 2 | .band => 3 | .rate => 4 | .walk => 5 | .deposit => 6 | .draw => 7 | .merge => 8
  | .decay => 9 | .reconcile => 10 | .report => 11

/-- Port code (R179). -/
def portCode : Port → Nat
  | .c => 1 | .e => 2 | .t => 3

/-- Presence code (R179). -/
def Presence.code : Presence → Nat
  | .absent => 1 | .joined => 2 | .declared => 3

/-- Part state code (R179). -/
def PartState.code : PartState → Nat
  | .config => 1 | .service => 2 | .parked => 3

/-- Permit code (R179). -/
def Permit.code : Permit → Nat
  | .off => 1 | .queued => 2 | .granted => 3 | .running => 4 | .stopping => 5 | .tripped => 6

/-- Trip cause code (R179). -/
def TripCause.code : TripCause → Nat
  | .notReady => 1 | .tripped => 2 | .lost => 3 | .port => 4

/-- Limit code (R179). -/
def Limit.code : Limit → Nat
  | .none => 0 | .air => 1 | .heat => 2 | .room => 3 | .storeRoom => 4 | .rate => 5 | .plant => 6 | .band => 7

/-- Cavern number. -/
def cavernNumber : Cavern → Nat
  | .cv1 => 1 | .cv2 => 2

/-- Store number. -/
def storeNumber : Store → Nat
  | .hsA => 1 | .hsB => 2

/-- A bit of a bit set: bit n when the condition holds (R179). -/
def bit (n : Nat) (b : Bool) : Nat := if b then 2 ^ n else 0

/-- The hold reasons as a bit set (R179). -/
def HoldReasons.bits (r : HoldReasons) : Nat :=
  bit 0 r.air + bit 1 r.heat + bit 2 r.room + bit 3 r.storeRoom + bit 4 r.full + bit 5 r.port

/-! ## Arithmetic exceptions (R20 to R22) -/

/-- The subject of the ARITH EXCEPTION record: the slot interval of a walk where there is one, else the subject of
the capture (R166). -/
def Capture.eventSubject (c : Capture) : Subject :=
  match c.source, c.slot with
  | .walk, some j => .slot j
  | _, _ => c.subject

/-- Capture an exception: write the record, set the sticky flag and, while the inhibit is clear, queue one ARITH
EXCEPTION (R22). -/
def capture (code : ExcCode) (source : ExcSource) (subject : Subject) (slot : Option Nat) (s : State) : State :=
  let c : Capture := ⟨code, source, subject, slot⟩
  let s1 := { s with arith := { s.arith with sticky := true, capture := some c } }
  if s.arith.inhibit then s1 else emit .arithException .alert c.eventSubject code.code source.code s1

/-- The trap or notice of a code is enabled (R20, R21). -/
def Arith.enabled (a : Arith) : ExcCode → Bool
  | .undefined => a.trap
  | .overflow => a.overflowNotice
  | .underflow => a.underflowNotice

/-- Raise what a saturation reported, if anything: it is captured when its notice is enabled (R21). -/
def raise (exc : Option ExcCode) (source : ExcSource) (subject : Subject) (s : State) : State :=
  match exc with
  | some code => if s.arith.enabled code then capture code source subject none s else s
  | none => s

/-! ## What a change posts with the Position Engine -/

/-- Advance the generation number, wrapping (R93, R95). -/
def bumpGeneration (s : State) : State := { s with pen := { s.pen with generation := s.pen.generation + 1 } }

/-- A free engine looks at what waits and starts it: the recheck first, clearing its flag, and otherwise the OFFER or
CONFIRM; with nothing waiting it stays IDLE (R94). The base capture is WALK_START's (R96; log 7). -/
def Pen.takeUp (x : Pen) : Pen :=
  if x.flight.isSome then x
  else if x.recheckFlag then { x with recheckFlag := false, flight := some ⟨none, none, false⟩ }
  else
    match x.waiting with
    | some r => { x with waiting := none, flight := some ⟨some r, none, false⟩ }
    | none => x

/-- A recheck request sets the recheck flag, and a free engine starts it at once (R94). -/
def Pen.posted (x : Pen) : Pen := Pen.takeUp { x with recheckFlag := true }

/-- Post a recheck request; in CONFIG it is discarded (R94, R112). -/
def postRecheck (s : State) : State :=
  if s.svc.part = .config then s else { s with pen := s.pen.posted }

/-- Post a recheck request in SERVICE only (R27, R48, R186). -/
def postRecheckInService (s : State) : State := if s.svc.part = .service then postRecheck s else s

end Sys2Proof.Machine
end

