-- ==== Sys2Proof/Machine/Operands.lean ====
section
/-! DEFINITION. The operand forms of the commands: object numbers, enumeration codes, ranges, signed fields and owner
ports (R179, R180). A code outside its field's set gives none. -/

namespace Sys2Proof.Machine

/-- A cavern number (R179). -/
def cavernOf (b : Byte) : Option Cavern := if b = 1 then some .cv1 else if b = 2 then some .cv2 else none

/-- A store number (R179). -/
def storeOf (b : Byte) : Option Store := if b = 1 then some .hsA else if b = 2 then some .hsB else none

/-- A train number (00 Naming). -/
def trainOf (b : Byte) : Option Train := Train.ofNumber b.toNat

/-- A cavern preference: 0 ANY, 1 CV1, 2 CV2 (R179). -/
def cavernPref (b : Byte) : Option (Option Cavern) := if b = 0 then some none else (cavernOf b).map some

/-- A store preference: 0 ANY, 1 HS-A, 2 HS-B (R179). -/
def storePref (b : Byte) : Option (Option Store) := if b = 0 then some none else (storeOf b).map some

/-- A band side (R179). -/
def sideOf (b : Byte) : Option BandSide := if b = 1 then some .bottom else if b = 2 then some .top else none

/-- A reserve band code, 0 to 7 (R28). -/
def bandCodeOf (b : Byte) : Option (BitVec 3) := if b.toNat ≤ 7 then some (b.setWidth 3) else none

/-- A rounding mode (R179). -/
def modeOf (b : Byte) : Option Mode := if b = 1 then some .guarded else if b = 2 then some .nearest else none

/-- An on/off setting (R179). -/
def settingOf (b : Byte) : Option Bool := if b = 0 then some false else if b = 1 then some true else none

/-- A report condition (R179). -/
def conditionOf (b : Byte) : Option Condition :=
  if b = 1 then some .ready else if b = 2 then some .notReady else if b = 3 then some .tripped else none

/-- An outlet validity mark: whether it is VALID (R179). -/
def outletMarkOf (b : Byte) : Option Bool := if b = 1 then some true else if b = 2 then some false else none

/-- An instrument source number (08, source table). -/
def sourceOf (b : Byte) : Option Source :=
  if b = 1 then some .s1 else if b = 2 then some .s2 else if b = 3 then some .s3 else if b = 4 then some .s4
  else if b = 5 then some .s5 else if b = 6 then some .s6 else none

/-- The figures of SCAN SLOTS (R91). -/
inductive ScanFigure where | power | bandUp | bandDown | margin
  deriving DecidableEq, Repr

/-- A figure code of SCAN SLOTS (R179). -/
def scanFigureOf (b : Byte) : Option ScanFigure :=
  if b = 1 then some .power else if b = 2 then some .bandUp else if b = 3 then some .bandDown
  else if b = 4 then some .margin else none

/-- The comparisons of SCAN SLOTS (R91). -/
inductive Comparison where | equal | atLeast | atMost
  deriving DecidableEq, Repr

/-- A comparison code of SCAN SLOTS (R179). -/
def comparisonOf (b : Byte) : Option Comparison :=
  if b = 1 then some .equal else if b = 2 then some .atLeast else if b = 3 then some .atMost else none

/-- A figure lies in a range, both ends included. -/
def within (lo hi x : Nat) : Bool := lo ≤ x && x ≤ hi

/-- A signed figure lies within a magnitude. -/
def withinPower (x : Int) : Bool := -(Config.powerTop : Int) ≤ x && x ≤ Config.powerTop

/-- The bit of a settings byte (R179). -/
def settingBit (b : Byte) (n : Nat) : Bool := b.getLsbD n

/-- A train command names a train: a number other than 1 to 5 is RANGE, a foreign port is PORT (R118, R120, R127,
R144). -/
inductive Named where | train (t : Train) | range | port
  deriving DecidableEq, Repr

/-- The first two checks of an owner command (R118, R120, R127, R144). -/
def nameTrain (p : Port) (b : Byte) : Named :=
  match trainOf b with
  | some t => if t.owner = p then .train t else .port
  | none => .range

end Sys2Proof.Machine
end

