-- ==== Sys2Proof/Machine/Answers.lean ====
section
/-! DEFINITION. Multi-byte fields, results and their placing at a port (R176, R179, R181). -/

namespace Sys2Proof.Machine

/-! ## Multi-byte fields (R179) -/

/-- A field of a number of bytes, most significant byte first (R179). -/
def putBE : Nat → Nat → List Byte
  | 0, _ => []
  | n + 1, x => BitVec.ofNat 8 (x / 256 ^ n) :: putBE n x

/-- A signed field in two's complement (R179). -/
def putSigned (n : Nat) (x : Int) : List Byte := putBE n (x % (256 ^ n : Nat)).toNat

/-- A field that may be absent: all bits set when it is (R179). -/
def putOpt (n : Nat) : Option Nat → List Byte
  | some x => putBE n x
  | none => putBE n (256 ^ n - 1)

/-- A signed field that may be absent: the lowest number when it is (R179). -/
def putSignedOpt (n : Nat) : Option Int → List Byte
  | some x => putSigned n x
  | none => putBE n (256 ^ n / 2)

/-- A one-byte flag. R179 gives codes for the on/off settings alone; that a set flag of a body (R182) is sent as 1 and a
clear one as 0 is the model's choice (log 53). -/
def putFlag (b : Bool) : List Byte := [if b then 1 else 0]

/-- The number that a field holds, most significant byte first (R179). -/
def getBE (bytes : List Byte) : Nat := bytes.foldl (fun n b => n * 256 + b.toNat) 0

/-! ## Results (R181) -/

/-- The result codes (R181). -/
inductive ResultCode where
  | done | queued | unknown | port | state | range | locked | incomplete | staleSequence | held | noAbility | mismatch
  | shortfall | lapsed | wrongDirection | notRunning | arith | none
  deriving DecidableEq, Repr

/-- The code byte of a result (R181). -/
def ResultCode.code : ResultCode → Nat
  | .done => 0 | .queued => 1 | .unknown => 2 | .port => 3 | .state => 4 | .range => 5 | .locked => 6
  | .incomplete => 7 | .staleSequence => 9 | .held => 10 | .noAbility => 11 | .mismatch => 12 | .shortfall => 13
  | .lapsed => 14 | .wrongDirection => 15 | .notRunning => 16 | .arith => 17 | .none => 18

/-- An answer: its result code, its flags and its body (R181). -/
structure Answer where
  code : ResultCode
  clamped : Bool := false
  stale : Bool := false
  granted : Bool := false
  missed : Bool := false
  body : List Byte := []
  deriving DecidableEq, Repr

/-- An answer with no body and no flag. -/
def Answer.bare (code : ResultCode) : Answer := { code := code }

/-- DONE with a body and no flag. -/
def Answer.done (body : List Byte) : Answer := { code := .done, body := body }

/-- The flags byte (R181). -/
def Answer.flags (a : Answer) : Nat := bit 0 a.clamped + bit 1 a.stale + bit 2 a.granted + bit 3 a.missed

/-- The full form: a head of four bytes and the body (R181). -/
def Answer.full (a : Answer) : List Byte :=
  [BitVec.ofNat 8 a.code.code, BitVec.ofNat 8 a.flags] ++ putBE 2 a.body.length ++ a.body

/-- The one-byte form: the code in bits 4 to 0 and CLAMPED in bit 7 (R181). -/
def Answer.oneByte (a : Answer) : List Byte := [BitVec.ofNat 8 (a.code.code + bit 7 a.clamped)]

/-! ## Placing an answer (R176) -/

/-- A frame of the port is in progress and taken. -/
def Frame.isTaken : Frame → Bool
  | .taken _ => true
  | _ => false

/-- Place result bytes at the taking: the port goes to RESULT, and the first byte goes out in the next slot (R176). -/
def placeNow (p : Port) (bytes : List Byte) (s : State) : State :=
  s.modPort p (fun r =>
    { r with phase := .result, collected := [], streamed := false, result := bytes, read := 0, deferred := false })

/-- Place result bytes later: an answer placed during a frame is not shifted out in that frame (R176). -/
def placeLater (p : Port) (bytes : List Byte) (s : State) : State :=
  s.modPort p (fun r =>
    { r with
      phase := .result, collected := [], streamed := false, result := bytes, read := 0, deferred := r.frame.isTaken })

end Sys2Proof.Machine
end

