-- ==== Sys2Proof/Machine/Flags.lean ====
section
/-! DEFINITION. The conditions, flags and hold states of the part: when each holds, and what its entry and departure
queue (R37 to R40, R53, R54, R58, R59, R114). -/

namespace Sys2Proof.Machine

/-! ## Cavern conditions (R37 to R40) -/

/-- The five conditions of a cavern, in the order of R37. -/
inductive CavernCond where | inReserve | atCeiling | rateHold | breachLow | breachHigh
  deriving DecidableEq, Repr

/-- A condition holds. -/
def CavernRec.cond (r : CavernRec) : CavernCond → Bool
  | .inReserve => r.inReserve | .atCeiling => r.atCeiling | .rateHold => r.rateHold
  | .breachLow => r.breachLow | .breachHigh => r.breachHigh

/-- Set a condition. -/
def CavernRec.setCond (r : CavernRec) (k : CavernCond) (v : Bool) : CavernRec :=
  match k with
  | .inReserve => { r with inReserve := v } | .atCeiling => { r with atCeiling := v }
  | .rateHold => { r with rateHold := v } | .breachLow => { r with breachLow := v }
  | .breachHigh => { r with breachHigh := v }

/-- Set the breach latch of a cavern (R172). -/
def EventPort.setLatch (q : EventPort) (c : Cavern) (v : Bool) : EventPort :=
  match c with
  | .cv1 => { q with latch1 := v } | .cv2 => { q with latch2 := v }

/-- The breach latch of a cavern (R172). -/
def EventPort.latch (q : EventPort) : Cavern → Bool
  | .cv1 => q.latch1 | .cv2 => q.latch2

/-- Set the latch of a cavern for one port unless the port is ABSENT (R172). -/
def setLatchOf (c : Cavern) (p : Port) (s : State) : State :=
  if s.presence p = .absent then s else s.modEvents p (fun q => q.setLatch c true)

/-- On a detection the latch of the cavern is set for every port that is not ABSENT (R172). -/
def setLatches (c : Cavern) (s : State) : State := setLatchOf c .t (setLatchOf c .e (setLatchOf c .c s))

/-- The event of an entry into or a departure from a condition, with its data words; a breach entry also sets the
latches (R40, R172). -/
def emitCond (c : Cavern) (k : CavernCond) (entered : Bool) (s : State) : State :=
  let r := s.cavern c
  match k with
  | .inReserve => emit .cavernInReserve (entryClass entered) (.cavern c) r.mass ((r.limits.map Limits.effFloor).getD 0) s
  | .atCeiling => emit .cavernAtCeiling (entryClass entered) (.cavern c) r.mass ((r.limits.map Limits.effCeiling).getD 0) s
  | .rateHold => emit .rateHold (entryClass entered) (.cavern c) r.spent (r.budget.getD 0) s
  | .breachLow =>
    if entered then setLatches c (emit .envelopeBreach .alert (.cavern c) (r.pressure.getD 0) r.floor s)
    else emit .breachCleared .info (.cavern c) (r.pressure.getD 0) r.floor s
  | .breachHigh =>
    if entered then setLatches c (emit .envelopeBreach .alert (.cavern c) (r.pressure.getD 0) r.ceiling s)
    else emit .breachCleared .info (.cavern c) (r.pressure.getD 0) r.ceiling s

/-- Bring a condition to a value: an entry or departure queues its event, and an evaluation that leaves it as it was
queues nothing (R37, R40). -/
def changeCond (c : Cavern) (k : CavernCond) (v : Bool) (s : State) : State :=
  if (s.cavern c).cond k = v then s else emitCond c k v (s.modCavern c (fun r => r.setCond k v))

/-- Evaluate IN_RESERVE and AT_CEILING of a configured cavern whose effective limits are present (R37). -/
def evalMassConds (c : Cavern) (s : State) : State :=
  let r := s.cavern c
  match r.configured, r.limits with
  | true, some l =>
    changeCond c .atCeiling (l.effCeiling ≤ r.mass) (changeCond c .inReserve (r.mass ≤ l.effFloor) s)
  | _, _ => s

/-- Evaluate RATE_HOLD of a configured cavern whose rate budget is present (R30, R38). -/
def evalRateHold (c : Cavern) (s : State) : State :=
  let r := s.cavern c
  match r.configured, r.budget with
  | true, some b => changeCond c .rateHold (b ≤ r.spent) s
  | _, _ => s

/-- Evaluate the breach conditions of a configured cavern against a pressure copy that is GOOD or SUSPECT. A move from
one breach straight to the other leaves the first before it enters the second (R39; log 23). -/
def evalBreach (c : Cavern) (s : State) : State :=
  let r := s.cavern c
  match r.configured, r.pressureV, r.pressure with
  | true, .good, some p | true, .suspect, some p =>
    if p < r.floor then changeCond c .breachLow true (changeCond c .breachHigh false s)
    else if r.ceiling < p then changeCond c .breachHigh true (changeCond c .breachLow false s)
    else changeCond c .breachHigh false (changeCond c .breachLow false s)
  | _, _, _ => s

/-! ## Store flags (R53, R54, R58, R59) -/

/-- Enter FULL after a deposit that wrote off some heat (R53). -/
def enterFull (st : Store) (writtenOff : Nat) (s : State) : State :=
  if (s.store st).full then s
  else
    let s1 := s.modStore st (fun r => { r with full := true })
    emit .storeFull .notice (.store st) writtenOff (s1.store st).content s1

/-- The margin in MJ, rounded up (R54). -/
def StoreRec.marginHeat (r : StoreRec) : Nat := roundDiv .up (r.capacity * r.margin) 100

/-- The FULL release test: FULL is left when free capacity × 100 is at least capacity × the margin percentage
(R54). -/
def releaseFull (st : Store) (s : State) : State :=
  let r := s.store st
  if r.full ∧ r.capacity * r.margin ≤ r.free * 100 then
    emit .storeFull .info (.store st) r.free r.marginHeat (s.modStore st (fun r => { r with full := false }))
  else s

/-- A short draw adds its deficit to the shortfall, and enters SHORT if SHORT is clear (R58). -/
def shortDraw (st : Store) (deficit needed : Nat) (s : State) : State :=
  let s1 := s.modStore st (fun r => { r with shortfall := min Config.countTop (r.shortfall + deficit) })
  if (s1.store st).short then s1
  else emit .reheatShort .notice (.store st) deficit needed (s1.modStore st (fun r => { r with short := true }))

/-- Leave SHORT when the store has no drawing train: the shortfall is reported and set to 0 (R59). -/
def leaveShort (st : Store) (s : State) : State :=
  let r := s.store st
  if r.short ∧ r.drawing = [] then
    emit .reheatShort .info (.store st) r.shortfall 0
      (s.modStore st (fun r => { r with short := false, shortfall := 0 }))
  else s

/-- A parcel is usable when its temperature is KNOWN and at least T_use (R56). -/
def Parcel.usable (tUse : Nat) (p : Parcel) : Bool :=
  match p.temp with
  | some t => tUse ≤ t
  | none => false

/-- Parcel 0 of a store is usable (R70, R121). -/
def StoreRec.topUsable (r : StoreRec) : Bool :=
  match r.stack with
  | p :: _ => p.usable r.tUse
  | [] => false

/-! ## Summed figures and the hold monitor (R7, R114) -/

/-- Summed usable air. -/
def State.sumAir (s : State) : Nat := s.ciu.cv1.usableAir + s.ciu.cv2.usableAir
/-- Summed room. -/
def State.sumRoom (s : State) : Nat := s.ciu.cv1.room + s.ciu.cv2.room
/-- Summed held reachable heat. -/
def State.sumReachable (s : State) : Nat := s.hsu.hsA.reachable + s.hsu.hsB.reachable
/-- Summed free capacity. -/
def State.sumFree (s : State) : Nat := s.hsu.hsA.free + s.hsu.hsB.free

/-- A reason after an evaluation: it is there when its entry condition holds, or when it was there and its release
condition does not hold (R114). -/
def reasonAfter (entry release was : Bool) : Bool := entry || (was && !release)

/-- A direction is HELD while its reason set is not empty (R114). -/
def HoldReasons.held (r : HoldReasons) : Bool := r.air || r.heat || r.room || r.storeRoom || r.full || r.port

/-- A threshold reason: it enters when the figure is below the threshold, and goes when it is at least twice the
threshold (R114). -/
def thresholdReason (figure threshold : Nat) (was : Bool) : Bool :=
  reasonAfter (figure < threshold) (2 * threshold ≤ figure) was

/-- The reasons of GEN as the figures stand (R114). -/
def genReasons (s : State) : HoldReasons where
  air := thresholdReason s.sumAir s.svc.figures.genAir s.pen.genHold.air
  heat := thresholdReason s.sumReachable s.svc.figures.genHeat s.pen.genHold.heat
  room := false
  storeRoom := false
  full := false
  port := s.presence .e ≠ .declared

/-- The reasons of CHG as the figures stand (R114). -/
def chgReasons (s : State) : HoldReasons where
  air := false
  heat := false
  room := thresholdReason s.sumRoom s.svc.figures.chgRoom s.pen.chgHold.room
  storeRoom := thresholdReason s.sumFree s.svc.figures.chgStore s.pen.chgHold.storeRoom
  full := s.hsu.hsA.full && s.hsu.hsB.full
  port := s.presence .c ≠ .declared

/-- Entering HELD queues HOLD, becoming FREE queues RESUME, and a change of reasons while HELD queues nothing. The
direction word is 1 for GEN and 2 for CHG (R114, R179). -/
def emitHold (direction : Nat) (before after : HoldReasons) (s : State) : State :=
  if before.held = after.held then s
  else if after.held then emit .hold .notice .nothing direction after.bits s
  else emit .resume .notice .nothing direction 0 s

/-- The hold monitor evaluates both states on the figures as they stand (R114). That the record of GEN comes before that
of CHG is the model's choice (log 48). -/
def evalHold (s : State) : State :=
  let g := genReasons s
  let c := chgReasons s
  emitHold 2 s.pen.chgHold c (emitHold 1 s.pen.genHold g { s with pen := { s.pen with genHold := g, chgHold := c } })

/-- An inventory change: the generation number advances and the hold monitor is re-evaluated (R45, R70, R95). -/
def inventoryChange (s : State) : State := evalHold (bumpGeneration s)

/-- An inventory change when something changed. -/
def inventoryChangeIf (changed : Bool) (s : State) : State := if changed then inventoryChange s else s

/-! ## Admitted directions (R119) -/

/-- GEN is admitted: by an ACTIVE current slot of positive net power, or by a staged COMMITTED next slot (R119). -/
def View.admitsGen (v : View) : Bool :=
  (match v.active with | some n => 0 < n | none => false) ||
    (match v.next with | some x => x.state == .committed && 0 < x.power | none => false)

/-- CHG is admitted, the mirror case (R119). -/
def View.admitsChg (v : View) : Bool :=
  (match v.active with | some n => n < 0 | none => false) ||
    (match v.next with | some x => x.state == .committed && x.power < 0 | none => false)

/-- The kind of a train is admitted (R119). -/
def View.admits (v : View) (t : Train) : Bool := if t.expands then v.admitsGen else v.admitsChg

end Sys2Proof.Machine
end

