-- ==== Sys2Proof/Machine/Ciu.lean ====
section
/-! DEFINITION. The Cavern Inventory Unit: recomputation of derived figures, mass and counters, attachment,
measurement copies and reconciliation (chapter 2). What other blocks do in answer is in Machine/Plant.lean. -/

namespace Sys2Proof.Machine

/-! ## Recomputation of derived figures (R4 to R8, R30) -/

/-- The temperature a conversion of a cavern uses: its last valid temperature, or its reference temperature with the
trap disabled; none when the trap abandons the computation (R4, R20). -/
def selectTemp (s : State) (r : CavernRec) : Option Nat :=
  match r.lastTemp with
  | some t => some t
  | none => if s.arith.trap then none else some r.refTemp

/-- Recompute the bands and effective limits from the raw masses a cavern holds (R6, R30). -/
def recomputeBands (c : Cavern) (s : State) : State :=
  s.modCavern c (fun r =>
    match r.configured, r.limits with
    | true, some l =>
      let range := l.rawCeiling - l.rawFloor
      { r with limits := some (effectiveLimits l.rawFloor l.rawCeiling
          (sideBand s.arith.mode range .bottom s.ciu.hwSide s.ciu.hwCode r.swSide r.swCode)
          (sideBand s.arith.mode range .top s.ciu.hwSide s.ciu.hwCode r.swSide r.swCode)) }
    | _, _ => r)

/-- Recompute the raw masses by A2 at the floor and at the ceiling, and then the bands and effective limits. An
abandoned computation keeps every figure (R5, R20, R30; log 12, and log 49 for the order of two captures). -/
def recomputeLimits (c : Cavern) (s : State) : State :=
  let r := s.cavern c
  if r.configured then
    match selectTemp s r with
    | none =>
      raise (some .undefined) .bounds (.cavern c) (s.modCavern c (fun r => { r with keptLimits := true }))
    | some t =>
      let lo := massAtPressure (roundingOf s.arith.mode .requirement) r.floor r.gain t
      let hi := massAtPressure (roundingOf s.arith.mode .availability) r.ceiling r.gain t
      recomputeBands c
        (raise hi.exc .bounds (.cavern c)
          (raise lo.exc .bounds (.cavern c)
            (s.modCavern c (fun r =>
              { r with limits := some ⟨lo.val, hi.val, 0, 0, lo.val, hi.val⟩, keptLimits := false }))))
  else s

/-- Recompute the rate budget by A4 (R8, R30). -/
def recomputeBudget (c : Cavern) (s : State) : State :=
  let r := s.cavern c
  if r.configured then
    match selectTemp s r with
    | none => raise (some .undefined) .rate (.cavern c) (s.modCavern c (fun r => { r with keptBudget := true }))
    | some t =>
      let b := rateBudget s.arith.mode r.rate r.gain t
      raise b.exc .rate (.cavern c) (s.modCavern c (fun r => { r with budget := some b.val, keptBudget := false }))
  else s

/-- Recompute the pressure estimate by A1 (R4, R30, R35). -/
def recomputeEstimate (c : Cavern) (s : State) : State :=
  let r := s.cavern c
  if r.configured then
    match selectTemp s r with
    | none => raise (some .undefined) .pressure (.cavern c) (s.modCavern c (fun r => { r with keptEstimate := true }))
    | some t =>
      let p := pressureEstimate r.mass r.gain t
      raise p.exc .pressure (.cavern c)
        (s.modCavern c (fun r => { r with estimate := some p.val, keptEstimate := false }))
  else s

/-- Recompute every figure that is absent or was kept after an abandoned computation, when the trap is turned off
(R23, R30); limits, then rate budget, then estimate (log 36). -/
def recomputeKept (c : Cavern) (s : State) : State :=
  let r := s.cavern c
  let s1 := if r.keptLimits ∨ r.limits = none then recomputeLimits c s else s
  let s2 := if r.keptBudget ∨ r.budget = none then recomputeBudget c s1 else s1
  if r.keptEstimate ∨ r.estimate = none then recomputeEstimate c s2 else s2

/-! ## Mass and counters (R32, R33) -/

/-- A report fills or withdraws: the mass saturates at its range, the applied change goes to the counter, a saturation
makes the quality ESTIMATED, and the reported air goes in full to budget spent (R32; log 18 for the subject of the
captures, and log 49 for the order of two captures). -/
def applyAir (c : Cavern) (fill : Bool) (air : Nat) (s : State) : State :=
  let r := s.cavern c
  let m := saturateMass Config.massTop (if fill then (r.mass : Int) + air else (r.mass : Int) - air)
  let applied : Int := if fill then (m.val : Int) - r.mass else (r.mass : Int) - m.val
  let n := saturateCounter ((if fill then r.filled else r.withdrawn) + applied)
  raise n.exc .report (.cavern c)
    (raise m.exc .report (.cavern c)
      (s.modCavern c (fun r =>
        { r with
          mass := m.val
          filled := if fill then n.val else r.filled
          withdrawn := if fill then r.withdrawn else n.val
          spent := min Config.reportTop (r.spent + air)
          quality := if m.exc.isSome then .estimated else r.quality })))

/-! ## Attachment (R36) -/

/-- A train joins the attached set of a cavern (R36). -/
def attachCavern (c : Cavern) (t : Train) (s : State) : State :=
  s.modCavern c (fun r => { r with attached := r.attached ++ [t] })

/-- A train leaves the attached set of a cavern; the stable timer starts from 0 when the set becomes empty, and a
LOST train makes the cavern ESTIMATED (R34, R36). -/
def releaseCavern (c : Cavern) (t : Train) (lost : Bool) (s : State) : State :=
  s.modCavern c (fun r =>
    let left := r.attached.filter (fun x => x ≠ t)
    { r with
      attached := left
      stableTimer := if left = [] then 0 else r.stableTimer
      quality := if lost then .estimated else r.quality })

/-- The stable timer counts an advance while the cavern is IDLE (R36). -/
def countStable (r : CavernRec) : CavernRec :=
  if r.flow = .idle then { r with stableTimer := countUp r.stableTimer } else r

/-! ## Reconciliation (R42) -/

/-- The cavern reconciles on a GOOD pressure frame when it is configured, its quality is not UNKNOWN, it has been IDLE
for the stable time and its temperature copy is GOOD (R42). -/
def CavernRec.reconciles (r : CavernRec) (stableTime : Nat) : Bool :=
  r.configured && r.quality != .unknown && r.flow == .idle && decide (stableTime ≤ r.stableTimer) && r.tempV == .good

/-- The distance of two figures. -/
def gap (a b : Nat) : Nat := (a - b) + (b - a)

/-- The correction of R42, steps 1 to 5, but for its recheck request: mass from A2 at the measured pressure and
temperature, the difference to reconciled-net, TRACKED, a new estimate, RECONCILED and the conditions (log 18 for the
subject of the captures, and log 49 for the order of two captures). That ARITH EXCEPTION comes before RECONCILED and the
condition records is the model's choice (R165; log 51). -/
def correctMass (c : Cavern) (pressure temp : Nat) (s : State) : State :=
  let r := s.cavern c
  let m := massAtPressure .nearest pressure r.gain temp
  let d : Int := (m.val : Int) - r.mass
  let n := saturateCounter (r.reconciled + d)
  let s1 := s.modCavern c (fun r => { r with mass := m.val, reconciled := n.val, quality := .tracked })
  let s2 := recomputeEstimate c (raise n.exc .reconcile (.cavern c) (raise m.exc .reconcile (.cavern c) s1))
  evalMassConds c (emit .reconciled .notice (.cavern c) d pressure s2)

/-- The reconciliation decision on a GOOD pressure frame (R42). -/
def reconcileCavern (c : Cavern) (s : State) : State :=
  let r := s.cavern c
  if r.reconciles s.svc.times.stable then
    match r.pressure, r.temp, r.estimate with
    | some p, some t, some e =>
      if r.tol < gap p e then postRecheck (correctMass c p t s)
      else s.modCavern c (fun r => { r with quality := .tracked })
    | _, _, _ => s
  else s

end Sys2Proof.Machine
end

