-- ==== Sys2Proof/Machine/Hsu.lean ====
section
/-! DEFINITION. The Heat Store Unit: parcel stacks, deposit, draw, aging, top reconciliation, attachment and
reachable heat (chapter 3). What other blocks do in answer is in Machine/Plant.lean. -/

namespace Sys2Proof.Machine

/-! ## Counters (R66)

A counter that saturates raises with the store as subject; the spec names neither subject nor source, and both are the
model's reading (log 18). -/

/-- Add to the deposited counter, with source DEPOSIT and the store as subject (log 18). -/
def addDeposited (st : Store) (x : Nat) (s : State) : State :=
  let n := saturateCounter ((s.store st).deposited + x)
  raise n.exc .deposit (.store st) (s.modStore st (fun r => { r with deposited := n.val }))

/-- Add to the drawn counter, with source DRAW and the store as subject (log 18). -/
def addDrawn (st : Store) (x : Nat) (s : State) : State :=
  let n := saturateCounter ((s.store st).drawn + x)
  raise n.exc .draw (.store st) (s.modStore st (fun r => { r with drawn := n.val }))

/-- Add to the written-off counter, with the source of the operation that wrote off and the store as subject (log
18). -/
def addWrittenOff (st : Store) (source : ExcSource) (x : Nat) (s : State) : State :=
  let n := saturateCounter ((s.store st).writtenOff + x)
  raise n.exc source (.store st) (s.modStore st (fun r => { r with writtenOff := n.val }))

/-- Add a signed change to the reconciled-net counter, with source RECONCILE and the store as subject (log 18). -/
def addReconciled (st : Store) (x : Int) (s : State) : State :=
  let n := saturateCounter ((s.store st).reconciled + x)
  raise n.exc .reconcile (.store st) (s.modStore st (fun r => { r with reconciled := n.val }))

/-! ## Reachable heat (R56) -/

/-- The heat of the run of usable parcels from the top, and whether the run ended at an UNKNOWN parcel (R20, R56). -/
def reachableRun (tUse : Nat) : List Parcel → Nat × Bool
  | [] => (0, false)
  | p :: rest =>
    match p.temp with
    | none => (0, true)
    | some t => if tUse ≤ t then (p.heat + (reachableRun tUse rest).1, (reachableRun tUse rest).2) else (0, false)

/-- Re-evaluate the held reachable heat. With the trap enabled, an evaluation that reaches an UNKNOWN parcel is
captured with source DRAW and abandoned (R56). -/
def evalReachable (st : Store) (s : State) : State :=
  let r := s.store st
  let run := reachableRun r.tUse r.stack
  if run.2 && s.arith.trap then raise (some .undefined) .draw (.store st) s
  else s.modStore st (fun r => { r with reachable := run.1 })

/-! ## Deposit (R50 to R53) -/

/-- Merge the two bottom parcels of a stack into one, with the origin and the opening interval of the lower (R51). -/
def mergeBottom (mode : Mode) (tBase : Nat) : List Parcel → List Parcel
  | [] => []
  | [p] => [p]
  | [a, b] => [⟨a.heat + b.heat, mergeTemp mode tBase a.heat a.temp b.heat b.temp, false, b.origin, b.opening⟩]
  | p :: rest => p :: mergeBottom mode tBase rest

/-- The store has an OPEN parcel, at index 0 (R47). -/
def StoreRec.hasOpen (r : StoreRec) : Bool :=
  match r.stack with
  | p :: _ => p.opened
  | [] => false

/-- On a stack of 24 parcels the two bottom parcels merge before a parcel is opened, and reachable heat is
re-evaluated (R51, R56). -/
def makeRoom (st : Store) (s : State) : State :=
  if Config.stackTop ≤ (s.store st).stack.length then
    evalReachable st (s.modStore st (fun r => { r with stack := mergeBottom s.arith.mode r.tBase r.stack }))
  else s

/-- Open a parcel: after the merge of R51 on a stack of 24, push a parcel of heat 0 at T_base, OPEN, with the
reporting train as origin and the current interval as opening interval (R50). -/
def openParcel (st : Store) (t : Train) (s : State) : State :=
  (makeRoom st s).modStore st (fun r =>
    { r with stack := ⟨0, some r.tBase, true, some t, s.sbk.current⟩ :: r.stack })

/-- Put heat into parcel 0: by A8 deposit at a valid outlet temperature, or with the temperature becoming UNKNOWN
(R52). -/
def depositTop (mode : Mode) (tBase heat : Nat) (outlet : Option Nat) : List Parcel → List Parcel
  | [] => []
  | p :: rest =>
    { p with heat := p.heat + heat, temp := depositTemp mode tBase p.heat p.temp heat outlet } :: rest

/-- A deposit of the heat that free capacity leaves, into the OPEN parcel where the store has one, and the evaluation of
reachable heat that follows (R52, R53, R56). A deposit capped to nothing makes the temperature UNKNOWN at an outlet that
is not valid, as every deposit there does, and changes nothing at a valid one (log 17). -/
def depositOpen (st : Store) (taken : Nat) (outlet : Option Nat) (s : State) : State :=
  if (s.store st).hasOpen && (decide (0 < taken) || outlet.isNone) then
    evalReachable st (s.modStore st (fun r =>
      { r with stack := depositTop s.arith.mode r.tBase taken outlet r.stack }))
  else s

/-- The heat of a charging train's report, with its outlet temperature where valid (R50, R52, R53): written off at or
below T_base; otherwise deposited into the OPEN parcel, opened where free capacity allows, capped at free capacity,
with the excess written off and FULL entered on a capped deposit or at no free capacity. -/
def depositHeat (st : Store) (t : Train) (q : Nat) (outlet : Option Nat) (s : State) : State :=
  let r := s.store st
  let s1 := addDeposited st q s
  if outlet.any (fun o => o ≤ r.tBase) then addWrittenOff st .deposit q s1
  else
    let taken := min q r.free
    let s2 := if r.hasOpen || r.free == 0 then s1 else openParcel st t s1
    let s3 := depositOpen st taken outlet s2
    let s4 := if taken < q then addWrittenOff st .deposit (q - taken) s3 else s3
    if taken < q ∨ (s4.store st).free = 0 then enterFull st (q - taken) s4 else s4

/-! ## Draw (R57, R58, R60) -/

/-- The outcome of a draw from a stack: the stack left, the heat taken, the heat still owed, and whether the draw
stopped at an UNKNOWN parcel. -/
structure DrawResult where
  stack : List Parcel
  taken : Nat
  owed : Nat
  unknown : Bool
  deriving DecidableEq, Repr

/-- Take heat from the top downward, from usable parcels only; a parcel drawn to heat 0 is removed (R57). -/
def drawStack (tUse : Nat) : Nat → List Parcel → DrawResult
  | owed, [] => ⟨[], 0, owed, false⟩
  | owed, p :: rest =>
    if owed = 0 then ⟨p :: rest, 0, 0, false⟩
    else
      match p.temp with
      | none => ⟨p :: rest, 0, owed, true⟩
      | some t =>
        if tUse ≤ t then
          if owed < p.heat then ⟨{ p with heat := p.heat - owed } :: rest, owed, 0, false⟩
          else
            let d := drawStack tUse (owed - p.heat) rest
            ⟨d.stack, d.taken + p.heat, d.owed, d.unknown⟩
        else ⟨p :: rest, 0, owed, false⟩

/-- The draw of a drawing train's air M > 0: the heat needed is A6 of M at q_x, a requirement. A draw that reaches an
UNKNOWN parcel with heat owed is abandoned whole under the trap and makes the store ESTIMATED (R60); otherwise a draw
with heat owed is a short draw (R57, R58). An exception of the A6 has source DRAW; that its subject is the store is the
model's reading (log 18). -/
def drawHeat (st : Store) (air : Nat) (s : State) : State :=
  let need := heatForMass (roundingOf s.arith.mode .requirement) air s.svc.figures.qx
  let s0 := raise need.exc .draw (.store st) s
  let r := s0.store st
  let d := drawStack r.tUse need.val r.stack
  if d.unknown && s0.arith.trap then
    raise (some .undefined) .draw (.store st) (s0.modStore st (fun r => { r with quality := .estimated }))
  else
    let s1 := addDrawn st d.taken (s0.modStore st (fun r => { r with stack := d.stack }))
    let s2 := releaseFull st (evalReachable st s1)
    if d.owed = 0 then s2 else shortDraw st d.owed need.val s2

/-! ## Aging (R62) -/

/-- Decay of one parcel; the OPEN parcel is left as it is (R16, R62). -/
def decayParcel (mode : Mode) (tBase d : Nat) (p : Parcel) : Parcel :=
  if p.opened then p
  else
    { p with
      heat := decayed mode d p.heat
      temp := p.temp.map (fun t => tBase + decayed mode d (excess tBase t)) }

/-- A CLOSED parcel that an aging pass removes: KNOWN below T_spent, or of heat 0 (R62). -/
def spentParcel (tSpent : Nat) (p : Parcel) : Bool :=
  !p.opened && ((match p.temp with | some t => decide (t < tSpent) | none => false) || p.heat == 0)

/-- The sum of the heats of a list of parcels. -/
def heatOf (ps : List Parcel) : Nat := (ps.map Parcel.heat).sum

/-- An aging pass over one store that is configured and holds parcels (R62, steps 1 to 3). All the heat that leaves
the stack, by decay and by removal, goes to written-off, in one addition (log 49). -/
def ageStore (st : Store) (s : State) : State :=
  let r := s.store st
  if r.configured ∧ r.stack ≠ [] then
    let aged := r.stack.map (decayParcel s.arith.mode r.tBase r.decay)
    let left := aged.filter (fun p => !spentParcel r.tSpent p)
    let s1 := s.modStore st (fun r => { r with stack := left })
    releaseFull st (evalReachable st (addWrittenOff st .decay (heatOf r.stack - heatOf left) s1))
  else s

/-! ## Top reconciliation and discarding (R64, R65) -/

/-- The store reconciles on a GOOD top-temperature frame when it is configured, loaded, IDLE and not empty (R64). -/
def StoreRec.eligible (r : StoreRec) : Bool :=
  r.configured && r.loadedFlag && r.flow == .idle && !r.stack.isEmpty

/-- Parcel 0 disagrees with a measured temperature: it is UNKNOWN or beyond the tolerance (R64). -/
def Parcel.disagrees (p : Parcel) (tol measured : Nat) : Bool :=
  match p.temp with
  | none => true
  | some t => decide (tol < (t - measured) + (measured - t))

/-- The correction of parcel 0 at a measured temperature: A8 top reconciliation, the change to reconciled-net,
TRACKED, removal of a parcel of heat 0, reachable heat, the FULL release test and RECONCILED (R64). An exception of the
A8 has source RECONCILE; that its subject is the store is the model's reading (log 18). That ARITH EXCEPTION comes before
the store's records and RECONCILED is the model's choice (R165; log 51). -/
def correctTop (st : Store) (p : Parcel) (rest : List Parcel) (measured : Nat) (s : State) : State :=
  let r := s.store st
  let h := reconciledHeat r.tBase r.free p.heat p.temp measured
  let d : Int := (h.val : Int) - p.heat
  let p' : Parcel := { p with heat := h.val, temp := some (reconciledTemp r.tBase measured) }
  let s1 := s.modStore st (fun r => { r with stack := if h.val = 0 then rest else p' :: rest, quality := .tracked })
  let s2 := addReconciled st d (raise h.exc .reconcile (.store st) s1)
  emit .reconciled .notice (.store st) d measured (releaseFull st (evalReachable st s2))

/-- The examination of a GOOD top-temperature frame; a correction posts a recheck request (R64). -/
def reconcileTop (st : Store) (measured : Nat) (s : State) : State :=
  let r := s.store st
  match r.eligible, r.stack with
  | true, p :: rest =>
    if p.disagrees r.tol measured then postRecheck (correctTop st p rest measured s)
    else s.modStore st (fun r => { r with quality := .tracked })
  | _, _ => s

/-- Remove parcel 0 of a store and write off its heat, with TOP DISCARDED (R65, steps 1 to 3). -/
def discardParcel (st : Store) (p : Parcel) (rest : List Parcel) (s : State) : State :=
  let s1 := addWrittenOff st .decay p.heat (s.modStore st (fun r => { r with stack := rest }))
  emit .topDiscarded .notice (.store st) p.heat (p.temp.getD 65535) (releaseFull st (evalReachable st s1))

/-! ## Attachment (R49, R55, R59) -/

/-- A compression train attaches as the charging train, an expansion train as a drawing train (R49). -/
def attachStore (st : Store) (t : Train) (s : State) : State :=
  s.modStore st (fun r =>
    if t.expands then { r with drawing := r.drawing ++ [t] } else { r with charging := some t })

/-- Close the OPEN parcel (R55). -/
def closeTop : List Parcel → List Parcel
  | [] => []
  | p :: rest => { p with opened := false } :: rest

/-- The record of a store once a train's attachment has ended, but for SHORT: the charging train's release closes the
OPEN parcel, and a LOST train makes the store ESTIMATED (R49, R55, R67). -/
def StoreRec.without (r : StoreRec) (t : Train) (lost : Bool) : StoreRec :=
  let r1 :=
    if t.expands then { r with drawing := r.drawing.filter (fun x => x ≠ t) }
    else if r.charging = some t then { r with charging := none, stack := closeTop r.stack }
    else r
  if lost then { r1 with quality := .estimated } else r1

/-- A release of an attachment in the store (R49). -/
def releaseStore (st : Store) (t : Train) (lost : Bool) (s : State) : State :=
  let before := (s.store st).short
  let s1 := s.modStore st (fun r => r.without t lost)
  let s2 := if t.expands then leaveShort st s1 else s1
  inventoryChangeIf (before != (s2.store st).short) s2

end Sys2Proof.Machine
end

