-- ==== Sys2Proof/Machine/Sbk.lean ====
section
/-! DEFINITION. The Schedule Book: the window, slot identity, energy accounts, settlement records and the ring
(chapter 4). -/

namespace Sys2Proof.Machine

/-- Directions (R78). -/
inductive Direction where | gen | chg | idle
  deriving DecidableEq, Repr

/-- GEN when N > 0, CHG when N < 0, IDLE when N = 0 (R78). -/
def directionOf (power : Int) : Direction := if 0 < power then .gen else if power < 0 then .chg else .idle

/-- The up side of a band; absent counts as 0 (R78). -/
def Slot.up (x : Slot) : Nat := (x.band.map Band.up).getD 0
/-- The down side of a band; absent counts as 0 (R78). -/
def Slot.down (x : Slot) : Nat := (x.band.map Band.down).getD 0

/-- The interval lies in the window k to k+95 (04, 4.3). -/
def State.inWindow (s : State) (j : Nat) : Bool := s.sbk.current ≤ j && j < s.sbk.current + Config.slotCount

/-- The 96 intervals of the window, in order. -/
def State.window (s : State) : List Nat := (List.range Config.slotCount).map (fun n => s.sbk.current + n)

/-- The checks of a command that names a slot: the window first, then the sequence (R80). -/
inductive Identity where | fits | outside | stale
  deriving DecidableEq, Repr

/-- The identity check of R80. -/
def identify (j : Nat) (seq : Byte) (s : State) : Identity :=
  if s.inWindow j then if (s.slot j).seq = seq then .fits else .stale else .outside

/-- A slot record becomes EMPTY from OFFERED: N, band and trade reference at their defaults, held ability and expiry
absent, sequence incremented (R79). -/
def Slot.emptied (x : Slot) : Slot :=
  { x with state := .empty, seq := x.seq + 1, power := 0, band := none, ref := 0, offer := none }

/-- A record reinitialised for an interval: the defaults of R78 and the next sequence (R78). -/
def Slot.reinitialised (x : Slot) (interval : Nat) : Slot := Slot.blank interval (x.seq + 1)

/-! ## Energies (R85, R86) -/

/-- Add a signed energy to the delivered energy of an ACTIVE current slot, or else to the unscheduled delivery (R85). -/
def addDelivered (x : Int) (s : State) : State :=
  let k := s.sbk.current
  match (s.slot k).state, (s.slot k).activity with
  | .active, some a =>
    let f := saturateEnergy (a.delivered + x)
    raise f.exc .report (.slot k)
      (s.modSlot k (fun r => { r with activity := some { a with delivered := f.val } }))
  | _, _ =>
    let f := saturateEnergy (s.sbk.unscheduled + x)
    raise f.exc .report (.slot k) { s with sbk := { s.sbk with unscheduled := f.val } }

/-- The energy of a reserve over seconds, with the sign of the reserve (R86). -/
def reserveEnergy (reserve : Int) (seconds : Nat) : Int :=
  if reserve < 0 then -(energyFor reserve.natAbs seconds : Int) else (energyFor reserve.natAbs seconds : Int)

/-- Close the activated-energy integration of an ACTIVE current slot at a second (R86). A close whose seconds would be
negative takes 0 seconds. -/
def closeIntegration (second : Nat) (s : State) : State :=
  let k := s.sbk.current
  match (s.slot k).state, (s.slot k).activity with
  | .active, some a =>
    let f := saturateEnergy (a.energy + reserveEnergy a.reserve (second - a.mark))
    raise f.exc .report (.slot k)
      (s.modSlot k (fun r => { r with activity := some { a with energy := f.val, mark := second } }))
  | _, _ => s

/-! ## Settlement (R87 to R89) -/

/-- The settlement record of a slot and the unscheduled delivery, with the exception of its deviation (R87). -/
def settlementOf (x : Slot) (unscheduled : Int) : Settlement × Option ExcCode :=
  match x.state, x.activity with
  | .active, some a =>
    let scheduled := x.power * 250
    let d := saturateEnergy (a.delivered - scheduled - a.energy)
    (⟨x.interval, x.ref, x.power, ⟨x.up, x.down⟩, scheduled, a.energy, a.delivered, d.val, false, false, x.atRiskSeen,
      x.shortSeen, false, x.seq⟩, d.exc)
  | .voided, _ =>
    (⟨x.interval, x.ref, x.power, ⟨x.up, x.down⟩, 0, 0, unscheduled, unscheduled, false, true, x.atRiskSeen,
      x.shortSeen, false, x.seq⟩, none)
  | _, _ =>
    (⟨x.interval, 0, 0, ⟨0, 0⟩, 0, 0, unscheduled, unscheduled, true, false, false, false, false, x.seq⟩, none)

/-- A record joins the ring after the newest; at a full ring the oldest is discarded and the arriving record carries
OVERRUN (R88). -/
def ringWith (ring : List Settlement) (r : Settlement) : List Settlement :=
  if ring.length < Config.ringTop then ring ++ [r] else ring.drop 1 ++ [{ r with overrun := true }]

/-- Close the slot of the ending interval k: integration at the boundary second, settlement record into the ring,
SLOT SETTLED, and the storage reinitialised for k + 96 with the unscheduled delivery at 0 (R81). In CONFIG only the
last step is taken (R83). That ARITH EXCEPTION of a saturated deviation comes before SLOT SETTLED is the model's choice,
as R165 leaves the order of two blocks' records open (log 51). -/
def closeSlot (s : State) : State :=
  let k := s.sbk.current
  let s1 :=
    if s.svc.part = .config then s
    else
      let a := closeIntegration ((k + 1) * Config.intervalSeconds) s
      let r := settlementOf (a.slot k) a.sbk.unscheduled
      let b := raise r.2 .report (.slot k) { a with sbk := { a.sbk with ring := ringWith a.sbk.ring r.1 } }
      emit .slotSettled .info (.slot k) r.1.deviation r.1.delivered b
  let s2 := if (s1.slot k).state = .empty then s1 else bumpGeneration s1
  let s3 := s2.modSlot k (fun x => x.reinitialised (k + Config.slotCount))
  { s3 with sbk := { s3.sbk with current := k + 1, unscheduled := 0 } }

/-- Open the slot of the interval that has begun: COMMITTED becomes ACTIVE, OFFERED lapses (R82). -/
def openSlot (s : State) : State :=
  let k := s.sbk.current
  let x := s.slot k
  match x.state with
  | .committed =>
    let s1 := bumpGeneration (s.modSlot k (fun x =>
      { x with state := .active, seq := x.seq + 1, activity := some ⟨0, 0, 0, k * Config.intervalSeconds⟩ }))
    emit .slotActive .info (.slot k) x.power (s1.slot k).seq.toNat s1
  | .offered =>
    let s1 := bumpGeneration (s.modSlot k Slot.emptied)
    emit .offerLapsed .notice (.slot k) ((x.offer.map Offered.held).getD 0) (s1.slot k).seq.toNat s1
  | _ => s

/-- The interval of a window from k that falls on a record's index (R83). -/
def intervalAt (k index : Nat) : Nat :=
  k + (index + Config.slotCount - k % Config.slotCount) % Config.slotCount

/-- Rebuild the window around a new current interval: every record reinitialised, unscheduled delivery 0, ring
emptied (R83). -/
def rebuildWindow (k : Nat) (x : Sbk) : Sbk where
  current := k
  slots := x.slots.zipIdx.map (fun r => r.1.reinitialised (intervalAt k r.2))
  unscheduled := 0
  ring := []

end Sys2Proof.Machine
end

