-- ==== Sys2Proof/Machine/Dsu.lean ====
section
/-! DEFINITION. The Dispatch Unit: the split, orders, staging, grants and the permit request queue, stops, trips and
the dispatch view (chapter 6). -/

namespace Sys2Proof.Machine

/-! ## The split (R133, R134) -/

/-- A train of the set S with its capability and its minimum stable load. -/
structure Share where
  train : Train
  cap : Nat
  min : Nat
  deriving DecidableEq, Repr

/-- The trains that hold a permit GRANTED or RUNNING. -/
def Permit.holdsOrder : Permit → Bool
  | .granted | .running => true
  | _ => false

/-- The trains that are attached: GRANTED, RUNNING or STOPPING (R122). -/
def Permit.attached : Permit → Bool
  | .granted | .running | .stopping => true
  | _ => false

/-- A train can carry a share: its capability is above 0 and at least its minimum stable load (R133). -/
def TrainRec.able (r : TrainRec) : Bool := decide (0 < r.cap) && decide (r.minLoad ≤ r.cap)

/-- The set S of a net power, in train order; HELD orders are left out of the split and not of the staged split (R133,
R136). -/
def shareSet (d : Dsu) (power : Int) (staged : Bool) : List Share :=
  if power = 0 then []
  else
    (allTrains.filter (fun t =>
      let r := d.get t
      (t.expands == decide (0 < power)) && r.permit.holdsOrder && (staged || !r.order.held) && r.able)).map
      (fun t => ⟨t, (d.get t).cap, (d.get t).minLoad⟩)

/-- The sum of the minimum stable loads of a set. -/
def sumMin (xs : List Share) : Nat := (xs.map Share.min).sum
/-- The sum of the capabilities of a set. -/
def sumCap (xs : List Share) : Nat := (xs.map Share.cap).sum

/-- Step 1 on the set in reverse train order: while it holds more than one train and the sum of its minima exceeds T,
the highest-numbered train leaves (R134). -/
def standBy (power : Nat) : List Share → List Share
  | [] => []
  | [x] => [x]
  | x :: y :: rest => if power < sumMin (x :: y :: rest) then standBy power (y :: rest) else x :: y :: rest

/-- A positive residual is added in the order given, each train taking up to its capability (R134, step 5). -/
def giveResidual : Nat → List (Share × Nat) → List (Share × Nat)
  | _, [] => []
  | left, (x, t) :: rest =>
    (x, t + min left (x.cap - t)) :: giveResidual (left - min left (x.cap - t)) rest

/-- A negative residual is taken in the order given, each train giving down to its minimum (R134, step 5). -/
def takeResidual : Nat → List (Share × Nat) → List (Share × Nat)
  | _, [] => []
  | left, (x, t) :: rest =>
    (x, t - min left (t - x.min)) :: takeResidual (left - min left (t - x.min)) rest

/-- The proportional targets of step 5 and the distribution of the residual (R134). -/
def proportional (power : Nat) (xs : List Share) : List (Share × Nat) :=
  let first := xs.map (fun x => (x, max x.min (power * x.cap / sumCap xs)))
  let total := (first.map Prod.snd).sum
  if total ≤ power then giveResidual (power - total) first
  else (takeResidual (total - power) first.reverse).reverse

/-- Where a split ends (R134). -/
inductive SplitEnd where | zero | short | covered
  deriving DecidableEq, Repr

/-- The outcome of the steps of R134: the targets of the trains that get one, and where the split ended: step 2, steps
3 and 4, or step 5. -/
structure Plan where
  targets : List (Share × Nat)
  ending : SplitEnd
  deriving DecidableEq, Repr

/-- The steps of R134 over the set S in train order. -/
def plan (power : Nat) (xs : List Share) : Plan :=
  let set := (standBy power xs.reverse).reverse
  if power = 0 then ⟨[], .zero⟩
  else if sumCap set < power then ⟨set.map (fun x => (x, x.cap)), .short⟩
  else
    match set with
    | [x] => if power < x.min then ⟨[], .short⟩ else ⟨proportional power [x], .covered⟩
    | _ => ⟨proportional power set, .covered⟩

/-- The target a plan gives a train; 0 outside the plan (R133). -/
def Plan.target (pl : Plan) (t : Train) : Nat :=
  match pl.targets.find? (fun x => x.1.train == t) with
  | some x => x.2
  | none => 0

/-- The sum of the targets of a plan. -/
def Plan.total (pl : Plan) : Nat := (pl.targets.map Prod.snd).sum

/-- The net power the split divides: that of the current slot in SERVICE, 0 when it is idle and in CONFIG and PARKED
(R132, R133). -/
def State.splitPower (s : State) : Int :=
  if s.svc.part = .service then s.dsu.view.active.getD 0 else 0

/-- The split's plan for the current slot. -/
def State.splitPlan (s : State) : Plan := plan s.splitPower.natAbs (shareSet s.dsu s.splitPower false)

/-- Mark the current slot SHORT, or clear it, as the ending of the split says (R134). In CONFIG and PARKED no slot is
marked (R132, R133). -/
def markShort (pl : Plan) (power : Nat) (s : State) : State :=
  let k := s.dsu.view.current
  if s.svc.part = .service then
    match pl.ending with
    | .short =>
      let s1 := s.modSlot k (fun x => { x with short := true, shortSeen := true })
      if (s.slot k).short then s1 else emit .slotShort .notice (.slot k) power pl.total s1
    | _ =>
      if (s.slot k).short then
        emit .slotShort .info (.slot k) power pl.total (s.modSlot k (fun x => { x with short := false }))
      else s
  else s

/-- Give a train the target of a plan at its ramp limit (R133, R134; log 15). -/
def setOrder (pl : Plan) (t : Train) (s : State) : State :=
  s.modTrain t (fun r => { r with order := { r.order with target := pl.target t, ramp := r.rampLimit } })

/-- The split of the current slot over every train, with its SHORT mark (R133, R134). The order changes are committed
by `commitOrders`. -/
def split (s : State) : State :=
  let pl := s.splitPlan
  markShort pl s.splitPower.natAbs (allTrains.foldl (fun s t => setOrder pl t s) s)

/-- An order whose target, ramp rate or mark differs from the one before takes the next sequence, queues ORDER
CHANGED and starts a settle check (R135). -/
def commitOrder (before : Dsu) (s : State) (t : Train) : State :=
  let o := (before.get t).order
  let n := (s.train t).order
  if o.target = n.target ∧ o.ramp = n.ramp ∧ o.held = n.held then s
  else
    let s1 := s.modTrain t (fun r =>
      { r with order := { r.order with seq := r.order.seq + 1 }, settleCount := 0, settlePending := true })
    emit .orderChanged .notice (.train t) n.target (s1.train t).order.seq.toNat s1

/-- Commit the order changes of one split in train order (R135). A step of several splits queues them split by split,
which is the model's choice (log 40). -/
def commitOrders (before : Dsu) (s : State) : State := allTrains.foldl (commitOrder before) s

/-! ## Staging (R136) -/

/-- The plan of the staged split: the next slot's N when it is COMMITTED, else target 0 (R136). -/
def stagedPlan (d : Dsu) (x : NextSlot) : Plan :=
  if x.state = .committed then plan x.power.natAbs (shareSet d x.power true) else ⟨[], .zero⟩

/-- Stage the next order of one train: a GRANTED or RUNNING train receives one, any other has none; the first one of
an interval, or a changed target, increments the staged sequence and queues ORDER STAGED (R136). One set again after it
was discarded counts as a first one (log 41). -/
def stageOrder (pl : Plan) (interval : Nat) (s : State) (t : Train) : State :=
  let r := s.train t
  if r.permit.holdsOrder then
    let n : NextOrder := ⟨pl.target t, r.rampLimit, interval⟩
    let s1 := s.modTrain t (fun r => { r with nextOrder := some n })
    if r.nextOrder.any (fun x => x.target == n.target) then s1
    else
      emit .orderStaged .notice (.train t) n.target interval
        (s1.modTrain t (fun r => { r with stagedSeq := r.stagedSeq + 1 }))
  else s.modTrain t (fun r => { r with nextOrder := none })

/-- The staged split, while the staging flag is set; in CONFIG and PARKED it computes nothing (R136). That ORDER STAGED is
queued in train order is the model's choice (log 45). -/
def stagedSplit (s : State) : State :=
  match s.dsu.view.next with
  | some x =>
    if s.svc.part = .service then allTrains.foldl (stageOrder (stagedPlan s.dsu x) x.interval) s else s
  | none => s

/-- Run the split, commit the order changes against the orders as they stood, and run the staged split (R133, R135,
R136). That SLOT SHORT comes before the ORDER CHANGED and these before the ORDER STAGED is the model's choice (log
45). -/
def runSplit (before : Dsu) (s : State) : State := stagedSplit (commitOrders before (split s))

/-! ## Resources (R121, R122) -/

/-- A cavern is available to a train (R121). -/
def CavernRec.available (r : CavernRec) (t : Train) : Bool :=
  r.configured && r.limits.isSome && !r.rateHold &&
    if t.expands then r.flow != .filling && !r.inReserve && !r.breachLow
    else r.flow != .withdrawing && !r.atCeiling && !r.breachHigh

/-- A store is available to a train (R121). -/
def StoreRec.available (r : StoreRec) (t : Train) : Bool :=
  r.configured &&
    if t.expands then
      r.flow != .charging && decide (r.drawing.length < 2) && decide (0 < r.reachable) && r.topUsable
    else r.flow != .drawing && r.charging.isNone && !r.full

/-- The cavern is already in the flow state the train will give it (R122). -/
def CavernRec.flowMatches (r : CavernRec) (t : Train) : Bool :=
  if t.expands then r.flow == .withdrawing else r.flow == .filling

/-- The figure that decides between caverns that tie (R122). -/
def CavernRec.figureFor (r : CavernRec) (t : Train) : Nat := if t.expands then r.usableAir else r.room

/-- The figure that decides between stores (R122). -/
def StoreRec.figureFor (r : StoreRec) (t : Train) : Nat := if t.expands then r.reachable else r.free

/-- CV2 is chosen over CV1 when both are available (R122). -/
def prefersSecond (a b : CavernRec) (t : Train) : Bool :=
  if a.flowMatches t = b.flowMatches t then decide (a.figureFor t < b.figureFor t) else b.flowMatches t

/-- The cavern a train is granted under a preference, if one is available (R121, R122). -/
def chooseCavern (x : Ciu) (t : Train) (pref : Option Cavern) : Option Cavern :=
  let ok1 := x.cv1.available t && pref != some .cv2
  let ok2 := x.cv2.available t && pref != some .cv1
  if ok1 && ok2 then some (if prefersSecond x.cv1 x.cv2 t then .cv2 else .cv1)
  else if ok1 then some .cv1
  else if ok2 then some .cv2
  else none

/-- The store a train is granted under a preference, if one is available (R121, R122). -/
def chooseStore (x : Hsu) (t : Train) (pref : Option Store) : Option Store :=
  let okA := x.hsA.available t && pref != some .hsB
  let okB := x.hsB.available t && pref != some .hsA
  if okA && okB then some (if x.hsA.figureFor t < x.hsB.figureFor t then .hsB else .hsA)
  else if okA then some .hsA
  else if okB then some .hsB
  else none

/-- The attachment a train would be granted: cavern and store are chosen independently (R122). -/
def chooseResources (s : State) (t : Train) (prefs : Prefs) : Option Attachment :=
  match chooseCavern s.ciu t prefs.cavern, chooseStore s.hsu t prefs.store with
  | some c, some st => some ⟨c, st⟩
  | _, _ => none

/-! ## Grants and the permit request queue (R122 to R125) -/

/-- A grant, steps 1 to 4: permit, attachment in the CIU and then in the HSU, report timing from the grant, order at
target 0 and settle check clear (R122, R142). -/
def attachTrain (t : Train) (a : Attachment) (s : State) : State :=
  attachStore a.store t (attachCavern a.cavern t
    (s.modTrain t (fun r =>
      { r with
        permit := .granted, prefs := none, attachment := some a
        silence := 0, rungs := 0, timing := .onTime, reference := some s.pck.seconds
        order := { r.order with target := 0, held := false }
        settlePending := false, settleCount := 0 })))

/-- A grant that answers REQUEST RUN: no event, then the split (R120, R122). -/
def grant (t : Train) (a : Attachment) (s : State) : State :=
  let s1 := attachTrain t a s
  runSplit s1.dsu s1

/-- A grant at an examination: the entry leaves the queue and PERMIT GRANTED is queued to the owner port (R124; log
16). -/
def grantQueued (t : Train) (a : Attachment) (s : State) : State :=
  let s0 := { s with dsu := { s.dsu with queue := s.dsu.queue.filter (fun x => x ≠ t) } }
  let s1 := attachTrain t a s0
  runSplit s1.dsu (emit .permitGranted .notice (.train t) (cavernNumber a.cavern) (storeNumber a.store) s1)

/-- Examine one entry of the queue: passed over while its kind is not admitted, granted when resources are found
(R124). -/
def examineEntry (s : State) (t : Train) : State :=
  let r := s.train t
  if s.dsu.view.admits t then
    match chooseResources s t (r.prefs.getD ⟨none, none⟩) with
    | some a => grantQueued t a s
    | none => s
  else s

/-- One pass over the permit request queue, oldest first (R124). -/
def examineQueue (s : State) : State := s.dsu.queue.foldl examineEntry s

/-- An entry leaves the queue for OFF with PERMIT LAPSED and its cause (R125, R132). -/
def lapsePermit (cause : Nat) (s : State) (t : Train) : State :=
  let s1 := { s with dsu := { s.dsu with queue := s.dsu.queue.filter (fun x => x ≠ t) } }
  emit .permitLapsed .notice (.train t) cause 0
    (s1.modTrain t (fun r => { r with permit := .off, prefs := none }))

/-! ## Stops, releases and trips (R127 to R132) -/

/-- A GRANTED or RUNNING train goes to STOPPING: order target 0, mark NORMAL, next order discarded (R130). -/
def stopTrain (s : State) (t : Train) : State :=
  s.modTrain t (fun r =>
    if r.permit.holdsOrder then
      { r with permit := .stopping, order := { r.order with target := 0, held := false }, nextOrder := none }
    else r)

/-- Stop the trains of a list whose permits are GRANTED or RUNNING, and run the split for the trains that remain
(R130). -/
def stopTrains (ts : List Train) (s : State) : State :=
  if ts.any (fun t => (s.train t).permit.holdsOrder) then runSplit s.dsu (ts.foldl stopTrain s) else s

/-- Release the attachment of a train in the CIU and then in the HSU (R122, R128). -/
def releaseAttachment (t : Train) (lost : Bool) (s : State) : State :=
  match (s.train t).attachment with
  | some a =>
    releaseStore a.store t lost (releaseCavern a.cavern t lost (s.modTrain t (fun r => { r with attachment := none })))
  | none => s

/-- The order of a train whose permit ends in OFF after STOPPING or in TRIPPED: target 0 with its sequence incremented
and no ORDER CHANGED, next order absent, settle check cleared (R126 step 4, R128 step 3). -/
def TrainRec.endOrder (r : TrainRec) : TrainRec :=
  { r with
    order := { r.order with target := 0, seq := r.order.seq + 1, held := false }
    nextOrder := none, settlePending := false, settleCount := 0 }

/-- A trip (R128): TRIPPED with its cause, the attachment released, the order ended, its event, the change of
capability handed on with a recheck request, the split, and a queue examination. -/
def trip (t : Train) (cause : TripCause) (event : State → State) (s : State) : State :=
  let s1 := s.modTrain t (fun r => { r with permit := .tripped, cause := some cause })
  let s2 := (releaseAttachment t (cause = .lost) s1).modTrain t TrainRec.endOrder
  let s3 := postRecheck (bumpGeneration (event s2))
  examineQueue (runSplit s3.dsu s3)

/-- TRAIN TRIPPED, with the cause and the target the order had (R128). -/
def emitTripped (t : Train) (cause : TripCause) (target : Nat) (s : State) : State :=
  emit .trainTripped .alert (.train t) cause.code target s

/-- The permit of a STOPPING train ends: OFF, the attachment released, the order ended, PERMIT ENDED, the split and a
queue examination (R126, step 4). -/
def endPermit (t : Train) (s : State) : State :=
  let s1 := s.modTrain t (fun r => { r with permit := .off })
  let s2 := (releaseAttachment t false s1).modTrain t TrainRec.endOrder
  let r := s2.train t
  let s3 := emit .permitEnded .info (.train t) r.totalAir r.totalEnergy s2
  examineQueue (runSplit s3.dsu s3)

/-- The RELEASE of a GRANTED permit: OFF, the attachment released, the split, and a queue examination (R127). What
becomes of its next order, its target and its HELD mark is the model's choice (log 28). -/
def releaseGranted (t : Train) (s : State) : State :=
  let s1 := releaseAttachment t false
    (s.modTrain t (fun r => { r with permit := .off, nextOrder := none, order := { r.order with held := false } }))
  examineQueue (runSplit s.dsu s1)

/-! ## HELD marks (R131) -/

/-- Set the HELD mark, with target 0, on a GRANTED or RUNNING train of a cavern. -/
def holdTrain (s : State) (t : Train) : State :=
  s.modTrain t (fun r =>
    if r.permit.holdsOrder then { r with order := { r.order with target := 0, held := true } } else r)

/-- Clear the HELD mark of a train. -/
def unholdTrain (s : State) (t : Train) : State :=
  s.modTrain t (fun r => { r with order := { r.order with held := false } })

/-! ## The dispatch view (R119, R124, R137) -/

/-- A change of the view that admits a direction not admitted before leads to an examination (R119, R124). -/
def examineIfAdmitted (before : View) (s : State) : State :=
  if (s.dsu.view.admitsGen && !before.admitsGen) || (s.dsu.view.admitsChg && !before.admitsChg) then examineQueue s
  else s

/-- The next slot as the Schedule Book holds it. -/
def nextSlotOf (s : State) (j : Nat) : NextSlot := ⟨j, (s.slot j).state, (s.slot j).power⟩

/-- A change of state of the slot the view holds as next is handed on: the view takes it, the staged split runs, and a
newly admitted direction is examined (R92, R119, R136). That the staged split comes first is the model's choice (log
46). -/
def handSlotChange (j : Nat) (s : State) : State :=
  match s.dsu.view.next with
  | some x =>
    if x.interval = j then
      let s1 := { s with dsu := { s.dsu with view := { s.dsu.view with next := some (nextSlotOf s j) } } }
      examineIfAdmitted s.dsu.view (stagedSplit s1)
    else s
  | none => s

/-- A change of a slot's state: the generation number advances, and the dispatch unit hears of its next slot (R79,
R92, R95). -/
def slotChanged (j : Nat) (s : State) : State := handSlotChange j (bumpGeneration s)

/-- A change of activated reserve: the current slot's net power becomes N + a, the split runs, and a newly admitted
direction is examined (R115, R119). That the split comes first is the model's choice (log 46). -/
def handReserve (net : Int) (s : State) : State :=
  let s1 := { s with dsu := { s.dsu with view := { s.dsu.view with active := some net } } }
  examineIfAdmitted s.dsu.view (runSplit s1.dsu s1)

/-- The staging-lead event in the dispatch unit: the next slot is read for interval k + 1, the staged split runs, and
the queue is examined (R119, R124, R136). That the staged split comes before the examination is the model's choice (log
46). -/
def stageNext (s : State) : State :=
  let j := s.sbk.current + 1
  examineQueue (stagedSplit
    { s with dsu := { s.dsu with view := { s.dsu.view with next := some (nextSlotOf s j) } } })

/-- At the hand-over a train's mark clears, its totals are 0, and its next order becomes its current target and ramp
rate (R137, steps 2 and 3). -/
def TrainRec.handedOver (r : TrainRec) : TrainRec :=
  let o := { r.order with held := false }
  { r with
    order := match r.nextOrder with | some n => { o with target := n.target, ramp := n.ramp } | none => o
    nextOrder := none
    totalAir := 0, totalHeat := 0, totalEnergy := 0 }

/-- The hand-over at the Schedule Book's boundary hand-off: the view advances to the new current slot, the next orders
become current, the split runs, changed orders are committed against the orders before the boundary, and a slot that
became ACTIVE leads to a queue examination (R82, R119, R137). -/
def handOver (s : State) : State :=
  let k := s.sbk.current
  let x := s.slot k
  let active : Option Int := if x.state = .active then some x.power else none
  let s1 := { s with dsu := { s.dsu with view := ⟨k, active, none⟩ } }
  let s2 := allTrains.foldl (fun s t => s.modTrain t TrainRec.handedOver) s1
  let s3 := commitOrders s.dsu (split s2)
  if active.isSome then examineQueue s3 else s3

/-- The direction test at the Plant Clock's boundary: entries whose kind is not admitted lapse with cause 1 (R125).
That they lapse in queue order is the model's choice (log 39). -/
def directionTest (s : State) : State :=
  (s.dsu.queue.filter (fun t => !s.dsu.view.admits t)).foldl (lapsePermit 1) s

end Sys2Proof.Machine
end

