-- ==== Sys2Proof/Machine/Plant.lean ====
section
/-! DEFINITION. What the Cavern Inventory Unit and the Heat Store Unit hand on once they have finished an event: a
departure from FULL with its examination of the permit request queue (R70, R124), the stops and HELD marks of the
Dispatch Unit (R130, R131), the examination that an eased cavern condition or store figure asks for (R124), and the
inventory change of the Position Engine (R45, R70, R95). R70 hands FULL before SHORT and SHORT before the figures of a
store; the rest of the order is the model's (log 11). Each is found by comparing the state before the event with the
state after it. -/

namespace Sys2Proof.Machine

/-- A condition starts to hold. -/
def entered (before after : Bool) : Bool := !before && after
/-- A condition stops holding. -/
def left (before after : Bool) : Bool := before && !after

/-! ## Trains that answer a condition (R130, R131) -/

/-- An entry into a cavern condition stops an attached train of the kind shown (R130). -/
def CavernRec.stops (before after : CavernRec) (t : Train) : Bool :=
  after.attached.contains t &&
    if t.expands then
      entered before.inReserve after.inReserve || entered before.breachLow after.breachLow
    else entered before.atCeiling after.atCeiling || entered before.breachHigh after.breachHigh

/-- An entry into FULL stops the charging train, an entry into SHORT the drawing trains (R130). -/
def StoreRec.stops (before after : StoreRec) (t : Train) : Bool :=
  if t.expands then after.drawing.contains t && entered before.short after.short
  else after.charging == some t && entered before.full after.full

/-- The trains that an event stops, in train order (R130). -/
def stopList (before after : State) : List Train :=
  allTrains.filter (fun t =>
    allCaverns.any (fun c => (before.cavern c).stops (after.cavern c) t) ||
      allStores.any (fun st => (before.store st).stops (after.store st) t))

/-- The trains attached to a cavern that entered RATE_HOLD (R131). -/
def holdList (before after : State) : List Train :=
  allTrains.filter (fun t => allCaverns.any (fun c =>
    (after.cavern c).attached.contains t && entered (before.cavern c).rateHold (after.cavern c).rateHold))

/-- The HELD trains attached to a cavern that left RATE_HOLD (R131). -/
def freeList (before after : State) : List Train :=
  allTrains.filter (fun t => (after.train t).order.held && allCaverns.any (fun c =>
    (after.cavern c).attached.contains t && left (before.cavern c).rateHold (after.cavern c).rateHold))

/-- The Dispatch Unit answers the conditions of one event: it stops and marks, clears marks where the event is not a
boundary, and runs the split where any train was affected (R130, R131, R137). -/
def respond (before : State) (atBoundary : Bool) (s : State) : State :=
  let stops := stopList before s
  let holds := holdList before s
  let frees := if atBoundary then [] else freeList before s
  if (stops ++ holds).any (fun t => (s.train t).permit.holdsOrder) || !frees.isEmpty then
    runSplit s.dsu (frees.foldl unholdTrain (holds.foldl holdTrain (stops.foldl stopTrain s)))
  else s

/-! ## Examination of the queue (R124) -/

/-- A cavern left one of its conditions (R124). -/
def CavernRec.eased (before after : CavernRec) : Bool :=
  left before.inReserve after.inReserve || left before.atCeiling after.atCeiling ||
    left before.rateHold after.rateHold || left before.breachLow after.breachLow ||
    left before.breachHigh after.breachHigh

/-- A store's held reachable heat rose from 0, or its parcel 0 became usable (R124). -/
def StoreRec.eased (before after : StoreRec) : Bool :=
  (before.reachable == 0 && decide (0 < after.reachable)) || (!before.topUsable && after.topUsable)

/-- A store left FULL (R124). -/
def leftFull (before after : State) : Bool :=
  allStores.any (fun st => left (before.store st).full (after.store st).full)

/-- A cavern condition was left, or a figure of a store eased, which leads to an examination of the permit request queue
(R124). -/
def eased (before after : State) : Bool :=
  allCaverns.any (fun c => (before.cavern c).eased (after.cavern c)) ||
    allStores.any (fun st => (before.store st).eased (after.store st))

/-! ## Inventory changes (R45, R70) -/

/-- The raw and effective limits of a cavern. -/
def CavernRec.bounds (r : CavernRec) : Option (Nat × Nat × Nat × Nat) :=
  r.limits.map (fun l => (l.rawFloor, l.rawCeiling, l.effFloor, l.effCeiling))

/-- A cavern's mass, a raw or effective limit, or its rate budget changed (R45). That a report which moves only budget
spent, at a mass that is saturated already, is no inventory change is the model's reading (log 44). -/
def CavernRec.moved (before after : CavernRec) : Bool :=
  before.mass != after.mass || before.bounds != after.bounds || before.budget != after.budget

/-- A store's stack, flags, reachable heat, capacity, T_spent or T_use changed (R70; log 26). -/
def StoreRec.moved (before after : StoreRec) : Bool :=
  before.stack != after.stack || before.full != after.full || before.short != after.short ||
    before.reachable != after.reachable || before.capacity != after.capacity || before.tSpent != after.tSpent ||
    before.tUse != after.tUse

/-- The event changed a figure that a walk or the hold monitor reads (R45, R70). -/
def moved (before after : State) : Bool :=
  allCaverns.any (fun c => (before.cavern c).moved (after.cavern c)) ||
    allStores.any (fun st => (before.store st).moved (after.store st))

/-- An examination of the permit request queue, where something handed on asks for it (R124). -/
def examineIf (asked : Bool) (s : State) : State := if asked then examineQueue s else s

/-- The hand-offs of one event of the Cavern Inventory Unit or the Heat Store Unit (R40, R45; log 11): a departure from
FULL first, then the entries, SHORT among them, then the figures (R70). `always` counts the event as an inventory change
whatever it changed (a load). -/
def handOn (before : State) (atBoundary always : Bool) (s : State) : State :=
  let s1 := examineIf (leftFull before s) s
  let s2 := examineIf (eased before s) (respond before atBoundary s1)
  inventoryChangeIf (always || moved before s) s2

/-- An event of the two units between boundaries, with its hand-offs. -/
def plantEvent (f : State → State) (s : State) : State := handOn s false false (f s)

/-- A load, with its hand-offs (R43, R68). -/
def loadEvent (f : State → State) (s : State) : State := handOn s false true (f s)

/-! ## Boundary and pins (R29, R38) -/

/-- The boundary in one cavern: a new rate budget, budget spent 0, RATE_HOLD (R38). -/
def renewBudget (c : Cavern) (s : State) : State :=
  evalRateHold c ((recomputeBudget c s).modCavern c (fun r => { r with spent := 0 }))

/-- The boundary in the Cavern Inventory Unit (R38, R77), CV1 wholly before CV2 (log 36). -/
def boundaryCaverns (s : State) : State := handOn s true false (renewBudget .cv2 (renewBudget .cv1 s))

/-- A pin change: the new hardware band, the bands and effective limits of both caverns, the conditions, the hand-offs
and one recheck request (R29, R30). That CV1 is taken wholly before CV2 is the model's choice (log 36). -/
def takePinChange (code : BitVec 3) (side : BandSide) (s : State) : State :=
  let band (s : State) : State := { s with ciu := { s.ciu with hwCode := code, hwSide := side } }
  postRecheck (plantEvent (fun s =>
    evalMassConds .cv2 (recomputeBands .cv2 (evalMassConds .cv1 (recomputeBands .cv1 (band s))))) s)

/-- An aging pass: the timer to 0, both stores, the hand-offs and one recheck request (R61, R62). That HS-A is taken
wholly before HS-B is the model's choice (log 36). -/
def agePass (s : State) : State :=
  postRecheck (plantEvent (fun s =>
    ageStore .hsB (ageStore .hsA { s with hsu := { s.hsu with agingTimer := 0, agingDue := false } })) s)

end Sys2Proof.Machine
end

