-- ==== Sys2Proof/Machine/Pen.lean ====
section
/-! DEFINITION. The Position Engine: walk bases, the two tracks, ability, and the start, restart, completion and ending
of walks (chapter 5). -/

namespace Sys2Proof.Machine

/-! ## Base capture (R96) -/

/-- The subject of the UNDEFINED that a base capture meets, with the trap enabled: the first absent cavern figure, or
the first store whose run reaches an UNKNOWN parcel (R20, R96). That CV1, CV2, HS-A and HS-B are met in this order, and
only the first of several is captured, is the model's choice (log 36). -/
def undefinedAt (s : State) : Option Subject :=
  let absent (c : Cavern) : Bool := (s.cavern c).limits.isNone || (s.cavern c).budget.isNone
  let unknown (st : Store) : Bool := (reachableRun (s.store st).tUse (s.store st).stack).2
  if s.arith.trap then
    match allCaverns.find? absent, allStores.find? unknown with
    | some c, _ => some (.cavern c)
    | none, some st => some (.store st)
    | none, none => none
  else none

/-- Reachable heat of a store by the run rule (R56, R96). -/
def StoreRec.run (r : StoreRec) : Nat := (reachableRun r.tUse r.stack).1

/-- The capability of a kind: the sum over the trains that are not TRIPPED, held at 2,000,000 kW (R96). -/
def capability (d : Dsu) (expands : Bool) : Nat :=
  min Config.powerTop
    (((allTrains.filter (fun t => t.expands == expands && (d.get t).permit != .tripped)).map
      (fun t => (d.get t).cap)).sum)

/-- What a cavern contributes to the summed rate budget: 0 while its effective limits are absent (R116), and 0 for a
budget that is absent beside them, which is the model's reading (log 19). -/
def CavernRec.rateBudget (r : CavernRec) : Nat := if r.limits.isSome then r.budget.getD 0 else 0

/-- What a cavern contributes to the summed budget spent: 0 while its effective limits are absent (R116). -/
def CavernRec.budgetSpent (r : CavernRec) : Nat := if r.limits.isSome then r.spent else 0

/-- The slots of the window from the current interval on. -/
def State.windowSlots (s : State) : List Slot := s.window.map s.slot

/-- The base as a walk reads it (R96). -/
def readBase (s : State) : Base where
  air := s.sumAir
  room := s.sumRoom
  heat := s.hsu.hsA.run + s.hsu.hsB.run
  free := s.sumFree
  rate := s.ciu.cv1.rateBudget + s.ciu.cv2.rateBudget
  rateLeft := (s.ciu.cv1.rateBudget - s.ciu.cv1.spent) + (s.ciu.cv2.rateBudget - s.ciu.cv2.spent)
  expansion := capability s.dsu true
  compression := capability s.dsu false
  current := s.sbk.current
  secondsLeft := (s.sbk.current + 1) * Config.intervalSeconds - s.pck.seconds
  slots := s.windowSlots
  mode := s.arith.mode
  trap := s.arith.trap
  overflowNotice := s.arith.overflowNotice
  underflowNotice := s.arith.underflowNotice
  figures := s.svc.figures
  generation := s.pen.generation

/-! ## Scenario powers and counted slots (R97) -/

/-- The upper scenario N_hi (R97). -/
def upperPower (n : Int) (up : Nat) : Int := if n < 0 then min (n + up) 0 else n + up

/-- The lower scenario N_lo (R97). -/
def lowerPower (n : Int) (down : Nat) : Int := if 0 < n then max (n - down) 0 else n - down

/-- The walk counts a slot: at step 0 the ACTIVE slot, later every COMMITTED slot and, but for a recheck, every
OFFERED slot except the candidate (R97). -/
def countsSlot (candidate : Option Nat) (first : Bool) (x : Slot) : Bool :=
  if first then x.state == .active
  else x.state == .committed || (x.state == .offered && candidate.isSome && candidate != some x.interval)

/-! ## The two tracks (R98 to R101) -/

/-- A check of a step: its constraint, whether it passes, its slack as a power (R101, R113), and what the conversion
of the slack saturated. -/
structure Check where
  limit : Limit
  passes : Bool
  slack : Nat
  exc : Option ExcCode
  deriving DecidableEq, Repr

/-- The running figures of the two tracks (R99, R100). -/
structure Tracks where
  air : Nat
  heat : Nat
  room : Nat
  store : Nat
  deriving DecidableEq, Repr

/-- A step of a walk: the interval, the running figures after it, its checks, and what its conversions saturated. -/
structure WalkStep where
  interval : Nat
  after : Tracks
  checks : List Check
  excs : List (Option ExcCode)
  deriving DecidableEq, Repr

/-- A mass as a power (R11, R102). -/
def airPower (b : Base) (mass y : Nat) : Nat := powerFromMass b.mode mass y

/-- A heat as a power: the A6 reverse form, then A7 (R10, R102). -/
def heatPower (b : Base) (heat q y : Nat) : Figure :=
  let m := massForHeat b.mode heat q
  ⟨powerFromMass b.mode m.val y, m.exc⟩

/-- The checks of rate and plant of a step (R101, R113). -/
def flowChecks (b : Base) (rate mass power capability y : Nat) : List Check :=
  [⟨.rate, decide (mass ≤ rate), airPower b (rate - mass) y, none⟩,
    ⟨.plant, decide (power ≤ capability), min Config.powerTop (capability - power), none⟩]

/-- What one track's scenario does: its running figures, checks and saturations. -/
structure TrackStep where
  first : Nat
  second : Nat
  checks : List Check
  excs : List (Option ExcCode)
  deriving DecidableEq, Repr

/-- The low-stock track at a step: the standing loss, and N_hi on air and heat (R99, R101). -/
def lowStep (b : Base) (seconds rate loss : Nat) (n : Int) (air heat : Nat) : TrackStep :=
  let f := b.figures
  let h := heat - loss
  if 0 < n then
    let r := roundingOf b.mode .requirement
    let m := massForPower r n.natAbs seconds f.yGen
    let q := heatForMass r m.val f.qx
    let hp := heatPower b (h - q.val) f.qx f.yGen
    ⟨air - m.val, h - q.val,
      ⟨.air, decide (m.val ≤ air), airPower b (air - m.val) f.yGen, none⟩ ::
        ⟨.heat, decide (q.val ≤ h), hp.val, hp.exc⟩ :: flowChecks b rate m.val n.natAbs b.expansion f.yGen,
      [m.exc, q.exc]⟩
  else if n < 0 then
    let r := roundingOf b.mode .availability
    let m := massForPower r n.natAbs seconds f.yChg
    let q := heatForMass r m.val f.qc
    ⟨air + m.val, h + q.val, flowChecks b rate m.val n.natAbs b.compression f.yChg, [m.exc, q.exc]⟩
  else ⟨air, h, [], []⟩

/-- The high-stock track at a step: N_lo on room and store room (R100, R101). -/
def highStep (b : Base) (seconds rate : Nat) (n : Int) (room store : Nat) : TrackStep :=
  let f := b.figures
  if n < 0 then
    let r := roundingOf b.mode .requirement
    let m := massForPower r n.natAbs seconds f.yChg
    let q := heatForMass r m.val f.qc
    let hp := heatPower b (store - q.val) f.qc f.yChg
    ⟨room - m.val, store - q.val,
      ⟨.room, decide (m.val ≤ room), airPower b (room - m.val) f.yChg, none⟩ ::
        ⟨.storeRoom, decide (q.val ≤ store), hp.val, hp.exc⟩ :: flowChecks b rate m.val n.natAbs b.compression f.yChg,
      [m.exc, q.exc]⟩
  else if 0 < n then
    let r := roundingOf b.mode .availability
    let m := massForPower r n.natAbs seconds f.yGen
    let q := heatForMass r m.val f.qx
    ⟨room + m.val, store + q.val, flowChecks b rate m.val n.natAbs b.expansion f.yGen, [m.exc, q.exc]⟩
  else ⟨room, store, [], []⟩

/-- One step of the walk on both tracks: step 0 counts the remainder over the seconds left, with no standing loss and
against the rate left in the current interval (R98 to R101). -/
def walkStep (b : Base) (candidate : Option Nat) (first : Bool) (x : Slot) (tr : Tracks) : WalkStep :=
  let counted := countsSlot candidate first x
  let hi := if counted then upperPower x.power x.up else 0
  let lo := if counted then lowerPower x.power x.down else 0
  let seconds := if first then b.secondsLeft else Config.intervalSeconds
  let rate := if first then b.rateLeft else b.rate
  let low := lowStep b seconds rate (if first then 0 else 2 * b.figures.loss) hi tr.air tr.heat
  let high := highStep b seconds rate lo tr.room tr.store
  ⟨x.interval, ⟨low.first, low.second, high.first, high.second⟩, low.checks ++ high.checks, low.excs ++ high.excs⟩

/-- The steps from one slot on. -/
def walkSteps (b : Base) (candidate : Option Nat) : Bool → List Slot → Tracks → List WalkStep
  | _, [], _ => []
  | first, x :: rest, tr =>
    let w := walkStep b candidate first x tr
    w :: walkSteps b candidate false rest w.after

/-- The whole walk over the window (R97 to R101). -/
def walk (b : Base) (candidate : Option Nat) : List WalkStep :=
  walkSteps b candidate true b.slots ⟨b.air, b.heat, b.room, b.free⟩

/-! ## Ability and the limit code (R102) -/

/-- The smallest of a figure over steps; 0 over none. -/
def minOver (f : WalkStep → Nat) : List WalkStep → Nat
  | [] => 0
  | [w] => f w
  | w :: rest => min (f w) (minOver f rest)

/-- The constraints of a direction as powers, in the order of R25, and what their conversions saturated. -/
structure Powers where
  list : List (Limit × Nat)
  exc : Option ExcCode
  deriving DecidableEq, Repr

/-- The generation powers (R102). -/
def genPowers (b : Base) (ws : List WalkStep) : Powers :=
  let f := b.figures
  let h := heatPower b (minOver (fun w => w.after.heat) ws) f.qx f.yGen
  ⟨[(.air, airPower b (minOver (fun w => w.after.air) ws) f.yGen), (.heat, h.val), (.rate, airPower b b.rate f.yGen),
    (.plant, b.expansion)], h.exc⟩

/-- The charging powers (R102). -/
def chgPowers (b : Base) (ws : List WalkStep) : Powers :=
  let f := b.figures
  let h := heatPower b (minOver (fun w => w.after.store) ws) f.qc f.yChg
  ⟨[(.room, airPower b (minOver (fun w => w.after.room) ws) f.yChg), (.storeRoom, h.val),
    (.rate, airPower b b.rate f.yChg), (.plant, b.compression)], h.exc⟩

/-- The smallest power of a list; 2,000,000 kW over none (R102). -/
def smallest (xs : List (Limit × Nat)) : Nat := (xs.map Prod.snd).foldl min Config.powerTop

/-- The constraint with the smallest power below a requested magnitude, the first of equals; NONE when none lies below
(R25). -/
def limitCode (requested : Nat) : List (Limit × Nat) → Limit × Nat
  | [] => (.none, requested)
  | (l, p) :: rest =>
    let later := limitCode requested rest
    if p < requested ∧ p ≤ later.2 then (l, p) else later

/-- The outcome of the ability rule (R102). -/
structure Ability where
  carried : Bool
  pMax : Nat
  amount : Int
  limit : Limit
  deriving DecidableEq, Repr

/-- The ability in one direction, for a magnitude and a band side, as a magnitude (R102). -/
def directed (powers : List (Limit × Nat)) (band magnitude : Nat) : Ability :=
  if band ≤ smallest powers then
    let p := smallest powers - band
    ⟨true, p, min magnitude p, (limitCode magnitude (powers.map (fun x => (x.1, x.2 - band)))).1⟩
  else ⟨false, 0, 0, .band⟩

/-- The ability of a candidate (R102). -/
def abilityOf (gen chg : List (Limit × Nat)) (n : Int) (up down : Nat) : Ability :=
  if 0 < n then directed gen up n.natAbs
  else if n < 0 then
    let a := directed chg down n.natAbs
    { a with amount := -a.amount }
  else if up ≤ smallest gen ∧ down ≤ smallest chg then ⟨true, 0, 0, .none⟩
  else ⟨false, 0, 0, .band⟩

/-! ## Captures of a walk (R22) -/

/-- The notice of a code as a base holds it. -/
def Base.notices (b : Base) : ExcCode → Bool
  | .undefined => b.trap
  | .overflow => b.overflowNotice
  | .underflow => b.underflowNotice

/-- Raise what a conversion of a walk saturated: source WALK, the slot of the step as subject, the candidate as slot
interval (R22; log 13, log 14). -/
def raiseWalk (b : Base) (candidate : Option Nat) (s : State) (x : Option ExcCode × Nat) : State :=
  match x.1 with
  | some code => if b.notices code then capture code .walk (.slot x.2) candidate s else s
  | none => s

/-- What the conversions of the tracks saturated, step by step (log 49). A recheck also converts the slacks of its checks
(R113). That it converts, and captures in, every slack of a slot that fails is the model's choice: R113 says only that
such a slot's margin is 0 (log 50). -/
def trackExcs (ws : List WalkStep) (slacks : Bool) : List (Option ExcCode × Nat) :=
  ws.flatMap (fun w =>
    (w.excs ++ (if slacks then w.checks.map Check.exc else [])).map (fun e => (e, w.interval)))

/-! ## Flights and their endings (R93, R94, R103 to R111) -/

/-- The interval an OFFER or CONFIRM names. -/
def Request.interval : Request → Nat
  | .offer j .. => j
  | .confirm j .. => j

/-- Set the walk in flight. -/
def setFlight (f : Option Flight) (s : State) : State := { s with pen := { s.pen with flight := f } }

/-- The walk in flight is over, and the engine looks at what waits (R94). -/
def freeEngine (s : State) : State := { s with pen := Pen.takeUp { s.pen with flight := none } }

/-- A walk of the T-port that waits or flies is taken away without an answer, and a freed engine looks at what waits; a
recheck in flight goes on (R94, R111). -/
def dropWalk (s : State) : State :=
  { s with pen := Pen.takeUp { s.pen with
    waiting := none
    flight := if (s.pen.flight.bind Flight.request).isSome then none else s.pen.flight } }

/-- End the T-port's walk, waiting or in flight, with an answer (R103 to R111). -/
def endWalk (a : Answer) (s : State) : State := placeLater .t a.full (dropWalk s)

/-- Write the last limit code (R25). -/
def writeLimit (l : Limit) (s : State) : State := { s with pen := { s.pen with lastLimit := l } }

/-- The base capture of a walk in flight, at its start or its restart. An OFFER whose interval is no longer later than
the current one ends LAPSED (R104); an UNDEFINED is captured and ends the walk ARITH (R96); otherwise the walk flies on
the new base. -/
def launch (request : Option Request) (restart : Bool) (s : State) : State :=
  let candidate := request.map Request.interval
  let lapsed : Bool :=
    match request with
    | some (.offer j ..) => decide (j ≤ s.sbk.current)
    | _ => false
  if lapsed then endWalk (.bare .lapsed) s
  else
    match undefinedAt s with
    | some subject =>
      let s1 := capture .undefined .walk subject candidate s
      if request.isSome then endWalk { code := .arith, stale := restart } s1 else freeEngine s1
    | none => setFlight (some ⟨request, some (readBase s), restart⟩) s

/-- WALK_START: the walk that the engine has taken up, or takes up now, captures its base; a walk that has its base goes
on (R94, R96; log 7). -/
def startWalk (s : State) : State :=
  let s1 : State := { s with pen := s.pen.takeUp }
  match s1.pen.flight with
  | some ⟨request, none, restart⟩ => launch request restart s1
  | _ => s1

/-- The answer body of an OFFER or CONFIRM (R182). -/
def abilityBody (ability : Int) (limit : Limit) (seq : Byte) : List Byte :=
  putSigned 4 ability ++ putBE 1 limit.code ++ [seq]

/-- A band, absent when both its sides are 0 (R180). -/
def bandOf (up down : Nat) : Option Band := if up = 0 ∧ down = 0 then none else some ⟨up, down⟩

/-- The expiry of an offer made or renewed now (R105, R107). -/
def newExpiry (s : State) : Nat := s.pck.seconds + s.svc.times.hold

/-- What an OFFER walk writes and answers when its result stands (R105). -/
def settleOffer (j up down : Nat) (n : Int) (ref : BitVec 32) (a : Ability) (stale : Bool) (s : State) : State :=
  let s1 := writeLimit a.limit s
  if a.carried = false ∨ (a.amount = 0 ∧ n ≠ 0) then
    endWalk { code := .noAbility, stale := stale, body := abilityBody 0 a.limit (s.slot j).seq } s1
  else
    let s2 := s1.modSlot j (fun x =>
      { x with
        state := .offered, seq := x.seq + 1, power := a.amount, band := bandOf up down, ref := ref
        offer := some ⟨a.amount, newExpiry s⟩ })
    endWalk { code := .done, stale := stale, body := abilityBody a.amount a.limit (s2.slot j).seq } (slotChanged j s2)

/-- What a CONFIRM walk writes and answers when its result stands (R107). That a SHORTFALL, which lowers N without a
change of state, reaches the Dispatch Unit as a change of slot does (R76, R92) is the model's choice (log 37). -/
def settleConfirm (j : Nat) (value : Int) (a : Ability) (stale : Bool) (s : State) : State :=
  let s1 := writeLimit a.limit s
  if a.carried ∧ (value = 0 ∨ value.natAbs ≤ a.pMax) then
    let s2 := s1.modSlot j (fun x => { x with state := .committed, seq := x.seq + 1, offer := none })
    endWalk { code := .done, stale := stale, body := abilityBody value a.limit (s2.slot j).seq } (slotChanged j s2)
  else if a.carried ∧ 0 < a.pMax then
    let s2 := s1.modSlot j (fun x =>
      { x with seq := x.seq + 1, power := a.amount, offer := some ⟨a.amount, newExpiry s⟩ })
    endWalk { code := .shortfall, stale := stale, body := abilityBody a.amount a.limit (s2.slot j).seq }
      (slotChanged j s2)
  else
    let s2 := s1.modSlot j Slot.emptied
    endWalk { code := .noAbility, stale := stale, body := abilityBody 0 a.limit (s2.slot j).seq } (slotChanged j s2)

/-- The slot of a CONFIRM still stands as the CONFIRM named it (R107). -/
def confirmStands (j : Nat) (seq : Byte) (s : State) : Bool :=
  s.inWindow j && (s.slot j).state == .offered && (s.slot j).seq == seq

/-- The band of the candidate of a request: that of the OFFER, or that of the slot a CONFIRM names. -/
def requestBand (r : Request) (b : Base) : Nat × Nat :=
  match r with
  | .offer _ _ up down _ => (up, down)
  | .confirm j .. =>
    match b.slots.find? (fun x => x.interval == j) with
    | some x => (x.up, x.down)
    | none => (0, 0)

/-- The requested net power of a request. -/
def Request.power : Request → Int
  | .offer _ n .. => n
  | .confirm _ _ v => v

/-- The ability of a request on its base, and what its conversions saturated (R102). -/
def requestAbility (r : Request) (b : Base) : Ability × List (Option ExcCode × Nat) :=
  let j := r.interval
  let ws := walk b (some j)
  let late := ws.drop (j - b.current)
  let g := genPowers b late
  let c := chgPowers b late
  let band := requestBand r b
  (abilityOf g.list c.list r.power band.1 band.2, trackExcs ws false ++ [(g.exc, j), (c.exc, j)])

/-- The result of an OFFER or CONFIRM walk stands (R105, R107). A STALE result sets the recheck flag before the engine
looks at what waits (R94, R103). -/
def settleRequest (r : Request) (a : Ability) (stale : Bool) (s : State) : State :=
  let s1 := if stale then postRecheck s else s
  match r with
  | .offer j n up down ref => settleOffer j up down n ref a stale s1
  | .confirm j seq value =>
    if confirmStands j seq s1 then settleConfirm j value a stale s1
    else endWalk { code := .lapsed, stale := stale } s1

/-- The completion of an OFFER or CONFIRM walk in flight on a base, with the restart rule of R103. -/
def completeRequest (r : Request) (b : Base) (restart : Bool) (s : State) : State :=
  let result := requestAbility r b
  let s1 := result.2.foldl (raiseWalk b (some r.interval)) s
  let differs : Bool := b.generation != s1.pen.generation
  if differs && !restart then launch (some r) true s1
  else settleRequest r result.1 differs s1

/-! ## Rechecks (R113) -/

/-- The margin of a slot: 0 when it fails, the smallest slack otherwise, 2,000,000 kW when it draws on nothing (R113). -/
def marginOf (checks : List Check) : Nat :=
  if checks.all Check.passes then (checks.map Check.slack).foldl min Config.powerTop else 0

/-- The first failing constraint in the order of R25. -/
def firstFailing (checks : List Check) : Limit :=
  match [Limit.air, .heat, .room, .storeRoom, .rate, .plant].find?
      (fun l => checks.any (fun c => c.limit == l && !c.passes)) with
  | some l => l
  | none => .none

/-- The marks of one examined slot, unless its sequence moved during the walk (R113). -/
def markSlot (s : State) (p : Slot × WalkStep) : State :=
  let j := p.1.interval
  let now := s.slot j
  if s.inWindow j ∧ now.interval = j ∧ now.seq = p.1.seq then
    let margin := marginOf p.2.checks
    let s1 := s.modSlot j (fun x => { x with margin := some margin })
    if p.2.checks.all Check.passes then
      if now.atRisk then
        emit .riskCleared .info (.slot j) margin now.seq.toNat (s1.modSlot j (fun x => { x with atRisk := false }))
      else s1
    else if now.atRisk then s1
    else
      emit .atRisk .notice (.slot j) now.seq.toNat (firstFailing p.2.checks).code
        (s1.modSlot j (fun x => { x with atRisk := true, atRiskSeen := true }))
  else s

/-- The slots a recheck examines, with their steps: the ACTIVE remainder and every COMMITTED slot (R113). -/
def examined (b : Base) (ws : List WalkStep) : List (Slot × WalkStep) :=
  ((b.slots.zip ws).zipIdx.filter (fun p => countsSlot none (p.2 == 0) p.1.1)).map Prod.fst

/-- The completion of a recheck walk on a base: its captures and its marks (R113). That the captures come first and the
marks in interval order is the model's choice (log 47), and so is that the slacks of every step are converted, whether
or not its slot fails or takes a mark (log 50). -/
def completeRecheck (b : Base) (s : State) : State :=
  let ws := walk b none
  freeEngine ((examined b ws).foldl markSlot ((trackExcs ws true).foldl (raiseWalk b none) s))

/-! ## Completions -/

/-- The OFFER walk in flight completes; without one that has its base nothing happens (R105). -/
def completeOffer (s : State) : State :=
  match s.pen.flight with
  | some ⟨some (.offer j n up down ref), some b, restart⟩ => completeRequest (.offer j n up down ref) b restart s
  | _ => s

/-- The CONFIRM walk in flight completes; without one that has its base nothing happens (R107). -/
def completeConfirm (s : State) : State :=
  match s.pen.flight with
  | some ⟨some (.confirm j seq value), some b, restart⟩ => completeRequest (.confirm j seq value) b restart s
  | _ => s

/-- The recheck walk in flight completes; without one that has its base nothing happens (R113). -/
def completeFlownRecheck (s : State) : State :=
  match s.pen.flight with
  | some ⟨none, some b, _⟩ => completeRecheck b s
  | _ => s

/-! ## Boundaries and presence (R110, R111) -/

/-- The request that waits or walks. -/
def Pen.request (x : Pen) : Option Request :=
  match x.waiting with
  | some r => some r
  | none => x.flight.bind Flight.request

/-- At the boundary that makes its interval current, an OFFER or CONFIRM is ended and answered LAPSED (R110). -/
def lapseWalk (s : State) : State :=
  match s.pen.request with
  | some r => if r.interval = s.sbk.current then endWalk (.bare .lapsed) s else s
  | none => s

/-- A walk of the T-port that waits or flies is ended and answered STATE (R111). -/
def refuseWalk (s : State) : State :=
  match s.pen.request with
  | some _ => endWalk (.bare .state) s
  | none => s

end Sys2Proof.Machine
end

