-- ==== Sys2Proof/Machine/Rin.lean ====
section
/-! DEFINITION. The Report Intake: plausibility, the application of a run report through the cavern, the store, the
schedule book and the dispatch unit, and the silence ladder (chapter 7). -/

namespace Sys2Proof.Machine

/-- The figures of a run report (R143). `outlet` is the outlet temperature where it is valid. -/
structure Report where
  power : Nat
  energy : Nat
  air : Nat
  heat : Nat
  outlet : Option Nat
  condition : Condition
  deriving DecidableEq, Repr

/-! ## Elapsed time and plausibility (R146, R147) -/

/-- Elapsed time: the silence count, or 1 when it is 0 (R146). -/
def TrainRec.elapsed (r : TrainRec) : Nat := max r.silence 1

/-- The plausibility limits of a report (R19, R147). -/
structure ReportLimits where
  power : Figure
  air : Figure
  energy : Figure
  heat : Figure
  deriving DecidableEq, Repr

/-- The limits of a report of a train; the heat limit follows from the air after its own clamp (R19, R147). -/
def reportLimits (r : TrainRec) (qc air : Nat) : ReportLimits :=
  let a := airLimit r.maxFlow r.elapsed
  ⟨powerLimit r.rated, a, energyLimit r.rated r.elapsed, heatLimit (min air a.val) qc⟩

/-- The report after its clamps; an expansion train's heat and outlet are disregarded (R143, R147). -/
def Report.clamped (x : Report) (t : Train) (l : ReportLimits) : Report where
  power := min x.power l.power.val
  energy := min x.energy l.energy.val
  air := min x.air l.air.val
  heat := if t.expands then 0 else min x.heat l.heat.val
  outlet := if t.expands then none else x.outlet
  condition := x.condition

/-- The set of clamped fields (R147, R179). -/
def Report.clampBits (x : Report) (t : Train) (l : ReportLimits) : Nat :=
  bit 0 (l.power.val < x.power) + bit 1 (l.energy.val < x.energy) + bit 2 (l.air.val < x.air) +
    bit 3 (!t.expands && decide (l.heat.val < x.heat))

/-- Raise what the forming of the limits saturated, with source REPORT and the train as subject (R147). The order power,
air, energy, heat is the model's choice (log 49), and so is that these records come before REPORT CLAMPED (R165; log
51). -/
def raiseLimits (t : Train) (l : ReportLimits) (s : State) : State :=
  let s1 := raise l.energy.exc .report (.train t)
    (raise l.air.exc .report (.train t) (raise l.power.exc .report (.train t) s))
  if t.expands then s1 else raise l.heat.exc .report (.train t) s1

/-- REPORT CLAMPED, where one or more figures are clamped (R147). -/
def emitClamped (t : Train) (set elapsed : Nat) (s : State) : State :=
  if set = 0 then s else emit .reportClamped .info (.train t) set elapsed s

/-! ## The steps of a report (R148) -/

/-- Step 2: silence count 0, ON_TIME, reference moment now (R142, R148). -/
def restartTiming (t : Train) (s : State) : State :=
  s.modTrain t (fun r => { r with silence := 0, rungs := 0, timing := .onTime, reference := some s.pck.seconds })

/-- Step 3: the cavern takes the air of a report (R32). -/
def reportCavern (c : Cavern) (fill : Bool) (air : Nat) (s : State) : State :=
  if air = 0 then s
  else
    plantEvent (fun s =>
      let s1 := applyAir c fill air s
      let s2 := if (s1.cavern c).mass = (s.cavern c).mass then s1 else recomputeEstimate c s1
      evalRateHold c (evalMassConds c s2)) s

/-- Step 4: the store takes a compression train's heat, or an expansion train's air as a draw (R50, R57). -/
def reportStore (st : Store) (t : Train) (x : Report) (s : State) : State :=
  if t.expands then (if x.air = 0 then s else plantEvent (drawHeat st x.air) s)
  else if x.heat = 0 then s
  else plantEvent (depositHeat st t x.heat x.outlet) s

/-- Step 5: the Schedule Book takes the signed energy and closes the integration (R85, R86). -/
def reportSchedule (t : Train) (energy : Nat) (s : State) : State :=
  closeIntegration s.pck.seconds (addDelivered (if t.expands then (energy : Int) else -(energy : Int)) s)

/-- An interval total takes a figure and stops at its top (R117). -/
def totalWith (total x : Nat) : Nat := min Config.countTop (total + x)

/-- A derate to a reported power (R138). -/
def derate (t : Train) (power : Nat) (s : State) : State :=
  let s1 := postRecheck (bumpGeneration (s.modTrain t (fun r => { r with cap := power, derated := true })))
  runSplit s1.dsu s1

/-- The settle check takes a report (R138). -/
def settleCheck (t : Train) (power : Nat) (s : State) : State :=
  let r := s.train t
  if r.settlePending then
    if gap power r.order.target ≤ r.band then
      emit .orderSettled .info (.train t) r.order.target power
        (s.modTrain t (fun r => { r with settlePending := false }))
    else if s.svc.times.settle ≤ r.settleCount + 1 then
      let s1 := emit .equipmentCheck .notice (.train t) r.order.target power
        (s.modTrain t (fun r => { r with settlePending := false, settleCount := r.settleCount + 1 }))
      if power < r.order.target then derate t power s1 else s1
    else s.modTrain t (fun r => { r with settleCount := r.settleCount + 1 })
  else s

/-- Step 1 of R126: interval totals and last report. -/
def bookReport (t : Train) (x : Report) (s : State) : State :=
  s.modTrain t (fun r =>
    { r with
      totalAir := totalWith r.totalAir x.air
      totalHeat := totalWith r.totalHeat x.heat
      totalEnergy := totalWith r.totalEnergy x.energy
      last := some ⟨x.power, x.condition⟩ })

/-- Steps 3 to 5 of R126 for a READY report. -/
def movePermit (t : Train) (x : Report) (s : State) : State :=
  let p := (s.train t).permit
  let flows : Bool := decide (0 < x.power) || decide (0 < x.air)
  if p = .stopping ∧ flows = false then endPermit t s
  else
    settleCheck t x.power
      (if p = .granted ∧ flows = true then s.modTrain t (fun r => { r with permit := .running }) else s)

/-- Step 6: the Dispatch Unit takes the report (R126). -/
def reportDispatch (t : Train) (x : Report) (s : State) : State :=
  let s1 := bookReport t x s
  let target := (s1.train t).order.target
  match x.condition with
  | .ready => movePermit t x s1
  | .notReady => trip t .notReady (emitTripped t .notReady target) s1
  | .tripped => trip t .tripped (emitTripped t .tripped target) s1

/-- Steps 2 to 6 of R148 on a clamped report. -/
def applyClamped (t : Train) (x : Report) (s : State) : State :=
  let s1 := restartTiming t s
  let s2 :=
    match (s1.train t).attachment with
    | some a => reportStore a.store t x (reportCavern a.cavern (!t.expands) x.air s1)
    | none => s1
  reportDispatch t x (reportSchedule t x.energy s2)

/-- An accepted report, applied as one event, and whether a figure was clamped (R148). -/
def applyReport (t : Train) (x : Report) (s : State) : State × Bool :=
  let r := s.train t
  let l := reportLimits r s.svc.figures.qc x.air
  let set := x.clampBits t l
  (applyClamped t (x.clamped t l) (emitClamped t set r.elapsed (raiseLimits t l s)), set != 0)

/-! ## The silence ladder (R150 to R152) -/

/-- How many rungs a silence count has reached at a deadline (R150). -/
def rungsReached (silence deadline : Nat) : Nat :=
  if 3 * deadline ≤ silence then 3 else if 2 * deadline ≤ silence then 2 else if deadline ≤ silence then 1 else 0

/-- The silence count of a train takes an advance while a permit is attached (R142, R150). -/
def TrainRec.silent (r : TrainRec) (deadline : Nat) : TrainRec :=
  if r.permit.attached then
    { r with silence := countUp r.silence, rungs := rungsReached (countUp r.silence) deadline }
  else r

/-- A rung that the last advance found reached waits for a train in a timing state (R150; log 6). -/
def TrainRec.rungWaits (r : TrainRec) (rung : Nat) (state : Timing) : Bool :=
  r.permit.attached && decide (rung ≤ r.rungs) && r.timing == state

/-- The LATE rung (R151). That D in REPORT LATE is the deadline in force when the row is taken, where SET TIMING came since
the advance, is the model's choice (log 27). -/
def takeLate (t : Train) (s : State) : State :=
  if (s.train t).rungWaits 1 .onTime then
    emit .reportLate .notice (.train t) (s.train t).silence s.svc.times.deadline
      (s.modTrain t (fun r => { r with timing := .late }))
  else s

/-- The OVERDUE rung (R151). -/
def takeOverdue (t : Train) (s : State) : State :=
  if (s.train t).rungWaits 2 .late then
    stopTrains [t] (emit .reportOverdue .notice (.train t) (s.train t).silence (s.train t).order.target
      (s.modTrain t (fun r => { r with timing := .overdue })))
  else s

/-- The LOST rung (R152). -/
def takeLost (t : Train) (s : State) : State :=
  let r := s.train t
  if r.rungWaits 3 .overdue then
    trip t .lost (emit .permitLost .alert (.train t) r.silence (r.reference.getD 0)) s
  else s

/-- Every rung a train waits for, lowest first (R150). -/
def takeRungs (s : State) (t : Train) : State := takeLost t (takeOverdue t (takeLate t s))

end Sys2Proof.Machine
end

