-- ==== Sys2Proof/Machine/Pck.lean ====
section
/-! DEFINITION. The Plant Clock: advances and what each block counts at one, holdover, the staging-lead event and the
boundary, and the work that an advance leaves due (chapter 4; R150, R162, R109; log 6). -/

namespace Sys2Proof.Machine

/-- The interval number of plant seconds (R71). -/
def intervalOf (seconds : Nat) : Nat := seconds / Config.intervalSeconds
/-- The seconds elapsed within the interval (R75). -/
def elapsedIn (seconds : Nat) : Nat := seconds % Config.intervalSeconds

/-! ## Work that an advance leaves due -/

/-- The value that a source's stale event and its copy belong to: its cavern or its store (08, source table). -/
def sourceSubject : Source → Subject
  | .s1 | .s2 => .cavern .cv1
  | .s3 | .s4 => .cavern .cv2
  | .s5 => .store .hsA
  | .s6 => .store .hsB

/-- The number of a source (08, source table). -/
def sourceNumber : Source → Nat
  | .s1 => 1 | .s2 => 2 | .s3 => 3 | .s4 => 4 | .s5 => 5 | .s6 => 6

/-- The owning block's copy of a source takes STALE and keeps its value (R41, R63, R162). -/
def staleCopy (src : Source) (s : State) : State :=
  match src with
  | .s1 => s.modCavern .cv1 (fun r => { r with pressureV := .stale })
  | .s2 => s.modCavern .cv1 (fun r => { r with tempV := .stale })
  | .s3 => s.modCavern .cv2 (fun r => { r with pressureV := .stale })
  | .s4 => s.modCavern .cv2 (fun r => { r with tempV := .stale })
  | .s5 => s.modStore .hsA (fun r => { r with topV := .stale })
  | .s6 => s.modStore .hsB (fun r => { r with topV := .stale })

/-- The last advance found the source due to become STALE (R162). -/
def SourceRec.due (r : SourceRec) : Bool := r.staleDue && r.validity != .stale

/-- The record of a source that becomes STALE: value, sequence and age stay (R162). -/
def SourceRec.gone (r : SourceRec) : SourceRec := { r with validity := .stale, staleDue := false }

/-- A source that an advance found due becomes STALE (R162). -/
def takeStale (s : State) (src : Source) : State :=
  let r := s.ilr.get src
  if r.due then
    staleCopy src
      (emit .instrumentStale .notice (sourceSubject src) (sourceNumber src) (r.value.getD 0)
        (s.modSource src SourceRec.gone))
  else s

/-- The sources before one in source order (R163). -/
def sourcesBefore (src : Source) : List Source := allSources.filter (fun x => sourceNumber x < sourceNumber src)

/-- The change to STALE of one source, where it is due, after that of every due source before it, as source order
asks (R162, R163). -/
def takeStaleTo (src : Source) (s : State) : State :=
  if (s.ilr.get src).due then takeStale ((sourcesBefore src).foldl takeStale s) src else s

/-- An aging pass that an advance found due (R61). -/
def takeAging (s : State) : State := if s.hsu.agingDue then agePass s else s

/-- An OFFERED slot becomes EMPTY with OFFER LAPSED (R79, R109). -/
def lapseOffer (s : State) (j : Nat) : State :=
  if s.inWindow j ∧ (s.slot j).state = .offered then
    let held := ((s.slot j).offer.map Offered.held).getD 0
    let s1 := s.modSlot j Slot.emptied
    slotChanged j (emit .offerLapsed .notice (.slot j) held (s1.slot j).seq.toNat s1)
  else s

/-- An OFFERED slot whose expiry lies at or before the plant seconds of the last advance (R109). -/
def State.expired (s : State) (j : Nat) : Bool :=
  match (s.slot j).offer, s.pck.expiryMark with
  | some o, some mark => decide (o.expiry ≤ mark)
  | _, _ => false

/-- The expiry of one slot's offer (R109). -/
def takeExpiry (s : State) (j : Nat) : State := if s.expired j then lapseOffer s j else s

/-- Every OFFERED slot becomes EMPTY when the T-port leaves DECLARED (R79, R189, R190). That they go in interval order is
the model's choice (log 42). -/
def emptyOffers (s : State) : State := s.window.foldl lapseOffer s

/-- The staging-lead event, where it is due: the staging mark, and the Dispatch Unit (R76). -/
def takeStaging (s : State) : State :=
  match s.pck.stagingDue with
  | some j => stageNext { s with pck := { s.pck with stagingMark := some j, stagingDue := none } }
  | none => s

/-- The boundary in the Schedule Book with its three hand-offs (R81, R82), and what it does to a walk (R110). -/
def boundaryBook (s : State) : State :=
  postRecheck (lapseWalk (bumpGeneration (handOver (openSlot (closeSlot s)))))

/-- The boundary event, where it is due: an outstanding staging-lead event first, then the Cavern Inventory Unit, the
Schedule Book and the Dispatch Unit's direction test (R77; log 8). -/
def takeBoundary (s : State) : State :=
  if s.pck.boundaryDue then
    let s1 := takeStaging s
    directionTest (boundaryBook (boundaryCaverns { s1 with pck := { s1.pck with boundaryDue := false } }))
  else s

/-- All the work still due, in the order of log 6. -/
def drain (s : State) : State :=
  let s1 := allSources.foldl takeStale (takeAging s)
  let s2 := s1.window.foldl takeExpiry (allTrains.foldl takeRungs s1)
  startWalk (takeBoundary (takeStaging s2))

/-! ## Advances (R72) -/

/-- The aging timer takes an advance (R61). -/
def countAging (period : Nat) (x : Hsu) : Hsu :=
  if period = 0 then x
  else { x with agingTimer := countUp x.agingTimer, agingDue := decide (period ≤ countUp x.agingTimer) }

/-- A source's age takes an advance (R162). -/
def SourceRec.older (staleTime : Nat) (r : SourceRec) : SourceRec :=
  { r with age := countUp r.age, staleDue := decide (staleTime ≤ countUp r.age) && r.validity != .stale }

/-- All six sources take an advance (R162, R163). -/
def countAges (staleTime : Nat) (x : Ilr) : Ilr where
  s1 := x.s1.older staleTime
  s2 := x.s2.older staleTime
  s3 := x.s3.older staleTime
  s4 := x.s4.older staleTime
  s5 := x.s5.older staleTime
  s6 := x.s6.older staleTime
  line := x.line

/-- All five trains take an advance (R142). -/
def countSilence (deadline : Nat) (x : Dsu) : Dsu :=
  { x with
    c1 := x.c1.silent deadline
    c2 := x.c2.silent deadline
    c3 := x.c3.silent deadline
    x1 := x.x1.silent deadline
    x2 := x.x2.silent deadline }

/-- The staging-lead event that a second leaves due: at a boundary the one of the interval being left, otherwise the
one of the interval whose staging point lies at or before the second, unless the mark shows it raised (R76, R77). -/
def stagingAt (seconds lead : Nat) (mark : Option Nat) : Option Nat :=
  let k := intervalOf seconds
  if elapsedIn seconds = 0 then (if mark = some (k - 1) then none else some (k - 1))
  else if Config.intervalSeconds - lead ≤ elapsedIn seconds ∧ mark ≠ some k then some k
  else none

/-- The clock's own part of an advance at a moment (R71, R76, R77). -/
def Pck.advanced (x : Pck) (moment lead : Nat) : Pck :=
  let n := x.seconds + 1
  { x with
    seconds := n
    lastAdvance := moment
    stagingDue := stagingAt n lead x.stagingMark
    boundaryDue := elapsedIn n == 0
    expiryMark := some n }

/-- One advance, handed to every block that counts (R36, R61, R72, R109, R142, R162). -/
def countAdvance (s : State) : State :=
  let ts := s.svc.times
  { s with
    pck := s.pck.advanced s.pck.moment ts.lead
    ciu := { s.ciu with cv1 := countStable s.ciu.cv1, cv2 := countStable s.ciu.cv2 }
    hsu := countAging ts.aging s.hsu
    ilr := countAges ts.stale s.ilr
    dsu := countSilence ts.deadline s.dsu }

/-- An advance of plant seconds: the work of earlier advances comes first, and at 4,294,967,295 there is none (R71,
R72; log 6). -/
def advance (s : State) : State :=
  let s1 := drain s
  if s1.pck.seconds < Config.countTop then countAdvance s1 else s1

/-- The part is shown a moment of the reference oscillator; a moment never goes back (log 5). -/
def noteMoment (now : Nat) (s : State) : State := { s with pck := { s.pck with moment := max s.pck.moment now } }

/-- The time since the last advance. -/
def State.sinceAdvance (s : State) : Nat := s.pck.moment - s.pck.lastAdvance

/-! ## Edges and holdover (R72, R73) -/

/-- The end of holdover at an edge (R73). -/
def endHoldover (s : State) : State :=
  if s.pck.holdover then
    emit .timeHoldover .info .nothing s.pck.seconds s.pck.holdCount { s with pck := { s.pck with holdover := false } }
  else s

/-- A rising edge on TPULSE (R72, R73). -/
def takeEdge (now : Nat) (s : State) : State :=
  let s1 := noteMoment now s
  endHoldover (if Config.halfSecond ≤ s1.sinceAdvance then advance s1 else s1)

/-- The end of the 1.5 s watch: holdover begins with an advance (R73). The watch runs from the last advance, also where
edges arrive at the top of plant seconds and make none (log 38). -/
def takeHoldover (now : Nat) (s : State) : State :=
  let s1 := noteMoment now s
  if s1.pck.holdover = false ∧ Config.watchSpan ≤ s1.sinceAdvance then
    advance (emit .timeHoldover .notice .nothing s1.pck.seconds 0
      { s1 with pck := { s1.pck with holdover := true, holdCount := 0 } })
  else s1

/-- A further second of holdover (R73). The count stops at 4,294,967,295 (log 38). -/
def takeHoldoverSecond (now : Nat) (s : State) : State :=
  let s1 := noteMoment now s
  if s1.pck.holdover ∧ Config.oneSecond ≤ s1.sinceAdvance ∧ s1.pck.seconds < Config.countTop then
    let s2 := advance s1
    { s2 with pck := { s2.pck with holdCount := countUp s2.pck.holdCount } }
  else s1

/-! ## SET TIME (R74, R83) -/

/-- The staging mark after a rebuild (R83). -/
def rebuiltMark (seconds lead : Nat) : Option Nat :=
  if Config.intervalSeconds - lead ≤ elapsedIn seconds then some (intervalOf seconds) else none

/-- SET TIME in CONFIG: any value, the time-set flag, and the window rebuilt with the dispatch view (R74, R83, R119). -/
def setTimeConfig (v : Nat) (s : State) : State :=
  let k := intervalOf v
  let mark := rebuiltMark v s.svc.times.lead
  let s1 : State := { s with
    pck := { s.pck with
      seconds := v, timeSet := true, lastAdvance := s.pck.moment, stagingMark := mark
      stagingDue := none, boundaryDue := false, expiryMark := none }
    sbk := rebuildWindow k s.sbk }
  { s1 with dsu := { s1.dsu with view :=
    ⟨k, none, if mark = some k then some (nextSlotOf s1 (k + 1)) else none⟩ } }

/-- The clock after a SET TIME in SERVICE or PARKED: the events that a forward move passes are due (R74; log 34). -/
def Pck.moved (x : Pck) (v lead : Nat) : Pck :=
  let k := intervalOf x.seconds
  let passed : Bool := decide (k < intervalOf v)
  let staged : Bool := passed ||
    (decide (x.seconds < v) && decide (Config.intervalSeconds - lead ≤ elapsedIn v))
  { x with
    seconds := v, lastAdvance := x.moment, expiryMark := none
    boundaryDue := passed
    stagingDue := if staged && x.stagingMark != some k then some k else none }

/-- A value of SET TIME is admitted in SERVICE and PARKED (R74). -/
def timeAdmitted (seconds v : Nat) : Bool :=
  (v - seconds) + (seconds - v) ≤ 2 && intervalOf seconds ≤ intervalOf v

end Sys2Proof.Machine
end

