-- ==== Sys2Proof/Machine/Ilr.lean ====
section
/-! DEFINITION. The Instrument Line Receiver: characters, frames, validity and the hand-over of a measurement (chapter
8; R41, R63). -/

namespace Sys2Proof.Machine

/-! ## Validity (R159) -/

/-- The least value of a source (08, source table). -/
def sourceBottom : Source → Nat
  | .s1 | .s3 => 0
  | .s2 | .s4 | .s5 | .s6 => 2500

/-- The greatest value of a source (08, source table). -/
def sourceTop : Source → Nat
  | .s1 | .s3 => 30000
  | .s2 | .s4 => 3800
  | .s5 | .s6 => 9000

/-- The value held: a value outside its range is held at the nearer end (R159). -/
def sourceHold (src : Source) (v : Nat) : Nat := max (sourceBottom src) (min v (sourceTop src))

/-- The validity of an accepted frame (R159). -/
def judge (src : Source) (v : Nat) (status : Byte) : Validity :=
  if within (sourceBottom src) (sourceTop src) v then
    if status = 1 then .good else if status = 2 then .suspect else .fault
  else .fault

/-! ## Hand-over to the owning block (R41, R63, R64) -/

/-- A pressure frame at a cavern: the copy, the breach conditions, and on GOOD the reconciliation decision (R41). -/
def takePressure (c : Cavern) (v : Nat) (valid : Validity) (s : State) : State :=
  plantEvent (fun s =>
    let s1 := evalBreach c (s.modCavern c (fun r => { r with pressure := some v, pressureV := valid }))
    if valid = .good then reconcileCavern c s1 else s1) s

/-- A change of a cavern's last valid temperature (R30, R41). -/
def changeTemp (c : Cavern) (v : Nat) (s : State) : State :=
  evalMassConds c (recomputeEstimate c (recomputeLimits c (s.modCavern c (fun r => { r with lastTemp := some v }))))

/-- A temperature frame at a cavern: the copy, and on GOOD the last valid temperature (R41). -/
def takeTemperature (c : Cavern) (v : Nat) (valid : Validity) (s : State) : State :=
  plantEvent (fun s =>
    let s1 := s.modCavern c (fun r => { r with temp := some v, tempV := valid })
    if valid = .good ∧ (s1.cavern c).lastTemp ≠ some v then changeTemp c v s1 else s1) s

/-- A top-temperature frame at a store: the copy, and on GOOD the examination of parcel 0 (R63, R64). -/
def takeTop (st : Store) (v : Nat) (valid : Validity) (s : State) : State :=
  plantEvent (fun s =>
    let s1 := s.modStore st (fun r => { r with top := some v, topV := valid })
    if valid = .good then reconcileTop st v s1 else s1) s

/-- The hand-over of a value and its validity to the owning block (08, source table; R161). -/
def handMeasurement (src : Source) (v : Nat) (valid : Validity) : State → State :=
  match src with
  | .s1 => takePressure .cv1 v valid
  | .s2 => takeTemperature .cv1 v valid
  | .s3 => takePressure .cv2 v valid
  | .s4 => takeTemperature .cv2 v valid
  | .s5 => takeTop .hsA v valid
  | .s6 => takeTop .hsB v valid

/-! ## Frames (R158, R161) -/

/-- The sum of the eight characters is a multiple of 256 (R158). -/
def checks (chars : List Byte) : Bool := (chars.map BitVec.toNat).sum % 256 == 0

/-- An accepted frame, applied as one event: the record, INSTRUMENT STALE of class INFO where the source leaves STALE,
and the hand-over (R161). -/
def acceptFrame (src : Source) (raw : Nat) (status seq : Byte) (s : State) : State :=
  let s0 := takeStaleTo src s
  let was := s0.ilr.get src
  let v := sourceHold src raw
  let valid := judge src raw status
  let s1 := s0.modSource src (fun _ =>
    { value := some v, validity := valid, lastSeq := some seq, age := 0, staleDue := false })
  let s2 :=
    if was.validity = .stale then
      emit .instrumentStale .info (sourceSubject src) (sourceNumber src) was.age s1
    else s1
  handMeasurement src v valid s2

/-- A frame of eight characters is checked for its sum, its source and repetition, and accepted or discarded (R158,
R184). -/
def takeFrame (chars : List Byte) (s : State) : State :=
  match chars with
  | [c0, c1, c2, c3, c4, _, _, _] =>
    if checks chars then
      match sourceOf c0 with
      | some src =>
        if (s.ilr.get src).lastSeq = some c4 then s else acceptFrame src (getBE [c1, c2]) c3 c4 s
      | none => s
    else s
  | _ => s

/-! ## The line (R157) -/

/-- Set the state of the line. -/
def setLine (l : Line) (s : State) : State := { s with ilr := { s.ilr with line := l } }

/-- A whole character: collected after an idle gap, and the frame taken at the eighth; otherwise discarded (R157). -/
def takeChar (s : State) (c : Byte) : State :=
  match s.ilr.line with
  | .waitIdle => s
  | .collecting held =>
    if held.length < 7 then setLine (.collecting (held ++ [c])) s
    else takeFrame (held ++ [c]) (setLine .waitIdle s)

end Sys2Proof.Machine
end

