-- ==== Sys2Proof/Machine/Svc.lean ====
section
/-! DEFINITION. The Service Controller: the configuration-complete flags, presence, the part state, and the pins PRESENT,
RESET, RSV and ENVLOCK (chapter 11; R132, R178). -/

namespace Sys2Proof.Machine

/-- The fifteen configuration-complete flags, in the order of R185. -/
def completeFlags (s : State) : List Bool :=
  [s.ciu.cv1.configured, s.ciu.cv2.configured, s.hsu.hsA.configured, s.hsu.hsB.configured, s.dsu.c1.configured,
    s.dsu.c2.configured, s.dsu.c3.configured, s.dsu.x1.configured, s.dsu.x2.configured, s.svc.figuresSet,
    s.pck.timeSet, s.ciu.cv1.quality != .unknown, s.ciu.cv2.quality != .unknown, s.hsu.hsA.loadedFlag,
    s.hsu.hsB.loadedFlag]

/-- Set the part state with SERVICE STATE: the new and the previous part state (R188 to R190). -/
def setPart (new : PartState) (s : State) : State :=
  emit .serviceState .notice .nothing new.code s.svc.part.code { s with svc := { s.svc with part := new } }

/-- Set a port's presence. -/
def setPresence (p : Port) (v : Presence) (s : State) : State := s.modPort p (fun r => { r with presence := v })

/-- All three ports are DECLARED. -/
def allDeclared (s : State) : Bool :=
  s.spi.c.presence == .declared && s.spi.e.presence == .declared && s.spi.t.presence == .declared

/-- No port is DECLARED. -/
def noneDeclared (s : State) : Bool :=
  s.spi.c.presence != .declared && s.spi.e.presence != .declared && s.spi.t.presence != .declared

/-- A declaration: DECLARED, PORT JOINED, the hold monitor, and entry into SERVICE by the third declaration in CONFIG or
PARKED (R188; log 33). -/
def declare (p : Port) (s : State) : State :=
  let s1 := evalHold (emit .portJoined .info .nothing (portCode p) Presence.declared.code (setPresence p .declared s))
  if allDeclared s1 ∧ s1.svc.part ≠ .service then setPart .service s1 else s1

/-! ## Leaving (R132, R189, R190) -/

/-- The trains of a port. -/
def portTrains (p : Port) : List Train := allTrains.filter (fun t => t.owner == p)

/-- The QUEUED trains of a list lapse with a cause (R132). -/
def lapseQueued (cause : Nat) (ts : List Train) (s : State) : State :=
  (ts.filter (fun t => (s.train t).permit == .queued)).foldl (lapsePermit cause) s

/-- A GRANTED train of an ABSENT port trips with cause PORT (R132). -/
def tripPort (s : State) (t : Train) : State :=
  if (s.train t).permit = .granted then trip t .port (emitTripped t .port (s.train t).order.target) s else s

/-- The Dispatch Unit's answer to a port that leaves DECLARED for JOINED, or becomes ABSENT (R132; log 24). -/
def dispatchLeaves (p : Port) (absent : Bool) (s : State) : State :=
  let s1 := lapseQueued 2 (portTrains p) s
  if absent then
    (portTrains p).foldl tripPort
      (stopTrains ((portTrains p).filter (fun t => (s1.train t).permit == .running)) s1)
  else stopTrains (portTrains p) s1

/-- The T-port leaves DECLARED: its walk is abandoned or answered STATE, and every OFFERED slot is emptied (R111,
R79). -/
def tradeLeaves (absent : Bool) (s : State) : State := emptyOffers (if absent then dropWalk s else refuseWalk s)

/-- A change other than PARK that lowers a port's presence, steps 1 to 6 of R189; a change from JOINED to ABSENT takes
steps 1 to 4 (R189). -/
def lowerPresence (p : Port) (new : Presence) (s : State) : State :=
  let wasDeclared : Bool := s.presence p == .declared
  let absent : Bool := new == .absent
  let s1 := emit .portWithdrawn .notice .nothing (portCode p) new.code (setPresence p new s)
  let s2 := (dispatchLeaves p absent s1).modPort p (fun r => { r with stream := false })
  let s3 := if p = .t then tradeLeaves absent s2 else s2
  if wasDeclared then
    let s4 := evalHold s3
    if s4.svc.part = .service ∧ noneDeclared s4 then setPart .parked s4 else s4
  else s3

/-- A streamed report still being collected is discarded at a change of presence (R154). At PARK this is the model's
reading, since the table of R173 keeps phase and collected bytes there (log 52). -/
def PortIface.unstreamed (r : PortIface) : PortIface :=
  if r.streamed ∧ r.phase = .command then { r with streamed := false, phase := .idle, collected := [] } else r

/-- PARK at one port: its stream flag clears, and a DECLARED port becomes JOINED (R190 step 2). The table of R173 keeps
phase and collected bytes at PARK, and R154 discards a streamed report being collected at a presence change. The model
takes R154 at a port that PARK lowers to JOINED, and R173 at a port whose presence stays (log 52). -/
def PortIface.parked (r : PortIface) : PortIface :=
  let r1 := { r with stream := false }
  if r.presence = .declared then { r1.unstreamed with presence := .joined } else r1

/-- PARK lowers a DECLARED port to JOINED and clears its stream flag (R190 step 2). -/
def parkPort (s : State) (p : Port) : State := s.modPort p PortIface.parked

/-- PARK discards every next order and clears every settle check (R132). -/
def TrainRec.parked (r : TrainRec) : TrainRec :=
  { r with nextOrder := none, settlePending := false, settleCount := 0 }

/-- PARK in the Dispatch Unit: the queue lapses with cause 3, next orders and settle checks go, every GRANTED and RUNNING
permit goes to STOPPING, and the split runs (R132, R133). -/
def dispatchParks (s : State) : State :=
  let s1 := lapseQueued 3 s.dsu.queue s
  let s2 := allTrains.foldl (fun s t => s.modTrain t TrainRec.parked) s1
  runSplit s2.dsu (allTrains.foldl stopTrain s2)

/-- An accepted PARK (R190). -/
def parkPart (s : State) : State :=
  let s1 : State := { s with svc := { s.svc with part := .parked } }
  let s2 := dispatchParks (parkPort (parkPort (parkPort s1 .c) .e) .t)
  emit .serviceState .notice .nothing PartState.parked.code PartState.service.code
    (evalHold (emptyOffers (refuseWalk s2)))

/-! ## Pins (R29, R31, R174, R178, R191) -/

/-- Show a PRESENT level. -/
def setPresentPin (p : Port) (v : Bool) (s : State) : State := { s with pins := s.pins.setPresent p v }

/-- The port's own part of a PRESENT fall: its frame ends, partial command and unread result go, the stream flag clears,
and it returns to IDLE (R178, steps 1 to 5). -/
def PortIface.dropped (r : PortIface) : PortIface :=
  { r with
    phase := .idle, collected := [], result := [], read := 0, stream := false, streamed := false, frame := .closed
    deferred := false }

/-- PRESENT falls (R178, R189). -/
def takePresentFall (p : Port) (s : State) : State :=
  let s1 := s.modPort p PortIface.dropped
  lowerPresence p .absent (if p = .t then dropWalk s1 else s1)

/-- PRESENT rises: JOINED, and in SERVICE DECLARED in the same event (R178, R189). -/
def takePresentRise (p : Port) (s : State) : State :=
  let service : Bool := s.svc.part == .service
  let v : Presence := if service then .declared else .joined
  let s1 := emit .portJoined .info .nothing (portCode p) v.code (setPresence p v s)
  if service then evalHold s1 else s1

/-- What a port loses at a RESET fall: its frame, a partial command, an unread result (R191). -/
def PortIface.held (r : PortIface) : PortIface :=
  { r with
    phase := .idle, collected := [], result := [], read := 0, streamed := false, frame := .closed, deferred := false }

/-- The RESET pin falls: everything in progress ends with nothing placed, and the part is held (R157, R191). -/
def takeResetFall (s : State) : State :=
  { s with
    pins := { s.pins with resetLow := true }
    spi := ⟨s.spi.c.held, s.spi.e.held, s.spi.t.held⟩
    ilr := { s.ilr with line := .waitIdle }
    pen := { s.pen with waiting := none, flight := none } }

end Sys2Proof.Machine
end

