-- ==== Sys2Proof/Machine/TakeConfig.lean ====
section
/-! DEFINITION. What the owning blocks do with the configuration commands (codes 0x01 to 0x0E), with the answer they
place (chapters 1 to 4, 6, 11). A refusal changes nothing. -/

namespace Sys2Proof.Machine

/-- What the taking of a command comes to: the state, and the answer where it is placed at the taking (R176). -/
abbrev Taken := State × Option Answer

/-- A refusal: nothing changes (R181). -/
def refuse (code : ResultCode) (s : State) : Taken := (s, some (.bare code))

/-- DONE with an empty body. -/
def doneWith (s : State) : Taken := (s, some (.bare .done))

/-- READ IDENTITY: part code, issue, port, part state, presence and the flags (R182, R185). -/
def takeReadIdentity (p : Port) (s : State) : Taken :=
  (s, some (.done (putBE 2 0x3210 ++ putBE 1 1 ++ putBE 1 (portCode p) ++ putBE 1 s.svc.part.code ++
    putBE 1 (s.presence p).code ++
    putBE 2 (((completeFlags s).zipIdx.map (fun f => bit f.2 f.1)).sum))))

/-- The fields of SET CAVERN are in range and in order (R27). -/
def cavernFieldsFit (gain floor ceiling rate refTemp tol : Nat) : Bool :=
  within 1 16777215 gain && within 100 30000 floor && within 100 30000 ceiling && within 1 5000 rate &&
    within 2500 3800 refTemp && within 1 2000 tol && decide (floor < ceiling)

/-- The new configuration of a cavern (R27). -/
def configureCavern (c : Cavern) (gain floor ceiling rate refTemp tol : Nat) (s : State) : State :=
  s.modCavern c (fun r =>
    { r with
      configured := true, gain := gain, floor := floor, ceiling := ceiling, rate := rate, refTemp := refTemp
      tol := tol })

/-- Recompute every derived figure of a cavern and re-evaluate its conditions (R27, R30). The order of the figures, limits
then rate budget then estimate, is the model's choice (log 36). -/
def recomputeAll (c : Cavern) (s : State) : State :=
  evalBreach c (evalRateHold c (evalMassConds c (recomputeEstimate c (recomputeBudget c (recomputeLimits c s)))))

/-- SET CAVERN (R27, R31). -/
def takeSetCavern (cavern : Byte) (gain : BitVec 24) (floor ceiling rate refTemp tol : BitVec 16) (s : State) : Taken :=
  if s.lockEffective then refuse .locked s
  else
    match cavernOf cavern, cavernFieldsFit gain.toNat floor.toNat ceiling.toNat rate.toNat refTemp.toNat tol.toNat with
    | some c, true =>
      doneWith (postRecheckInService (plantEvent (fun s => recomputeAll c
        (configureCavern c gain.toNat floor.toNat ceiling.toNat rate.toNat refTemp.toNat tol.toNat s)) s))
    | _, _ => refuse .range s

/-- The fields of SET STORE are in range and in order, and the capacity covers the content (R48). -/
def storeFieldsFit (content capacity tBase tSpent tUse tol margin : Nat) : Bool :=
  within 1 20000000 capacity && within 2500 4000 tBase && decide (tBase < tSpent) && decide (tSpent < tUse) &&
    decide (tUse ≤ 9000) && within 1 500 tol && decide (margin ≤ 50) && decide (content ≤ capacity)

/-- SET STORE (R48). -/
def takeSetStore (store : Byte) (capacity : BitVec 32) (tBase tSpent tUse tol : BitVec 16) (margin : Byte)
    (s : State) : Taken :=
  match storeOf store with
  | none => refuse .range s
  | some st =>
    let r := s.store st
    if storeFieldsFit r.content capacity.toNat tBase.toNat tSpent.toNat tUse.toNat tol.toNat margin.toNat then
      if r.stack ≠ [] ∧ tBase.toNat ≠ r.tBase then refuse .state s
      else
        doneWith (postRecheckInService (plantEvent (fun s => releaseFull st (evalReachable st
          (s.modStore st (fun r =>
            { r with
              configured := true, capacity := capacity.toNat, tBase := tBase.toNat, tSpent := tSpent.toNat
              tUse := tUse.toNat, tol := tol.toNat, margin := if margin = 0 then 2 else margin.toNat })))) s))
    else refuse .range s

/-- The fields of SET TRAIN are in range (R118). -/
def trainFieldsFit (rated minLoad ramp band maxFlow : Nat) : Bool :=
  within 1000 1000000 rated && decide (minLoad ≤ rated) && within 1 100000 ramp && within 1 50000 band &&
    within 1 2000 maxFlow

/-- SET TRAIN on a train of its owner port (R118). -/
def configureTrain (t : Train) (rated minLoad ramp band maxFlow : Nat) (s : State) : State :=
  let s1 := s.modTrain t (fun r =>
    { r with
      configured := true, rated := rated, minLoad := minLoad, rampLimit := ramp, band := band, maxFlow := maxFlow
      cap := rated, derated := false })
  if (s.train t).cap = rated then s1 else bumpGeneration s1

/-- SET TRAIN (R118). -/
def takeSetTrain (p : Port) (train : Byte) (rated minLoad ramp band : BitVec 32) (maxFlow : BitVec 16)
    (s : State) : Taken :=
  match nameTrain p train with
  | .range => refuse .range s
  | .port => refuse .port s
  | .train t =>
    if trainFieldsFit rated.toNat minLoad.toNat ramp.toNat band.toNat maxFlow.toNat then
      if (s.train t).permit = .off ∨ (s.train t).permit = .tripped then
        doneWith (configureTrain t rated.toNat minLoad.toNat ramp.toNat band.toNat maxFlow.toNat s)
      else refuse .state s
    else refuse .range s

/-- The fields of SET FIGURES are in range (R186). -/
def figuresFit (f : Figures) : Bool :=
  within 100 20000 f.yGen && within 100 20000 f.yChg && within 1 2000 f.qx && within 1 2000 f.qc &&
    decide (f.loss ≤ 100000) && decide (f.genAir ≤ 200000000) && decide (f.chgRoom ≤ 200000000) &&
    decide (f.genHeat ≤ 40000000) && decide (f.chgStore ≤ 40000000)

/-- SET FIGURES (R186). -/
def takeSetFigures (yGen yChg qx qc : BitVec 16) (loss : BitVec 32) (dA dB : BitVec 16)
    (genAir genHeat chgRoom chgStore : BitVec 32) (s : State) : Taken :=
  let f : Figures := ⟨yGen.toNat, yChg.toNat, qx.toNat, qc.toNat, loss.toNat, genAir.toNat, genHeat.toNat, chgRoom.toNat,
    chgStore.toNat⟩
  if figuresFit f then
    let s1 : State := { s with
      svc := { s.svc with figures := f, figuresSet := true }
      hsu := { s.hsu with
        hsA := { s.hsu.hsA with decay := dA.toNat }
        hsB := { s.hsu.hsB with decay := dB.toNat } } }
    doneWith (postRecheckInService (evalHold (bumpGeneration s1)))
  else refuse .range s

/-- The fields of SET TIMING are in range (R187). -/
def timesFit (x : Times) : Bool :=
  within 60 3600 x.stable && within 5 300 x.stale && (x.aging == 0 || within 60 86400 x.aging) &&
    within 10 300 x.lead && within 30 900 x.hold && within 2 60 x.deadline && within 4 255 x.settle

/-- SET TIMING; an aging period of 0 sets the aging timer to 0 (R61, R187). -/
def takeSetTiming (stable stale : BitVec 16) (aging : BitVec 32) (lead hold : BitVec 16) (deadline settle : Byte)
    (s : State) : Taken :=
  let x : Times := ⟨stable.toNat, stale.toNat, aging.toNat, lead.toNat, hold.toNat, deadline.toNat, settle.toNat⟩
  if timesFit x then
    doneWith { s with
      svc := { s.svc with times := x }
      hsu := { s.hsu with agingTimer := if x.aging = 0 then 0 else s.hsu.agingTimer } }
  else refuse .range s

/-- A changed rounding mode recomputes masses, bands, limits and rate budget of a cavern (R23, R30), limits first (log
36). -/
def recomputeMode (c : Cavern) (s : State) : State :=
  evalRateHold c (evalMassConds c (recomputeBudget c (recomputeLimits c s)))

/-- A trap turned off recomputes the figures of a cavern that were absent or kept (R23, R30). -/
def recomputeTrapOff (c : Cavern) (s : State) : State :=
  evalRateHold c (evalMassConds c (recomputeKept c s))

/-- The further work of SET ARITH MODE (R23). That the work of a changed mode comes before that of a trap turned off, each
with CV1 wholly before CV2, and then HS-A before HS-B, is the model's choice (log 36). -/
def arithWork (modeChanged trapOff : Bool) (s : State) : State :=
  let s1 := if modeChanged then recomputeMode .cv2 (recomputeMode .cv1 s) else s
  if trapOff then
    evalReachable .hsB (evalReachable .hsA (recomputeTrapOff .cv2 (recomputeTrapOff .cv1 s1)))
  else s1

/-- SET ARITH MODE (R23; log 25). -/
def takeSetArithMode (mode settings : Byte) (s : State) : Taken :=
  match modeOf mode with
  | none => refuse .range s
  | some m =>
    if s.svc.part = .service ∧ m ≠ s.arith.mode then refuse .state s
    else
      let modeChanged : Bool := m != s.arith.mode
      let trapOff : Bool := s.arith.trap && !settingBit settings 0
      let s1 : State := { s with arith := { s.arith with
        mode := m
        trap := settingBit settings 0
        overflowNotice := settingBit settings 1
        underflowNotice := settingBit settings 2
        inhibit := settingBit settings 3 } }
      let s2 := plantEvent (arithWork modeChanged trapOff) s1
      doneWith (if modeChanged then postRecheck s2 else s2)

/-- SET LOCK ENABLE (R187). -/
def takeSetLockEnable (setting : Byte) (s : State) : Taken :=
  match settingOf setting with
  | some v => doneWith { s with ciu := { s.ciu with lockEnable := v } }
  | none => refuse .range s

/-- LOAD INVENTORY empties the settlement ring (R88). -/
def emptyRing (s : State) : State := { s with sbk := { s.sbk with ring := [] } }

/-- The account of a loaded cavern: mass, counters, quality, estimate, conditions (R33, R43). That the subject of an
exception of its A2 is the cavern is the model's reading (log 18). -/
def loadCavern (c : Cavern) (mass : Nat) (exc : Option ExcCode) (s : State) : State :=
  evalMassConds c (recomputeEstimate c (raise exc .bounds (.cavern c) (s.modCavern c (fun r =>
    { r with
      mass := mass, loaded := mass, filled := 0, withdrawn := 0, reconciled := 0, quality := .tracked }))))

/-- An accepted load of a cavern, with its answer (R43, R182). -/
def doLoadCavern (c : Cavern) (m : Figure) (s : State) : Taken :=
  (emptyRing (loadEvent (loadCavern c m.val m.exc) s), some (.done (putBE 4 m.val)))

/-- LOAD INVENTORY addressed to a cavern (R43). -/
def takeLoadCavern (number method : Byte) (amount : BitVec 32) (s : State) : Taken :=
  match cavernOf number with
  | none => refuse .range s
  | some c =>
    let r := s.cavern c
    if s.lockEffective then refuse .locked s
    else if s.svc.part = .service then refuse .state s
    else if r.configured = false ∨ r.attached ≠ [] then refuse .state s
    else if method = 1 then
      if amount.toNat ≤ Config.massTop then doLoadCavern c ⟨amount.toNat, none⟩ s else refuse .range s
    else if method = 2 then
      match r.pressureV, r.tempV, r.pressure, r.temp with
      | .good, .good, some p, some t => doLoadCavern c (massAtPressure .nearest p r.gain t) s
      | _, _, _, _ => refuse .state s
    else refuse .range s

/-- The account of a loaded store: the stack, counters, loaded flag, quality, reachable heat and the FULL release test
(R66, R68). -/
def loadStore (st : Store) (stack : List Parcel) (s : State) : State :=
  releaseFull st (evalReachable st (s.modStore st (fun r =>
    { r with
      stack := stack, deposited := (heatOf stack : Int), drawn := 0, writtenOff := 0, reconciled := 0
      loadedFlag := true, quality := .tracked })))

/-- An accepted load of a store, with its answer (R68, R182). -/
def doLoadStore (st : Store) (stack : List Parcel) (s : State) : Taken :=
  (emptyRing (loadEvent (loadStore st stack) s), some (.done (putBE 4 (heatOf stack))))

/-- LOAD INVENTORY addressed to a store (R68). -/
def takeLoadStore (number method : Byte) (amount : BitVec 32) (temp : BitVec 16) (s : State) : Taken :=
  match storeOf number with
  | none => refuse .range s
  | some st =>
    let r := s.store st
    if s.svc.part = .service then refuse .state s
    else if r.configured = false ∨ r.flow ≠ .idle then refuse .state s
    else if method = 1 then doLoadStore st [] s
    else if method = 2 then
      if within 1 r.capacity amount.toNat && within r.tBase Config.temperatureTop temp.toNat then
        doLoadStore st [⟨amount.toNat, some temp.toNat, false, none, s.sbk.current⟩] s
      else refuse .range s
    else refuse .range s

/-- SET TIME (R74); the command notes the moment it is taken at, and an accepted one first takes the work that earlier
advances left due (log 6). -/
def takeSetTime (seconds : BitVec 32) (now : Nat) (s : State) : Taken :=
  let v := seconds.toNat
  let s0 := noteMoment now s
  if s0.svc.part = .config then doneWith (setTimeConfig v (drain s0))
  else if timeAdmitted s0.pck.seconds v then
    let s1 := drain s0
    doneWith { s1 with pck := s1.pck.moved v s1.svc.times.lead }
  else refuse .state s0

/-- The body of DECLARE READY, WITHDRAW and PARK (R182). -/
def serviceBody (p : Port) (s : State) : List Byte := putBE 1 s.svc.part.code ++ putBE 1 (s.presence p).code

/-- DECLARE READY (R188). -/
def takeDeclareReady (p : Port) (s : State) : Taken :=
  if s.presence p = .declared then (s, some (.done (serviceBody p s)))
  else if s.svc.part = .config ∧ (completeFlags s).all id = false then
    (s, some { code := .incomplete, body := serviceBody p s })
  else
    let s1 := declare p s
    (s1, some (.done (serviceBody p s1)))

/-- WITHDRAW (R189). -/
def takeWithdraw (p : Port) (s : State) : Taken :=
  if s.presence p = .declared then
    let s1 := lowerPresence p .joined s
    (s1, some (.done (serviceBody p s1)))
  else refuse .state s

/-- PARK (R190). -/
def takePark (p : Port) (s : State) : Taken :=
  if s.presence p = .declared ∧ s.svc.part = .service then
    let s1 := parkPart s
    (s1, some (.done (serviceBody p s1)))
  else refuse .state s

/-- SET RESERVE BAND; one that changes code or side posts a recheck request (R28, R45). -/
def takeSetReserveBand (cavern code side : Byte) (s : State) : Taken :=
  if s.lockEffective then refuse .locked s
  else
    match cavernOf cavern, bandCodeOf code, sideOf side with
    | some c, some n, some d =>
      let r := s.cavern c
      let s1 := plantEvent (fun s => evalMassConds c (recomputeBands c
        (s.modCavern c (fun r => { r with swCode := n, swSide := d })))) s
      doneWith (if r.swCode ≠ n ∨ r.swSide ≠ d then postRecheck s1 else s1)
    | _, _, _ => refuse .range s

end Sys2Proof.Machine
end

