-- ==== Sys2Proof/Machine/TakeTrain.lean ====
section
/-! DEFINITION. What the owning blocks do with the train commands (codes 0x10 to 0x16) but for READ TRAIN, with the
answer they place (chapters 3, 6, 7). -/

namespace Sys2Proof.Machine

/-- The place of a train in the permit request queue, 1 for the oldest; 0 outside it (R123). -/
def queuePosition (q : List Train) (t : Train) : Nat := if q.contains t then q.idxOf t + 1 else 0

/-- The train enters the queue with its preferences, and the answer QUEUED (R120, R123, R182). -/
def enqueue (t : Train) (prefs : Prefs) (s : State) : Taken :=
  let s1 := s.modTrain t (fun r => { r with permit := .queued, prefs := some prefs })
  let s2 : State := { s1 with dsu := { s1.dsu with queue := s1.dsu.queue ++ [t] } }
  (s2, some { code := .queued, body := putBE 1 0 ++ putBE 1 0 ++ putBE 1 (queuePosition s2.dsu.queue t) })

/-- The checks 3 to 6 of REQUEST RUN on a train of its owner port; none when all pass (R120). -/
def requestRefusal (p : Port) (t : Train) (s : State) : Option ResultCode :=
  let r := s.train t
  if s.svc.part ≠ .service ∨ s.presence p ≠ .declared then some .state
  else if r.permit ≠ .off then some .state
  else if s.dsu.view.admits t = false then some .wrongDirection
  else if r.able = false then some .state
  else none

/-- REQUEST RUN (R120, R122). -/
def takeRequestRun (p : Port) (train cavern store : Byte) (s : State) : Taken :=
  match trainOf train, cavernPref cavern, storePref store with
  | some t, some cp, some sp =>
    if t.owner ≠ p then refuse .port s
    else
      match requestRefusal p t s with
      | some code => refuse code s
      | none =>
        match chooseResources s t ⟨cp, sp⟩ with
        | some a =>
          (grant t a s, some { code := .done, granted := true
                               body := putBE 1 (cavernNumber a.cavern) ++ putBE 1 (storeNumber a.store) ++ putBE 1 0 })
        | none => enqueue t ⟨cp, sp⟩ s
  | _, _, _ => refuse .range s

/-- The RELEASE of a QUEUED train: its entry leaves the queue, and the split runs, as after every RELEASE (R127, R133). -/
def releaseQueued (t : Train) (s : State) : State :=
  runSplit s.dsu ({ s with dsu := { s.dsu with queue := s.dsu.queue.filter (fun x => x ≠ t) } }.modTrain t
    (fun r => { r with permit := .off, prefs := none }))

/-- RELEASE of a train by its owner port (R127). -/
def releaseTrain (t : Train) (s : State) : Taken :=
  match (s.train t).permit with
  | .queued => doneWith (releaseQueued t s)
  | .granted => doneWith (releaseGranted t s)
  | .running => doneWith (stopTrains [t] s)
  | _ => refuse .state s

/-- RELEASE (R127). -/
def takeRelease (p : Port) (train : Byte) (s : State) : Taken :=
  match nameTrain p train with
  | .range => refuse .range s
  | .port => refuse .port s
  | .train t => releaseTrain t s

/-! ## Run reports (R143 to R149, R154) -/

/-- The fields of a run report as they arrive. -/
structure ReportFields where
  power : BitVec 32
  energy : BitVec 32
  air : BitVec 32
  heat : BitVec 32
  outlet : BitVec 16
  validity : Byte
  condition : Byte
  mode : Byte
  deriving DecidableEq, Repr

/-- The outlet temperature where it is valid: marked VALID and not above 9,000 (R50). -/
def outletOf (marked : Bool) (outlet : Nat) : Option Nat :=
  if marked && decide (outlet ≤ Config.temperatureTop) then some outlet else none

/-- The report that the fields state, unless a code is unknown (R144, check 3). -/
def ReportFields.report (x : ReportFields) : Option Report :=
  match conditionOf x.condition, outletMarkOf x.validity with
  | some c, some m => some ⟨x.power.toNat, x.energy.toNat, x.air.toNat, x.heat.toNat, outletOf m x.outlet.toNat, c⟩
  | _, _ => none

/-- Order mark code (R179). -/
def markCode (held : Bool) : Nat := if held then 2 else 1

/-- The answer to an accepted report: the train's state after it (R148, R182). -/
def reportBody (r : TrainRec) : List Byte :=
  putBE 1 r.permit.code ++ putBE 4 r.order.target ++ putBE 1 (markCode r.order.held) ++ [r.order.seq] ++
    putOpt 4 (r.nextOrder.map NextOrder.target)

/-- A report refused NOT_RUNNING: UNPERMITTED FLOW where it states air, and the answer with permit and cause (R144,
R145). -/
def refuseReport (t : Train) (air : Nat) (s : State) : Taken :=
  let r := s.train t
  let s1 := if air = 0 then s else emit .unpermittedFlow .alert (.train t) air r.permit.code s
  (s1, some { code := .notRunning
              body := putBE 1 r.permit.code ++ putBE 1 ((r.cause.map TripCause.code).getD 0) })

/-- The examination of a report of a train from its owner port, from check 3 on (R144, R148). -/
def examineReport (t : Train) (x : ReportFields) (s : State) : Taken :=
  match x.report with
  | none => refuse .range s
  | some r =>
    if (s.train t).permit.attached then
      let y := applyReport t r s
      (y.1, some { code := .done, clamped := y.2, body := reportBody (y.1.train t) })
    else refuseReport t r.air s

/-- Set a port's stream-mode flag. -/
def setStream (p : Port) (v : Bool) (s : State) : State := s.modPort p (fun r => { r with stream := v })

/-- RUN REPORT: a mode byte of 0x5C sets the stream-mode flag once the train and port checks have passed (R144,
R154). -/
def takeRunReport (p : Port) (train : Byte) (x : ReportFields) (s : State) : Taken :=
  match nameTrain p train with
  | .range => refuse .range s
  | .port => refuse .port s
  | .train t =>
    let y := examineReport t x s
    (if x.mode = 0x5C then setStream p true y.1 else y.1, y.2)

/-- A streamed report of a train the port owns: a mode byte of 0xC5 clears the flag (R155). -/
def takeStreamed (p : Port) (train : Byte) (x : ReportFields) (s : State) : Taken :=
  match nameTrain p train with
  | .range => refuse .range s
  | .port => refuse .port s
  | .train t =>
    let y := examineReport t x s
    (if x.mode = 0xC5 then setStream p false y.1 else y.1, y.2)

/-! ## CLEAR TRIP, CLEAR DERATE, DISCARD TOP -/

/-- CLEAR TRIP of a train by its owner port (R129). -/
def clearTripOf (t : Train) (s : State) : Taken :=
  if (s.train t).permit = .tripped then
    doneWith (postRecheck (bumpGeneration (s.modTrain t (fun r => { r with permit := .off, cause := none }))))
  else refuse .state s

/-- CLEAR TRIP (R129). -/
def takeClearTrip (p : Port) (train : Byte) (s : State) : Taken :=
  match nameTrain p train with
  | .range => refuse .range s
  | .port => refuse .port s
  | .train t => clearTripOf t s

/-- CLEAR DERATE of a train by its owner port (R139). -/
def clearDerateOf (t : Train) (s : State) : Taken :=
  if (s.train t).derated then
    let s1 := postRecheck (bumpGeneration (s.modTrain t (fun r => { r with cap := r.rated, derated := false })))
    doneWith (runSplit s1.dsu s1)
  else refuse .state s

/-- CLEAR DERATE (R139). -/
def takeClearDerate (p : Port) (train : Byte) (s : State) : Taken :=
  match nameTrain p train with
  | .range => refuse .range s
  | .port => refuse .port s
  | .train t => clearDerateOf t s

/-- DISCARD TOP (R65). -/
def takeDiscardTop (store : Byte) (s : State) : Taken :=
  match storeOf store with
  | none => refuse .range s
  | some st =>
    let r := s.store st
    match r.stack with
    | p :: rest =>
      if r.configured ∧ r.flow = .idle then doneWith (postRecheck (plantEvent (discardParcel st p rest) s))
      else refuse .state s
    | [] => refuse .state s

end Sys2Proof.Machine
end

