-- ==== Sys2Proof/Machine/Wire.lean ====
section
/-! DEFINITION. The layouts of the answers that read a record, and of slot, settlement and event records (R179, R182,
R183). -/

namespace Sys2Proof.Machine

/-! ## Codes (R179) -/

/-- Validity code. -/
def Validity.code : Validity → Nat
  | .good => 1 | .suspect => 2 | .fault => 3 | .stale => 4
/-- Quality code. -/
def Quality.code : Quality → Nat
  | .unknown => 1 | .tracked => 2 | .estimated => 3
/-- Cavern flow code. -/
def CavernFlow.code : CavernFlow → Nat
  | .idle => 1 | .filling => 2 | .withdrawing => 3
/-- Store flow code. -/
def StoreFlow.code : StoreFlow → Nat
  | .idle => 1 | .charging => 2 | .drawing => 3
/-- Band side code. -/
def BandSide.code : BandSide → Nat
  | .bottom => 1 | .top => 2
/-- Rounding mode code. -/
def Mode.code : Mode → Nat
  | .guarded => 1 | .nearest => 2
/-- Timing state code. -/
def Timing.code : Timing → Nat
  | .onTime => 1 | .late => 2 | .overdue => 3
/-- Report condition code. -/
def Condition.code : Condition → Nat
  | .ready => 1 | .notReady => 2 | .tripped => 3
/-- Slot state code. -/
def SlotState.code : SlotState → Nat
  | .empty => 1 | .offered => 2 | .committed => 3 | .active => 4 | .voided => 5
/-- Direction code. -/
def Direction.code : Direction → Nat
  | .gen => 1 | .chg => 2 | .idle => 3
/-- Event class code. -/
def EventClass.code : EventClass → Nat
  | .alert => 1 | .notice => 2 | .info => 3
/-- Event kind code, 1 to 36 in the row order of the gathering table. -/
def EventKind.code : EventKind → Nat
  | .permitGranted => 1 | .permitLapsed => 2 | .permitEnded => 3 | .orderStaged => 4 | .orderChanged => 5
  | .orderSettled => 6 | .equipmentCheck => 7 | .reportLate => 8 | .reportOverdue => 9 | .permitLost => 10
  | .trainTripped => 11 | .reportClamped => 12 | .offerLapsed => 13 | .slotActive => 14 | .slotSettled => 15
  | .atRisk => 16 | .riskCleared => 17 | .slotShort => 18 | .hold => 19 | .resume => 20 | .envelopeBreach => 21
  | .breachCleared => 22 | .cavernInReserve => 23 | .cavernAtCeiling => 24 | .rateHold => 25 | .storeFull => 26
  | .reheatShort => 27 | .reconciled => 28 | .topDiscarded => 29 | .instrumentStale => 30 | .arithException => 31
  | .unpermittedFlow => 32 | .timeHoldover => 33 | .portWithdrawn => 34 | .portJoined => 35 | .serviceState => 36
/-- Subject kind code. -/
def Subject.kindCode : Subject → Nat
  | .nothing => 0 | .cavern _ => 1 | .store _ => 2 | .train _ => 3 | .slot _ => 4
/-- Subject number (R183). That a subject of kind none is sent as 0 is the model's choice (log 43). -/
def Subject.number : Subject → Nat
  | .nothing => 0 | .cavern c => cavernNumber c | .store st => storeNumber st | .train t => t.number | .slot j => j
/-- Hold state code. -/
def holdCode (r : HoldReasons) : Nat := if r.held then 2 else 1
/-- Engine state code, from the walk in flight (R93). -/
def Pen.engineCode (x : Pen) : Nat :=
  match x.flight with
  | none => 1
  | some f =>
    match f.request with
    | none => 2
    | some (.offer ..) => 3
    | some (.confirm ..) => 4
/-- Train set: bit n − 1 for train n. -/
def trainSet (ts : List Train) : Nat := (allTrains.map (fun t => bit (t.number - 1) (ts.contains t))).sum

/-! ## Records (R183) -/

/-- A slot record, 52 bytes. -/
def slotBytes (x : Slot) : List Byte :=
  putBE 4 x.interval ++ putBE 1 x.state.code ++ [x.seq] ++ putBE 1 (directionOf x.power).code ++
    putSigned 4 x.power ++ putOpt 4 (x.band.map Band.up) ++ putOpt 4 (x.band.map Band.down) ++ putBE 4 x.ref.toNat ++
    putSignedOpt 4 (x.offer.map Offered.held) ++ putOpt 4 (x.offer.map Offered.expiry) ++
    putBE 1 (bit 0 x.atRisk + bit 1 x.atRiskSeen + bit 2 x.short + bit 3 x.shortSeen) ++ putOpt 4 x.margin ++
    putSignedOpt 4 (x.activity.map Activity.reserve) ++ putSignedOpt 4 (x.activity.map Activity.energy) ++
    putSignedOpt 4 (x.activity.map Activity.delivered) ++ putOpt 4 (x.activity.map Activity.mark)

/-- A settlement record, 39 bytes. -/
def settlementBytes (x : Settlement) : List Byte :=
  putBE 4 x.interval ++ putBE 4 x.ref.toNat ++ putBE 1 (directionOf x.power).code ++ putSigned 4 x.power ++
    putBE 4 x.band.up ++ putBE 4 x.band.down ++ putSigned 4 x.scheduled ++ putSigned 4 x.activated ++
    putSigned 4 x.delivered ++ putSigned 4 x.deviation ++
    putBE 1 (bit 0 x.wasEmpty + bit 1 x.wasVoided + bit 2 x.atRiskSeen + bit 3 x.shortSeen + bit 4 x.overrun) ++ [x.seq]

/-- An event record, 19 bytes. -/
def eventBytes (r : EventRecord) : List Byte :=
  putBE 1 r.kind.code ++ putBE 1 r.cls.code ++ putBE 1 r.subject.kindCode ++ putBE 4 r.subject.number ++
    putBE 4 r.seconds ++ putBE 4 r.word1.toNat ++ putBE 4 r.word2.toNat

/-! ## Answers that read a record (R182) -/

/-- The conditions of a cavern as a bit set. -/
def CavernRec.conditionBits (r : CavernRec) : Nat :=
  bit 0 r.inReserve + bit 1 r.atCeiling + bit 2 r.rateHold + bit 3 r.breachLow + bit 4 r.breachHigh

/-- A counter, 8 bytes. -/
def counterBytes (x : Int) : List Byte := putSigned 8 x

/-- The configuration fields of a cavern; 0 when it is not configured (R182). -/
def cavernConfigBytes (r : CavernRec) : List Byte :=
  let f (x : Nat) : Nat := if r.configured then x else 0
  putFlag r.configured ++ putBE 3 (f r.gain) ++ putBE 2 (f r.floor) ++ putBE 2 (f r.ceiling) ++ putBE 2 (f r.rate) ++
    putBE 2 (f r.refTemp) ++ putBE 2 (f r.tol)

/-- The limits of a cavern, absent together. -/
def limitBytes (l : Option Limits) : List Byte :=
  putOpt 4 (l.map Limits.rawFloor) ++ putOpt 4 (l.map Limits.rawCeiling) ++ putOpt 4 (l.map Limits.bandBottom) ++
    putOpt 4 (l.map Limits.bandTop) ++ putOpt 4 (l.map Limits.effFloor) ++ putOpt 4 (l.map Limits.effCeiling)

/-- A figure that follows from the effective limits: absent while they are (R116; log 19). -/
def CavernRec.derived (r : CavernRec) (x : Nat) : Option Nat := r.limits.map (fun _ => x)

/-- READ CAVERN, 114 bytes (R44, R182). -/
def cavernBody (s : State) (p : Port) (c : Cavern) : List Byte :=
  let r := s.cavern c
  cavernConfigBytes r ++ putBE 1 r.swCode.toNat ++ putBE 1 r.swSide.code ++ putBE 1 s.ciu.hwCode.toNat ++
    putBE 1 s.ciu.hwSide.code ++ limitBytes r.limits ++ putBE 4 r.mass ++ putBE 1 r.quality.code ++
    counterBytes r.loaded ++ counterBytes r.filled ++ counterBytes r.withdrawn ++ counterBytes r.reconciled ++
    putOpt 4 (r.derived r.usableAir) ++ putOpt 4 (r.derived r.room) ++ putOpt 2 r.pressure ++
    putBE 1 r.pressureV.code ++ putOpt 2 r.temp ++ putBE 1 r.tempV.code ++ putOpt 2 r.lastTemp ++
    putOpt 2 r.estimate ++ putBE 1 r.flow.code ++ putBE 1 (trainSet r.attached) ++ putBE 1 r.conditionBits ++
    putOpt 4 r.budget ++ putBE 4 r.spent ++ putBE 4 r.stableTimer ++
    putBE 1 (bit 0 s.lockEffective + bit 1 s.pins.envlock) ++ putFlag ((s.events p).latch c)

/-- The configuration fields of a store; 0 when it is not configured (R182). -/
def storeConfigBytes (r : StoreRec) : List Byte :=
  let f (x : Nat) : Nat := if r.configured then x else 0
  putFlag r.configured ++ putBE 4 (f r.capacity) ++ putBE 2 (f r.tBase) ++ putBE 2 (f r.tSpent) ++
    putBE 2 (f r.tUse) ++ putBE 2 (f r.tol) ++ putBE 1 (f r.margin)

/-- One parcel of READ STORE, 12 bytes. -/
def parcelBytes (p : Parcel) : List Byte :=
  putBE 4 p.heat ++ putOpt 2 p.temp ++ putBE 1 (if p.opened then 1 else 2) ++
    putBE 1 ((p.origin.map Train.number).getD 0) ++ putBE 4 p.opening

/-- READ STORE, 74 bytes and 12 for each parcel (R69, R182). -/
def storeBody (s : State) (st : Store) : List Byte :=
  let r := s.store st
  storeConfigBytes r ++ putBE 2 r.decay ++ putFlag r.loadedFlag ++ putBE 1 r.quality.code ++ putBE 1 r.flow.code ++
    putBE 1 ((r.charging.map Train.number).getD 0) ++ putBE 1 (trainSet r.drawing) ++
    putBE 1 (bit 0 r.full + bit 1 r.short) ++ putBE 4 r.shortfall ++ putBE 4 r.content ++ putBE 4 r.free ++
    putBE 4 r.reachable ++ counterBytes r.deposited ++ counterBytes r.drawn ++ counterBytes r.writtenOff ++
    counterBytes r.reconciled ++ putOpt 2 r.top ++ putBE 1 r.topV.code ++ putBE 1 r.stack.length ++
    r.stack.flatMap parcelBytes

/-- The configuration fields of a train; 0 when it is not configured (R182). -/
def trainConfigBytes (r : TrainRec) : List Byte :=
  let f (x : Nat) : Nat := if r.configured then x else 0
  putFlag r.configured ++ putBE 4 (f r.rated) ++ putBE 4 (f r.minLoad) ++ putBE 4 (f r.rampLimit) ++
    putBE 4 (f r.band) ++ putBE 2 (f r.maxFlow)

/-- A preference: 0 ANY, its number, 0xFF when absent (R179). -/
def prefByte (x : Option (Option Nat)) : List Byte :=
  match x with
  | none => putBE 1 0xFF
  | some none => putBE 1 0
  | some (some n) => putBE 1 n

/-- The dispatch view in READ TRAIN (R119, R182; log 19). -/
def viewBytes (v : View) : List Byte :=
  putBE 4 v.current ++ putBE 1 (if v.active.isSome then SlotState.active else .empty).code ++
    putSignedOpt 4 v.active ++ putFlag v.next.isSome ++ putOpt 4 (v.next.map NextSlot.interval) ++
    putBE 1 ((v.next.map (fun x => x.state.code)).getD 0) ++ putSignedOpt 4 (v.next.map NextSlot.power) ++
    putBE 1 (bit 0 v.admitsGen + bit 1 v.admitsChg)

/-- READ TRAIN, 102 bytes (R140, R182). -/
def trainBody (s : State) (t : Train) : List Byte :=
  let r := s.train t
  trainConfigBytes r ++ putBE 4 r.cap ++ putFlag r.derated ++ putBE 1 r.permit.code ++
    putBE 1 ((r.cause.map TripCause.code).getD 0) ++ prefByte (r.prefs.map (fun x => x.cavern.map cavernNumber)) ++
    prefByte (r.prefs.map (fun x => x.store.map storeNumber)) ++ putBE 1 (queuePosition s.dsu.queue t) ++
    putBE 1 ((r.attachment.map (fun a => cavernNumber a.cavern)).getD 0) ++
    putBE 1 ((r.attachment.map (fun a => storeNumber a.store)).getD 0) ++ putBE 4 r.order.target ++
    putBE 4 r.order.ramp ++ [r.order.seq] ++ putBE 1 (markCode r.order.held) ++
    putOpt 4 (r.nextOrder.map NextOrder.target) ++ putOpt 4 (r.nextOrder.map NextOrder.ramp) ++
    putOpt 4 (r.nextOrder.map NextOrder.interval) ++ [r.stagedSeq] ++ putFlag r.settlePending ++
    putBE 1 r.settleCount ++ putBE 1 r.timing.code ++ putOpt 4 r.reference ++ putBE 4 r.silence ++
    putOpt 4 (r.last.map LastReport.power) ++ putBE 1 ((r.last.map (fun x => x.condition.code)).getD 0) ++
    putBE 4 r.totalAir ++ putBE 4 r.totalHeat ++ putBE 4 r.totalEnergy ++ viewBytes s.dsu.view

/-- The standing powers of READ POSITION with their limit codes and what their conversions saturated; absent before the
first accepted SET FIGURES (R116). -/
def standing (s : State) (powers : List (Limit × Nat)) : Option Nat × Limit :=
  if s.svc.figuresSet then (some (smallest powers), (limitCode Config.powerTop powers).1) else (none, .none)

/-- A base for READ POSITION: the figures as they stand, with the held reachable heat and the rate left (R116). -/
def positionBase (s : State) : Base :=
  let b := readBase s
  { b with heat := s.sumReachable, rate := b.rateLeft }

/-- The constraints of the standing generation power (R116). -/
def standingGen (s : State) : Powers :=
  let b := positionBase s
  let h := heatPower b b.heat b.figures.qx b.figures.yGen
  ⟨[(.air, airPower b b.air b.figures.yGen), (.heat, h.val), (.rate, airPower b b.rate b.figures.yGen),
    (.plant, b.expansion)], h.exc⟩

/-- The constraints of the standing charging power (R116). -/
def standingChg (s : State) : Powers :=
  let b := positionBase s
  let h := heatPower b b.free b.figures.qc b.figures.yChg
  ⟨[(.room, airPower b b.room b.figures.yChg), (.storeRoom, h.val), (.rate, airPower b b.rate b.figures.yChg),
    (.plant, b.compression)], h.exc⟩

/-- The four figures of a cavern in READ POSITION: 0 while its effective limits are absent (R116), and the absent code for
a rate budget that is absent beside them (R179, R182). -/
def positionCavern (r : CavernRec) : List Byte :=
  putBE 4 r.usableAir ++ putBE 4 r.room ++ putOpt 4 (if r.limits.isSome then r.budget else some 0) ++
    putBE 4 r.budgetSpent

/-- READ POSITION, 102 bytes (R116, R182; log 19). -/
def positionBody (s : State) : List Byte :=
  let a := s.ciu.cv1
  let b := s.ciu.cv2
  let g := standing s (standingGen s).list
  let c := standing s (standingChg s).list
  positionCavern a ++ positionCavern b ++
    (putBE 4 s.sumAir ++ putBE 4 s.sumRoom ++ putBE 4 (a.rateBudget + b.rateBudget) ++ putBE 4 (a.budgetSpent + b.budgetSpent)) ++
    (putBE 4 s.hsu.hsA.reachable ++ putBE 4 s.hsu.hsA.free) ++ (putBE 4 s.hsu.hsB.reachable ++ putBE 4 s.hsu.hsB.free) ++
    (putBE 4 s.sumReachable ++ putBE 4 s.sumFree) ++ putBE 4 (capability s.dsu true) ++
    putBE 4 (capability s.dsu false) ++ putOpt 4 g.1 ++ putBE 1 g.2.code ++ putOpt 4 c.1 ++ putBE 1 c.2.code ++
    putBE 1 (holdCode s.pen.genHold) ++ putBE 1 s.pen.genHold.bits ++ putBE 1 (holdCode s.pen.chgHold) ++
    putBE 1 s.pen.chgHold.bits ++ putBE 1 s.pen.engineCode ++ putFlag s.pen.recheckFlag ++
    putFlag s.pen.waiting.isSome ++ putBE 4 s.pen.generation.toNat ++ putBE 1 s.pen.lastLimit.code

/-- READ ARITH, 15 bytes (R24, R182); a record with no capture is sent as zeros and an absent interval (log 43), and
the capture-present byte of one with a capture as 1 (log 53). -/
def arithBody (a : Arith) : List Byte :=
  putBE 1 a.mode.code ++
    putBE 1 (bit 0 a.trap + bit 1 a.overflowNotice + bit 2 a.underflowNotice + bit 3 a.inhibit) ++ putFlag a.sticky ++
    match a.capture with
    | none => putBE 1 0 ++ putBE 1 0 ++ putBE 1 0 ++ putBE 1 0 ++ putBE 4 0 ++ putOpt 4 none
    | some c =>
      putBE 1 1 ++ putBE 1 c.code.code ++ putBE 1 c.source.code ++ putBE 1 c.subject.kindCode ++
        putBE 4 c.subject.number ++ putOpt 4 c.slot

/-- READ TIME, 21 bytes (R75, R182). -/
def timeBody (s : State) : List Byte :=
  let k := intervalOf s.pck.seconds
  putBE 4 s.pck.seconds ++ putBE 4 k ++ putBE 2 (elapsedIn s.pck.seconds) ++
    putBE 1 (bit 0 s.pck.timeSet + bit 1 s.pck.holdover + bit 2 (decide (s.pck.stagingMark = some k))) ++
    putBE 4 s.pck.holdCount ++ putBE 2 s.svc.times.lead ++ putBE 4 s.sbk.current

end Sys2Proof.Machine
end

