-- ==== Sys2Proof/Machine/TakeTrade.lean ====
section
/-! DEFINITION. What the Schedule Book and the Position Engine do with the trading commands (codes 0x20 to 0x27), with
the answer they place; an OFFER or CONFIRM that passes gets its answer later (chapters 4, 5). -/

namespace Sys2Proof.Machine

/-- A request is held: GEN HELD with N_hi above 0, or CHG HELD with N_lo below 0 (R104, R106). -/
def heldFor (s : State) (n : Int) (up down : Nat) : Bool :=
  (s.pen.genHold.held && decide (0 < upperPower n up)) || (s.pen.chgHold.held && decide (lowerPower n down < 0))

/-- An OFFER or CONFIRM that passes waits for the engine, or starts its walk at a free one, and its answer comes later
(R94, R104, R106, R176). -/
def awaitEngine (r : Request) (s : State) : Taken :=
  ({ s with pen := Pen.takeUp { s.pen with waiting := some r } }, none)

/-- OFFER (R104). -/
def takeOffer (interval power up down ref : BitVec 32) (s : State) : Taken :=
  let j := interval.toNat
  let n := power.toInt
  if s.svc.part ≠ .service ∨ s.presence .t ≠ .declared then refuse .state s
  else if (s.inWindow j && decide (s.sbk.current < j) && withinPower n && decide (up.toNat ≤ 1000000) &&
      decide (down.toNat ≤ 1000000)) = false then refuse .range s
  else if (s.slot j).state ≠ .empty then refuse .state s
  else if heldFor s n up.toNat down.toNat then refuse .held s
  else awaitEngine (.offer j n up.toNat down.toNat ref) s

/-- The identity checks of R80 come before a slot command's own tests. -/
def identified (j : Nat) (seq : Byte) (f : State → Taken) (s : State) : Taken :=
  match identify j seq s with
  | .outside => refuse .range s
  | .stale => refuse .staleSequence s
  | .fits => f s

/-- CONFIRM (R106). -/
def takeConfirm (interval : BitVec 32) (seq : Byte) (value : BitVec 32) (s : State) : Taken :=
  let j := interval.toNat
  identified j seq (fun s =>
    let x := s.slot j
    if s.svc.part ≠ .service ∨ x.state ≠ .offered then refuse .state s
    else if x.offer.map Offered.held ≠ some value.toInt then refuse .mismatch s
    else if heldFor s x.power x.up x.down then refuse .held s
    else awaitEngine (.confirm j seq value.toInt) s) s

/-- WITHDRAW OFFER (R108). -/
def takeWithdrawOffer (interval : BitVec 32) (seq : Byte) (s : State) : Taken :=
  let j := interval.toNat
  identified j seq (fun s =>
    if (s.slot j).state = .offered then
      let s1 := s.modSlot j Slot.emptied
      (slotChanged j s1, some (.done [(s1.slot j).seq]))
    else refuse .state s) s

/-- A COMMITTED slot is voided: AT_RISK clears, the rest stays (R84). -/
def Slot.voidedOut (x : Slot) : Slot := { x with state := .voided, seq := x.seq + 1, atRisk := false }

/-- VOID SLOT (R84). -/
def takeVoidSlot (interval : BitVec 32) (seq : Byte) (s : State) : Taken :=
  let j := interval.toNat
  identified j seq (fun s =>
    if (s.slot j).state = .committed then
      let s1 := s.modSlot j Slot.voidedOut
      (postRecheck (slotChanged j s1), some (.done [(s1.slot j).seq]))
    else refuse .state s) s

/-- The two clamps of an activation (R115). -/
def clampReserve (n : Int) (up down : Nat) (a : Int) : Int :=
  let b := max (-(down : Int)) (min a up)
  if 0 < n then max b (-n) else if n < 0 then min b (-n) else b

/-- Store an activated reserve in an ACTIVE slot (R86, R115). -/
def storeReserve (j : Nat) (a : Int) (s : State) : State :=
  s.modSlot j (fun x => { x with activity := x.activity.map (fun y => { y with reserve := a }) })

/-- ACTIVATE RESERVE (R115). -/
def takeActivateReserve (interval : BitVec 32) (seq : Byte) (amount : BitVec 32) (s : State) : Taken :=
  let j := interval.toNat
  identified j seq (fun s =>
    let x := s.slot j
    if x.state = .active then
      let a := clampReserve x.power x.up x.down amount.toInt
      let s1 := storeReserve j a (closeIntegration s.pck.seconds s)
      (postRecheck (handReserve (x.power + a) (bumpGeneration s1)),
        some { code := .done, clamped := a != amount.toInt, body := putSigned 4 a })
    else refuse .state s) s

/-- The slots that READ SLOTS examines: from the first interval up to the count or the end of the window (R90). -/
def slotsFrom (s : State) (first count : Nat) : List Slot :=
  (s.window.filter (fun j => first ≤ j && j < first + count)).map s.slot

/-- READ SLOTS (R90). -/
def takeReadSlots (first : BitVec 32) (count skip : Byte) (s : State) : Taken :=
  match settingOf skip with
  | none => refuse .range s
  | some k =>
    if s.inWindow first.toNat && within 1 96 count.toNat then
      let xs := (slotsFrom s first.toNat count.toNat).filter (fun x => !(k && x.state == .voided))
      (s, some (.done (putBE 4 s.pck.seconds ++ putBE 1 xs.length ++ xs.flatMap slotBytes)))
    else refuse .range s

/-- The figure of a slot that a scan compares; an absent margin meets no comparison (R91). -/
def scanned (f : ScanFigure) (x : Slot) : Option Int :=
  match f with
  | .power => some x.power
  | .bandUp => some x.up
  | .bandDown => some x.down
  | .margin => x.margin.map (fun m => (m : Int))

/-- A figure meets a comparison against a value (R91). -/
def Comparison.meets (c : Comparison) (x v : Int) : Bool :=
  match c with
  | .equal => x == v
  | .atLeast => decide (v ≤ x)
  | .atMost => decide (x ≤ v)

/-- The slots that a scan examines: first, first + step, and so on, not beyond the last (R91). -/
def scanSlotsFrom (s : State) (first last stride : Nat) : List Slot :=
  (s.window.filter (fun j => first ≤ j && j ≤ last && (j - first) % stride == 0)).map s.slot

/-- The answer of a scan (R91, R182). -/
def scanBody (f : ScanFigure) (c : Comparison) (v : Int) (xs : List Slot) : List Byte :=
  match xs.find? (fun x => (scanned f x).any (fun y => c.meets y v)) with
  | some x =>
    putBE 1 1 ++ putBE 4 x.interval ++ [x.seq] ++ putBE 1 x.state.code ++ putSigned 4 ((scanned f x).getD 0)
  | none => putBE 1 2 ++ putBE 4 0 ++ putBE 1 0 ++ putBE 1 0 ++ putBE 4 0

/-- SCAN SLOTS (R91). -/
def takeScanSlots (first last : BitVec 32) (figure comparison : Byte) (value : BitVec 32) (stride : Byte)
    (s : State) : Taken :=
  match scanFigureOf figure, comparisonOf comparison with
  | some f, some c =>
    if s.inWindow first.toNat && s.inWindow last.toNat && decide (first.toNat ≤ last.toNat) &&
        withinPower value.toInt && within 1 2 stride.toNat then
      (s, some (.done (scanBody f c value.toInt (scanSlotsFrom s first.toNat last.toNat stride.toNat))))
    else refuse .range s
  | _, _ => refuse .range s

/-- FETCH SETTLEMENT (R89). -/
def takeFetchSettlement (s : State) : Taken :=
  match s.sbk.ring with
  | r :: rest =>
    ({ s with sbk := { s.sbk with ring := rest } }, some (.done (putBE 1 rest.length ++ settlementBytes r)))
  | [] => refuse .none s

end Sys2Proof.Machine
end

