-- ==== Sys2Proof/Machine/TakeRead.lean ====
section
/-! DEFINITION. What the blocks do with the reads, the arithmetic reads and the event commands (READ TRAIN and codes
0x30 to 0x3F), with the answer they place (chapters 1 to 6, 9, 10). -/

namespace Sys2Proof.Machine

/-- READ TRAIN (R140). -/
def takeReadTrain (train : Byte) (s : State) : Taken :=
  match trainOf train with
  | some t => (s, some (.done (trainBody s t)))
  | none => refuse .range s

/-- READ CAVERN: the answer reports the port's breach latch, and the command then clears it (R44, R172). -/
def takeReadCavern (p : Port) (cavern : Byte) (s : State) : Taken :=
  match cavernOf cavern with
  | some c => (s.modEvents p (fun q => q.setLatch c false), some (.done (cavernBody s p c)))
  | none => refuse .range s

/-- READ STORE (R69). -/
def takeReadStore (store : Byte) (s : State) : Taken :=
  match storeOf store with
  | some st => (s, some (.done (storeBody s st)))
  | none => refuse .range s

/-- READ POSITION: an exception in its conversions is captured with source WALK and no slot interval (R116; log 13). -/
def takeReadPosition (s : State) : Taken :=
  let s1 :=
    if s.svc.figuresSet then
      raise (standingChg s).exc .walk .nothing (raise (standingGen s).exc .walk .nothing s)
    else s
  (s1, some (.done (positionBody s)))

/-- READ ARITH (R24). -/
def takeReadArith (s : State) : Taken := (s, some (.done (arithBody s.arith)))

/-- CLEAR ARITH (R24). -/
def takeClearArith (s : State) : Taken :=
  doneWith { s with arith := { s.arith with sticky := false, capture := none } }

/-- READ TIME (R75). -/
def takeReadTime (s : State) : Taken := (s, some (.done (timeBody s)))

/-- FETCH EVENT: the oldest record leaves the queue, and MISSED is reported and cleared (R170). -/
def takeFetchEvent (p : Port) (s : State) : Taken :=
  let q := s.events p
  match q.queue with
  | r :: rest =>
    (s.modEvents p (fun q => { q with queue := rest, missed := false }),
      some { code := .done, missed := q.missed, body := putBE 1 rest.length ++ eventBytes r })
  | [] => (s.modEvents p (fun q => { q with missed := false }), some { code := .none, missed := q.missed })

/-- SET EVENT MASK (R167). -/
def takeSetEventMask (p : Port) (setting : Byte) (s : State) : Taken :=
  match settingOf setting with
  | some v =>
    (s.modEvents p (fun q => { q with mask := v }),
      some (.done (putFlag v ++ putBE 1 (s.events p).queue.length)))
  | none => refuse .range s

/-- PORT RESET: the unread result goes, the stream flag clears, the event queue empties, and the answer is the presence
(R171, R177). -/
def takePortReset (p : Port) (s : State) : Taken :=
  let s1 := (s.modPort p (fun r => { r with result := [], read := 0, stream := false })).modEvents p
    (fun q => { q with queue := [], missed := false })
  (s1, some (.done (putBE 1 (s.presence p).code)))

end Sys2Proof.Machine
end

