-- ==== Sys2Proof/Machine/Spi.lean ====
section
/-! DEFINITION. The station port interface: the catalogue, frames, the status byte, the collecting and taking of
commands byte by byte, streamed command phases, and the reading of results (chapter 10; R154 to R156). -/

namespace Sys2Proof.Machine

/-! ## The catalogue (R180) -/

/-- The parameter length of a command code of the catalogue (R180). -/
def catalogueLength (code : Nat) : Option Nat :=
  match code with
  | 0x01 => some 0 | 0x02 => some 14 | 0x03 => some 14 | 0x04 => some 19 | 0x05 => some 32 | 0x06 => some 14
  | 0x07 => some 2 | 0x08 => some 1 | 0x09 => some 9 | 0x0A => some 4 | 0x0B => some 0 | 0x0C => some 0
  | 0x0D => some 0 | 0x0E => some 3 | 0x10 => some 3 | 0x11 => some 1 | 0x12 => some 22 | 0x13 => some 1
  | 0x14 => some 1 | 0x15 => some 1 | 0x16 => some 1 | 0x20 => some 20 | 0x21 => some 9 | 0x22 => some 5
  | 0x23 => some 5 | 0x24 => some 9 | 0x25 => some 6 | 0x26 => some 15 | 0x27 => some 0 | 0x30 => some 1
  | 0x31 => some 1 | 0x32 => some 0 | 0x33 => some 0 | 0x34 => some 0 | 0x35 => some 0 | 0x38 => some 0
  | 0x39 => some 1 | 0x3F => some 0
  | _ => none

/-- The catalogue admits a command from a port; an owner restriction is checked by the owning block (R175, R180). -/
def admits (code : Nat) (p : Port) : Bool :=
  if code = 0x0A ∨ (0x20 ≤ code ∧ code ≤ 0x24) ∨ code = 0x27 then p == .t
  else if code = 0x16 then p != .t
  else true

/-! ## The taking of a command (R175, R176) -/

/-- Place what a taking comes to: the answer at once, or EXECUTING until the engine places it (R176). -/
def placeTaken (p : Port) (form : Answer → List Byte) (t : Taken) : State :=
  match t.2 with
  | some a => placeNow p (form a) t.1
  | none => t.1.modPort p (fun r =>
    { r with phase := .executing, collected := [], streamed := false, result := [], read := 0 })

/-- The collected bytes leave the port when the command is taken. -/
def uncollect (p : Port) (s : State) : State :=
  s.modPort p (fun r => { r with phase := .idle, collected := [], streamed := false })

/-- A command is taken: first the catalogue's port column, then the owning block (R175). -/
def takeAt (p : Port) (code : Nat) (take : State → Taken) (s : State) : State :=
  if admits code p then placeTaken p Answer.full (take (uncollect p s))
  else placeNow p (Answer.bare .port).full s

/-- Cut bytes into fields of given widths. -/
def splitFields : List Nat → List Byte → List (List Byte)
  | [], _ => []
  | w :: ws, bytes => bytes.take w :: splitFields ws (bytes.drop w)

/-- A one-byte field. -/
def u8 (f : List Byte) : Byte := BitVec.ofNat 8 (getBE f)
/-- A two-byte field. -/
def u16 (f : List Byte) : BitVec 16 := BitVec.ofNat 16 (getBE f)
/-- A three-byte field. -/
def u24 (f : List Byte) : BitVec 24 := BitVec.ofNat 24 (getBE f)
/-- A four-byte field. -/
def u32 (f : List Byte) : BitVec 32 := BitVec.ofNat 32 (getBE f)

/-- LOAD INVENTORY: the object code chooses the owning block (R180). -/
def takeLoadInventory (object number method : Byte) (amount : BitVec 32) (temp : BitVec 16) (s : State) : Taken :=
  if object = 1 then takeLoadCavern number method amount s
  else if object = 2 then takeLoadStore number method amount temp s
  else refuse .range s

/-- What the owning block does with the parameter bytes of the configuration commands (R180). -/
def takeConfigBytes (p : Port) (code : Nat) (bs : List Byte) (s : State) : Taken :=
  match code with
  | 0x01 => takeReadIdentity p s
  | 0x02 =>
    match splitFields [1, 3, 2, 2, 2, 2, 2] bs with
    | [a, b, c, d, e, f, g] => takeSetCavern (u8 a) (u24 b) (u16 c) (u16 d) (u16 e) (u16 f) (u16 g) s
    | _ => refuse .range s
  | 0x03 =>
    match splitFields [1, 4, 2, 2, 2, 2, 1] bs with
    | [a, b, c, d, e, f, g] => takeSetStore (u8 a) (u32 b) (u16 c) (u16 d) (u16 e) (u16 f) (u8 g) s
    | _ => refuse .range s
  | 0x04 =>
    match splitFields [1, 4, 4, 4, 4, 2] bs with
    | [a, b, c, d, e, f] => takeSetTrain p (u8 a) (u32 b) (u32 c) (u32 d) (u32 e) (u16 f) s
    | _ => refuse .range s
  | 0x05 =>
    match splitFields [2, 2, 2, 2, 4, 2, 2, 4, 4, 4, 4] bs with
    | [a, b, c, d, e, f, g, h, i, j, k] =>
      takeSetFigures (u16 a) (u16 b) (u16 c) (u16 d) (u32 e) (u16 f) (u16 g) (u32 h) (u32 i) (u32 j) (u32 k) s
    | _ => refuse .range s
  | 0x06 =>
    match splitFields [2, 2, 4, 2, 2, 1, 1] bs with
    | [a, b, c, d, e, f, g] => takeSetTiming (u16 a) (u16 b) (u32 c) (u16 d) (u16 e) (u8 f) (u8 g) s
    | _ => refuse .range s
  | 0x07 =>
    match splitFields [1, 1] bs with
    | [a, b] => takeSetArithMode (u8 a) (u8 b) s
    | _ => refuse .range s
  | 0x08 => takeSetLockEnable (u8 bs) s
  | 0x09 =>
    match splitFields [1, 1, 1, 4, 2] bs with
    | [a, b, c, d, e] => takeLoadInventory (u8 a) (u8 b) (u8 c) (u32 d) (u16 e) s
    | _ => refuse .range s
  | 0x0A => takeSetTime (u32 bs) s.pck.moment s
  | 0x0B => takeDeclareReady p s
  | 0x0C => takeWithdraw p s
  | 0x0D => takePark p s
  | _ =>
    match splitFields [1, 1, 1] bs with
    | [a, b, c] => takeSetReserveBand (u8 a) (u8 b) (u8 c) s
    | _ => refuse .range s

/-- The report fields from power to mode byte, 21 bytes (R180). -/
def reportFieldsOf (bs : List Byte) : ReportFields :=
  match splitFields [4, 4, 4, 4, 2, 1, 1, 1] bs with
  | [a, b, c, d, e, f, g, h] => ⟨u32 a, u32 b, u32 c, u32 d, u16 e, u8 f, u8 g, u8 h⟩
  | _ => ⟨0, 0, 0, 0, 0, 0, 0, 0⟩

/-- What the owning block does with the parameter bytes of the train commands (R180). -/
def takeTrainBytes (p : Port) (code : Nat) (bs : List Byte) (s : State) : Taken :=
  match code with
  | 0x10 =>
    match splitFields [1, 1, 1] bs with
    | [a, b, c] => takeRequestRun p (u8 a) (u8 b) (u8 c) s
    | _ => refuse .range s
  | 0x11 => takeRelease p (u8 bs) s
  | 0x12 => takeRunReport p (u8 (bs.take 1)) (reportFieldsOf (bs.drop 1)) s
  | 0x13 => takeReadTrain (u8 bs) s
  | 0x14 => takeClearTrip p (u8 bs) s
  | 0x15 => takeClearDerate p (u8 bs) s
  | _ => takeDiscardTop (u8 bs) s

/-- What the owning block does with the parameter bytes of the trading commands (R180). -/
def takeTradeBytes (code : Nat) (bs : List Byte) (s : State) : Taken :=
  match code with
  | 0x20 =>
    match splitFields [4, 4, 4, 4, 4] bs with
    | [a, b, c, d, e] => takeOffer (u32 a) (u32 b) (u32 c) (u32 d) (u32 e) s
    | _ => refuse .range s
  | 0x21 =>
    match splitFields [4, 1, 4] bs with
    | [a, b, c] => takeConfirm (u32 a) (u8 b) (u32 c) s
    | _ => refuse .range s
  | 0x22 =>
    match splitFields [4, 1] bs with
    | [a, b] => takeWithdrawOffer (u32 a) (u8 b) s
    | _ => refuse .range s
  | 0x23 =>
    match splitFields [4, 1] bs with
    | [a, b] => takeVoidSlot (u32 a) (u8 b) s
    | _ => refuse .range s
  | 0x24 =>
    match splitFields [4, 1, 4] bs with
    | [a, b, c] => takeActivateReserve (u32 a) (u8 b) (u32 c) s
    | _ => refuse .range s
  | 0x25 =>
    match splitFields [4, 1, 1] bs with
    | [a, b, c] => takeReadSlots (u32 a) (u8 b) (u8 c) s
    | _ => refuse .range s
  | 0x26 =>
    match splitFields [4, 4, 1, 1, 4, 1] bs with
    | [a, b, c, d, e, f] => takeScanSlots (u32 a) (u32 b) (u8 c) (u8 d) (u32 e) (u8 f) s
    | _ => refuse .range s
  | _ => takeFetchSettlement s

/-- What the owning block does with the parameter bytes of the reads and the event commands (R180). -/
def takeReadBytes (p : Port) (code : Nat) (bs : List Byte) (s : State) : Taken :=
  match code with
  | 0x30 => takeReadCavern p (u8 bs) s
  | 0x31 => takeReadStore (u8 bs) s
  | 0x32 => takeReadPosition s
  | 0x33 => takeReadArith s
  | 0x34 => takeClearArith s
  | 0x35 => takeReadTime s
  | 0x38 => takeFetchEvent p s
  | 0x39 => takeSetEventMask p (u8 bs) s
  | _ => takePortReset p s

/-- What the owning block of a command code does with its parameter bytes (R180). -/
def takeBytes (p : Port) (code : Nat) (bs : List Byte) (s : State) : Taken :=
  if code < 0x10 then takeConfigBytes p code bs s
  else if code < 0x20 then takeTrainBytes p code bs s
  else if code < 0x30 then takeTradeBytes code bs s
  else takeReadBytes p code bs s

/-! ## Bytes (R155, R174 to R177) -/

/-- The port holds the bytes collected so far as a partial command, of a streamed command phase or an ordinary one
(R155, R175). -/
def collect (p : Port) (streamed : Bool) (bytes : List Byte) (s : State) : State :=
  s.modPort p (fun r => { r with phase := .command, collected := bytes, streamed := streamed })

/-- The collected bytes of an ordinary command: taken when the last parameter byte has come (R175). -/
def takeCollected (p : Port) (code : Byte) (params : List Byte) (s : State) : State :=
  if catalogueLength code.toNat = some params.length then
    takeAt p code.toNat (takeBytes p code.toNat params) s
  else collect p false (code :: params) s

/-- The collected bytes of a streamed report: taken when the 21 bytes after the train number have come (R155). -/
def takeStreamCollected (p : Port) (train : Byte) (fields : List Byte) (s : State) : State :=
  if fields.length = 21 then
    placeTaken p Answer.oneByte (takeStreamed p train (reportFieldsOf fields) (uncollect p s))
  else collect p true (train :: fields) s

/-- The bytes collected so far, with the newest. -/
def takeSoFar (p : Port) (streamed : Bool) (bytes : List Byte) (s : State) : State :=
  match bytes with
  | [] => s
  | b :: rest => if streamed then takeStreamCollected p b rest s else takeCollected p b rest s

/-- The first byte of a command phase (R155, R175). -/
def firstByte (p : Port) (b : Byte) (s : State) : State :=
  if (s.port p).stream then
    if p.owns b.toNat then takeSoFar p true [b] s
    else if b = 0xE7 then setStream p false s
    else placeNow p (Answer.bare .unknown).oneByte s
  else if (catalogueLength b.toNat).isSome then takeSoFar p false [b] s
  else placeNow p (Answer.bare .unknown).oneByte s

/-- A whole byte in RESULT: 0x3F as the first of a frame is PORT RESET, and every later slot of the frame shifts out the
next unread byte, unless the result was placed during this frame (R174, R176, R177). -/
def resultByte (p : Port) (slot : Nat) (b : Byte) (s : State) : State :=
  if slot = 0 then (if b = 0x3F then takeAt p 0x3F (takePortReset p) s else s)
  else s.modPort p (fun r =>
    if r.deferred then r else { r with read := min r.result.length (r.read + 1) })

/-- A whole byte slot of a taken frame, by phase (R175). -/
def receiveByte (p : Port) (slot : Nat) (b : Byte) (s : State) : State :=
  let r := s.port p
  match r.phase with
  | .idle => firstByte p b s
  | .command => takeSoFar p r.streamed (r.collected ++ [b]) s
  | .executing => s
  | .result => resultByte p slot b s

/-- The frame has had more whole byte slots. -/
def addSlots (p : Port) (n : Nat) (s : State) : State :=
  s.modPort p (fun r =>
    match r.frame with
    | .taken k => { r with frame := .taken (k + n) }
    | _ => r)

/-- A whole byte slot of the port's frame; in a frame that is not taken no byte is collected (R174). -/
def clockByte (p : Port) (s : State) (b : Byte) : State :=
  match (s.port p).frame with
  | .taken n => receiveByte p n b (addSlots p 1 s)
  | _ => s

/-- Several byte slots. -/
def clockBytes (p : Port) (bytes : List Byte) (s : State) : State := bytes.foldl (clockByte p) s

/-- The byte that the next whole slot of the port's frame shifts out: in a taken frame the status byte first, and later
the next unread result byte while the phase is RESULT, unless the result was placed during this frame; 0x00 otherwise,
after the last result byte, and in a frame that is not taken (R174, R176). -/
def PortIface.shiftsOut (r : PortIface) : Byte :=
  match r.frame with
  | .taken 0 => r.status
  | .taken (_ + 1) => if r.phase = .result ∧ r.deferred = false then r.result.getD r.read 0 else 0
  | _ => 0

/-- The bytes that the port shifts out while it is clocked with bytes, one for each slot (R174, R176). -/
def shiftedOut (p : Port) : List Byte → State → List Byte
  | [], _ => []
  | b :: rest, s => (s.port p).shiftsOut :: shiftedOut p rest (clockByte p s b)

/-! ## Whole commands -/

/-- The port is ready to take a whole command of the ordinary form: a taken frame, IDLE, no stream mode. -/
def PortIface.ready (r : PortIface) : Bool := r.frame.isTaken && r.phase == .idle && !r.stream

/-- A command arrives with all its bytes in one frame. A ready port takes it; a port in any other phase reads its bytes
one at a time as its phase says, and in no taken frame nothing happens (R174, R175; log 9). -/
def command (p : Port) (code : Byte) (params : List Byte) (take : State → Taken) (s : State) : State :=
  live (fun s =>
    if (s.port p).ready then takeAt p code.toNat take (addSlots p (1 + params.length) s)
    else clockBytes p (code :: params) s) s

/-- The bytes of the report fields (R180). -/
def ReportFields.bytes (x : ReportFields) : List Byte :=
  putBE 4 x.power.toNat ++ putBE 4 x.energy.toNat ++ putBE 4 x.air.toNat ++ putBE 4 x.heat.toNat ++
    putBE 2 x.outlet.toNat ++ [x.validity, x.condition, x.mode]

/-- The port is ready to take a whole streamed report of a train (R155). -/
def PortIface.streams (r : PortIface) : Bool := r.frame.isTaken && r.phase == .idle && r.stream

/-- A streamed report arrives with all its bytes in one frame (R155; log 9). -/
def streamedCommand (p : Port) (train : Byte) (x : ReportFields) (s : State) : State :=
  live (fun s =>
    if (s.port p).streams && p.owns train.toNat then
      placeTaken p Answer.oneByte (takeStreamed p train x (uncollect p (addSlots p 22 s)))
    else clockBytes p (train :: x.bytes) s) s

/-! ## Frames (R174, R176) -/

/-- The port status byte as it stands (R174). -/
def statusByte (s : State) (p : Port) : Byte :=
  let r := s.port p
  BitVec.ofNat 8 (bit 7 (r.phase == .idle || r.phase == .command) + bit 6 (r.phase == .result) +
    bit 5 (r.phase == .executing) + bit 4 (s.attn p) + bit 3 r.stream + bit 2 (r.presence == .declared) +
    bit 1 (s.events p).missed + 1)

/-- Select falls: the port takes the frame unless it is ABSENT, and latches its status byte (R174). -/
def takeSelectFall (p : Port) (s : State) : State :=
  s.modPort p (fun r =>
    if r.presence = .absent then { r with frame := .refused, status := 0 }
    else { r with frame := .taken 0, status := statusByte s p, deferred := false })

/-- Select rises at the end of a frame: a partial command is discarded, and a result whose bytes have all been read
leaves the port IDLE (R175, R176). -/
def PortIface.risen (r : PortIface) : PortIface :=
  let open' := { r with frame := .closed }
  if r.frame.isTaken then
    match r.phase with
    | .command => { open' with phase := .idle, collected := [], streamed := false }
    | .result =>
      if r.result.length ≤ r.read then { open' with phase := .idle, result := [], read := 0, deferred := false }
      else open'
    | _ => open'
  else open'

/-- The rest of a frame: its whole byte slots, and the rise of select (R174 to R176; log 9). -/
def takeFrameEnd (p : Port) (slots : List Byte) (s : State) : State :=
  (clockBytes p slots s).modPort p PortIface.risen

end Sys2Proof.Machine
end

