-- ==== Sys2Proof/Machine/ExecClock.lean ====
section
/-! DEFINITION. The meanings of the steps of the Plant Clock and of the timed work of the blocks, one for each row. -/

namespace Sys2Proof.Machine

/-- A rising edge on TPULSE (R72, R73). -/
def execTpulseEdge (now : Nat) (s : State) : Host.Outcome State Fault Refusal :=
  .next (live (takeEdge now) s)

/-- The end of the 1.5 s watch (R73). -/
def execHoldoverEntry (now : Nat) (s : State) : Host.Outcome State Fault Refusal :=
  .next (live (takeHoldover now) s)

/-- A further second of holdover (R73). -/
def execHoldoverAdvance (now : Nat) (s : State) : Host.Outcome State Fault Refusal :=
  .next (live (takeHoldoverSecond now) s)

/-- The staging-lead event, where it is due (R76). -/
def execStagingLeadEvent (s : State) : Host.Outcome State Fault Refusal :=
  .next (live (takeStaging) s)

/-- The boundary event, where it is due (R77). -/
def execBoundary (s : State) : Host.Outcome State Fault Refusal :=
  .next (live (takeBoundary) s)

/-- An aging pass, where it is due (R61, R62). -/
def execAgingPass (s : State) : Host.Outcome State Fault Refusal :=
  .next (live (takeAging) s)

/-- The expiry of the offer of a slot, where it is due (R109). -/
def execOfferExpiry (interval : Nat) (s : State) : Host.Outcome State Fault Refusal :=
  .next (live (fun s => takeExpiry s interval) s)

/-- The LATE rung of a train, where the last advance found it reached (R150, R151). -/
def execLateRung (train : Train) (s : State) : Host.Outcome State Fault Refusal :=
  .next (live (takeLate train) s)

/-- The OVERDUE rung of a train, where the last advance found it reached (R150, R151). -/
def execOverdueRung (train : Train) (s : State) : Host.Outcome State Fault Refusal :=
  .next (live (takeOverdue train) s)

/-- The LOST rung of a train, where the last advance found it reached (R150, R152). -/
def execLostRung (train : Train) (s : State) : Host.Outcome State Fault Refusal :=
  .next (live (takeLost train) s)

end Sys2Proof.Machine
end

