-- ==== Sys2Proof/Machine/ExecConfig.lean ====
section
/-! DEFINITION. The meanings of the configuration commands, one for each row (codes 0x01 to 0x0E of R180). -/

namespace Sys2Proof.Machine

/-- READ IDENTITY (R185). -/
def execReadIdentity (p : Port) (s : State) : Host.Outcome State Fault Refusal :=
  .next (command p 0x01 ([]) (takeReadIdentity p) s)

/-- SET CAVERN (R27). -/
def execSetCavern (p : Port) (cavern : Byte) (gain : BitVec 24) (floor ceiling rate refTemp tol : BitVec 16) (s : State) : Host.Outcome State Fault Refusal :=
  .next (command p 0x02 ([cavern] ++ putBE 3 gain.toNat ++ putBE 2 floor.toNat ++ putBE 2 ceiling.toNat ++ putBE 2 rate.toNat ++
    putBE 2 refTemp.toNat ++ putBE 2 tol.toNat) (takeSetCavern cavern gain floor ceiling rate refTemp tol) s)

/-- SET STORE (R48). -/
def execSetStore (p : Port) (store : Byte) (capacity : BitVec 32) (tBase tSpent tUse tol : BitVec 16) (margin : Byte) (s : State) : Host.Outcome State Fault Refusal :=
  .next (command p 0x03 ([store] ++ putBE 4 capacity.toNat ++ putBE 2 tBase.toNat ++ putBE 2 tSpent.toNat ++ putBE 2 tUse.toNat ++
    putBE 2 tol.toNat ++ [margin]) (takeSetStore store capacity tBase tSpent tUse tol margin) s)

/-- SET TRAIN (R118). -/
def execSetTrain (p : Port) (train : Byte) (rated minLoad ramp band : BitVec 32) (maxFlow : BitVec 16) (s : State) : Host.Outcome State Fault Refusal :=
  .next (command p 0x04 ([train] ++ putBE 4 rated.toNat ++ putBE 4 minLoad.toNat ++ putBE 4 ramp.toNat ++ putBE 4 band.toNat ++
    putBE 2 maxFlow.toNat) (takeSetTrain p train rated minLoad ramp band maxFlow) s)

/-- SET FIGURES (R186). -/
def execSetFigures (p : Port) (yGen yChg qx qc : BitVec 16) (loss : BitVec 32) (dA dB : BitVec 16)
    (genAir genHeat chgRoom chgStore : BitVec 32) (s : State) : Host.Outcome State Fault Refusal :=
  .next (command p 0x05 (putBE 2 yGen.toNat ++ putBE 2 yChg.toNat ++ putBE 2 qx.toNat ++ putBE 2 qc.toNat ++ putBE 4 loss.toNat ++
    putBE 2 dA.toNat ++ putBE 2 dB.toNat ++ putBE 4 genAir.toNat ++ putBE 4 genHeat.toNat ++ putBE 4 chgRoom.toNat ++
    putBE 4 chgStore.toNat) (takeSetFigures yGen yChg qx qc loss dA dB genAir genHeat chgRoom chgStore) s)

/-- SET TIMING (R187). -/
def execSetTiming (p : Port) (stable stale : BitVec 16) (aging : BitVec 32) (lead hold : BitVec 16)
    (deadline settle : Byte) (s : State) : Host.Outcome State Fault Refusal :=
  .next (command p 0x06 (putBE 2 stable.toNat ++ putBE 2 stale.toNat ++ putBE 4 aging.toNat ++ putBE 2 lead.toNat ++
    putBE 2 hold.toNat ++ [deadline, settle]) (takeSetTiming stable stale aging lead hold deadline settle) s)

/-- SET ARITH MODE (R23). -/
def execSetArithMode (p : Port) (mode settings : Byte) (s : State) : Host.Outcome State Fault Refusal :=
  .next (command p 0x07 ([mode, settings]) (takeSetArithMode mode settings) s)

/-- SET LOCK ENABLE (R187). -/
def execSetLockEnable (p : Port) (setting : Byte) (s : State) : Host.Outcome State Fault Refusal :=
  .next (command p 0x08 ([setting]) (takeSetLockEnable setting) s)

/-- LOAD INVENTORY addressed to a cavern, object code 1 (R43). -/
def execLoadInventoryCavern (p : Port) (number method : Byte) (amount : BitVec 32) (temp : BitVec 16) (s : State) : Host.Outcome State Fault Refusal :=
  .next (command p 0x09 ([1, number, method] ++ putBE 4 amount.toNat ++ putBE 2 temp.toNat) (takeLoadCavern number method amount) s)

/-- LOAD INVENTORY addressed to a store, object code 2 (R68). -/
def execLoadInventoryStore (p : Port) (number method : Byte) (amount : BitVec 32) (temp : BitVec 16) (s : State) : Host.Outcome State Fault Refusal :=
  .next (command p 0x09 ([2, number, method] ++ putBE 4 amount.toNat ++ putBE 2 temp.toNat) (takeLoadStore number method amount temp) s)

/-- SET TIME (R74). -/
def execSetTime (p : Port) (seconds : BitVec 32) (now : Nat) (s : State) : Host.Outcome State Fault Refusal :=
  .next (command p 0x0A (putBE 4 seconds.toNat) (takeSetTime seconds now) s)

/-- DECLARE READY (R188). -/
def execDeclareReady (p : Port) (s : State) : Host.Outcome State Fault Refusal :=
  .next (command p 0x0B ([]) (takeDeclareReady p) s)

/-- WITHDRAW (R189). -/
def execWithdraw (p : Port) (s : State) : Host.Outcome State Fault Refusal :=
  .next (command p 0x0C ([]) (takeWithdraw p) s)

/-- PARK (R190). -/
def execPark (p : Port) (s : State) : Host.Outcome State Fault Refusal :=
  .next (command p 0x0D ([]) (takePark p) s)

/-- SET RESERVE BAND (R28). -/
def execSetReserveBand (p : Port) (cavern code side : Byte) (s : State) : Host.Outcome State Fault Refusal :=
  .next (command p 0x0E ([cavern, code, side]) (takeSetReserveBand cavern code side) s)

end Sys2Proof.Machine
end

