-- ==== Sys2Proof/Machine/ExecEngine.lean ====
section
/-! DEFINITION. The meanings of the steps of the Position Engine, one for each row. -/

namespace Sys2Proof.Machine

/-- WALK_START: the walk that the engine has taken up captures its base (R94, R96; log 7). -/
def execWalkStart (s : State) : Host.Outcome State Fault Refusal :=
  .next (live (startWalk) s)

/-- The OFFER walk in flight completes (R103, R105). -/
def execOfferWalkCompletion (s : State) : Host.Outcome State Fault Refusal :=
  .next (live (completeOffer) s)

/-- The CONFIRM walk in flight completes (R103, R107). -/
def execConfirmWalkCompletion (s : State) : Host.Outcome State Fault Refusal :=
  .next (live (completeConfirm) s)

/-- The recheck walk in flight completes (R113). -/
def execRecheckWalkCompletion (s : State) : Host.Outcome State Fault Refusal :=
  .next (live (completeFlownRecheck) s)

end Sys2Proof.Machine
end

