-- ==== Sys2Proof/Machine/ExecLine.lean ====
section
/-! DEFINITION. The meanings of the steps of the instrument line, one for each row. -/

namespace Sys2Proof.Machine

/-- The characters of an instrument frame arrive (R157, R158). -/
def execInstrumentFrame (chars : List Byte) (s : State) : Host.Outcome State Fault Refusal :=
  .next (live (chars.foldl takeChar) s)

/-- 1 ms of idle line: a short frame is discarded, and the next character starts a frame (R157). -/
def execLineIdleGap (s : State) : Host.Outcome State Fault Refusal :=
  .next (live (setLine (.collecting [])) s)

/-- A framing error: characters are ignored until the next idle gap (R157). -/
def execFramingError (s : State) : Host.Outcome State Fault Refusal :=
  .next (live (setLine .waitIdle) s)

/-- A source becomes STALE, where the last advance found it due, after the due sources before it (R162, R163). -/
def execSourceStale (src : Source) (s : State) : Host.Outcome State Fault Refusal :=
  .next (live (takeStaleTo src) s)

end Sys2Proof.Machine
end

