-- ==== Sys2Proof/Machine/ExecPort.lean ====
section
/-! DEFINITION. The meanings of port traffic and of the pins, one for each row. -/

namespace Sys2Proof.Machine

/-- A first byte that names no command: it is read as a whole byte of the port's frame (R155, R175). -/
def execUnknownCommandCode (p : Port) (code : Byte) (s : State) : Host.Outcome State Fault Refusal :=
  .next (live (clockBytes p [code]) s)

/-- The escape byte 0xE7, read as a whole byte of the port's frame (R155). -/
def execEscapeByte (p : Port) (s : State) : Host.Outcome State Fault Refusal :=
  .next (live (clockBytes p [0xE7]) s)

/-- The rise of select, after the whole byte slots that the frame has left (R174 to R176; log 9). -/
def execFrameEnd (p : Port) (slots : List Byte) (s : State) : Host.Outcome State Fault Refusal :=
  .next (live (takeFrameEnd p slots) s)

/-- The fall of select (R174). -/
def execSelectFall (p : Port) (s : State) : Host.Outcome State Fault Refusal :=
  .next (live (takeSelectFall p) s)

/-- PRESENT falls; a repeated level is no change (R178; log 32). -/
def execPresentFall (p : Port) (s : State) : Host.Outcome State Fault Refusal :=
  .next (if s.pins.present p then live (takePresentFall p) (setPresentPin p false s) else s)

/-- PRESENT rises; a repeated level is no change (R178; log 32). -/
def execPresentRise (p : Port) (s : State) : Host.Outcome State Fault Refusal :=
  .next (if s.pins.present p then s else live (takePresentRise p) (setPresentPin p true s))

/-- The RESET pin falls (R191). -/
def execResetFall (s : State) : Host.Outcome State Fault Refusal :=
  .next (if s.pins.resetLow then s else takeResetFall s)

/-- The RESET pin rises: every block takes its reset values (R191); at a RESET that is not low nothing rises (log 32). -/
def execResetRise (now : Nat) (s : State) : Host.Outcome State Fault Refusal :=
  .next (if s.pins.resetLow then State.afterReset s.pins now s.pending else s)

/-- RSV2..RSV0 or RSVTB change: the pins show new levels, and a sample that differs from the hardware band in force is a
pin change (R29). -/
def execPinChange (code : BitVec 3) (rsvtb : Bool) (s : State) : Host.Outcome State Fault Refusal :=
  .next (live (fun s =>
    if s.ciu.hwCode = code ∧ s.ciu.hwSide = sideOfPin rsvtb then s else takePinChange code (sideOfPin rsvtb) s)
    { s with pins := { s.pins with rsv := code, rsvtb := rsvtb } })

/-- The ENVLOCK pin shows a level (R31). -/
def execEnvlockChange (high : Bool) (s : State) : Host.Outcome State Fault Refusal :=
  .next { s with pins := { s.pins with envlock := high } }

end Sys2Proof.Machine
end

