-- ==== Sys2Proof/Machine/ExecRead.lean ====
section
/-! DEFINITION. The meanings of the reads and the event commands, one for each row (codes 0x30 to 0x3F of R180). -/

namespace Sys2Proof.Machine

/-- READ CAVERN (R44). -/
def execReadCavern (p : Port) (cavern : Byte) (s : State) : Host.Outcome State Fault Refusal :=
  .next (command p 0x30 ([cavern]) (takeReadCavern p cavern) s)

/-- READ STORE (R69). -/
def execReadStore (p : Port) (store : Byte) (s : State) : Host.Outcome State Fault Refusal :=
  .next (command p 0x31 ([store]) (takeReadStore store) s)

/-- READ POSITION (R116). -/
def execReadPosition (p : Port) (s : State) : Host.Outcome State Fault Refusal :=
  .next (command p 0x32 ([]) (takeReadPosition) s)

/-- READ ARITH (R24). -/
def execReadArith (p : Port) (s : State) : Host.Outcome State Fault Refusal :=
  .next (command p 0x33 ([]) (takeReadArith) s)

/-- CLEAR ARITH (R24). -/
def execClearArith (p : Port) (s : State) : Host.Outcome State Fault Refusal :=
  .next (command p 0x34 ([]) (takeClearArith) s)

/-- READ TIME (R75). -/
def execReadTime (p : Port) (s : State) : Host.Outcome State Fault Refusal :=
  .next (command p 0x35 ([]) (takeReadTime) s)

/-- FETCH EVENT (R170). -/
def execFetchEvent (p : Port) (s : State) : Host.Outcome State Fault Refusal :=
  .next (command p 0x38 ([]) (takeFetchEvent p) s)

/-- SET EVENT MASK (R167). -/
def execSetEventMask (p : Port) (setting : Byte) (s : State) : Host.Outcome State Fault Refusal :=
  .next (command p 0x39 ([setting]) (takeSetEventMask p setting) s)

/-- PORT RESET (R177). -/
def execPortReset (p : Port) (s : State) : Host.Outcome State Fault Refusal :=
  .next (command p 0x3F ([]) (takePortReset p) s)

end Sys2Proof.Machine
end

