-- ==== Sys2Proof/Machine/ExecTrade.lean ====
section
/-! DEFINITION. The meanings of the trading commands, one for each row (codes 0x20 to 0x27 of R180). -/

namespace Sys2Proof.Machine

/-- OFFER (R104). -/
def execOffer (p : Port) (interval power up down ref : BitVec 32) (s : State) : Host.Outcome State Fault Refusal :=
  .next (command p 0x20 (putBE 4 interval.toNat ++ putBE 4 power.toNat ++ putBE 4 up.toNat ++ putBE 4 down.toNat ++
    putBE 4 ref.toNat) (takeOffer interval power up down ref) s)

/-- CONFIRM (R106). -/
def execConfirm (p : Port) (interval : BitVec 32) (seq : Byte) (value : BitVec 32) (s : State) : Host.Outcome State Fault Refusal :=
  .next (command p 0x21 (putBE 4 interval.toNat ++ [seq] ++ putBE 4 value.toNat) (takeConfirm interval seq value) s)

/-- WITHDRAW OFFER (R108). -/
def execWithdrawOffer (p : Port) (interval : BitVec 32) (seq : Byte) (s : State) : Host.Outcome State Fault Refusal :=
  .next (command p 0x22 (putBE 4 interval.toNat ++ [seq]) (takeWithdrawOffer interval seq) s)

/-- VOID SLOT (R84). -/
def execVoidSlot (p : Port) (interval : BitVec 32) (seq : Byte) (s : State) : Host.Outcome State Fault Refusal :=
  .next (command p 0x23 (putBE 4 interval.toNat ++ [seq]) (takeVoidSlot interval seq) s)

/-- ACTIVATE RESERVE (R115). -/
def execActivateReserve (p : Port) (interval : BitVec 32) (seq : Byte) (amount : BitVec 32) (s : State) : Host.Outcome State Fault Refusal :=
  .next (command p 0x24 (putBE 4 interval.toNat ++ [seq] ++ putBE 4 amount.toNat) (takeActivateReserve interval seq amount) s)

/-- READ SLOTS (R90). -/
def execReadSlots (p : Port) (first : BitVec 32) (count skip : Byte) (s : State) : Host.Outcome State Fault Refusal :=
  .next (command p 0x25 (putBE 4 first.toNat ++ [count, skip]) (takeReadSlots first count skip) s)

/-- SCAN SLOTS (R91). -/
def execScanSlots (p : Port) (first last : BitVec 32) (figure comparison : Byte) (value : BitVec 32) (stride : Byte) (s : State) : Host.Outcome State Fault Refusal :=
  .next (command p 0x26 (putBE 4 first.toNat ++ putBE 4 last.toNat ++ [figure, comparison] ++ putBE 4 value.toNat ++ [stride]) (takeScanSlots first last figure comparison value stride) s)

/-- FETCH SETTLEMENT (R89). -/
def execFetchSettlement (p : Port) (s : State) : Host.Outcome State Fault Refusal :=
  .next (command p 0x27 ([]) (takeFetchSettlement) s)

end Sys2Proof.Machine
end

