-- ==== Sys2Proof/Machine/ExecTrain.lean ====
section
/-! DEFINITION. The meanings of the train commands, one for each row (codes 0x10 to 0x16 of R180), and of the streamed report. -/

namespace Sys2Proof.Machine

/-- REQUEST RUN (R120). -/
def execRequestRun (p : Port) (train cavernPref storePref : Byte) (s : State) : Host.Outcome State Fault Refusal :=
  .next (command p 0x10 ([train, cavernPref, storePref]) (takeRequestRun p train cavernPref storePref) s)

/-- RELEASE (R127). -/
def execRelease (p : Port) (train : Byte) (s : State) : Host.Outcome State Fault Refusal :=
  .next (command p 0x11 ([train]) (takeRelease p train) s)

/-- RUN REPORT (R144, R148). -/
def execRunReport (p : Port) (train : Byte) (power energy air heat : BitVec 32) (outlet : BitVec 16)
    (validity condition mode : Byte) (s : State) : Host.Outcome State Fault Refusal :=
  .next (command p 0x12 (train :: ReportFields.bytes ⟨power, energy, air, heat, outlet, validity, condition, mode⟩)
    (takeRunReport p train ⟨power, energy, air, heat, outlet, validity, condition, mode⟩) s)

/-- READ TRAIN (R140). -/
def execReadTrain (p : Port) (train : Byte) (s : State) : Host.Outcome State Fault Refusal :=
  .next (command p 0x13 ([train]) (takeReadTrain train) s)

/-- CLEAR TRIP (R129). -/
def execClearTrip (p : Port) (train : Byte) (s : State) : Host.Outcome State Fault Refusal :=
  .next (command p 0x14 ([train]) (takeClearTrip p train) s)

/-- CLEAR DERATE (R139). -/
def execClearDerate (p : Port) (train : Byte) (s : State) : Host.Outcome State Fault Refusal :=
  .next (command p 0x15 ([train]) (takeClearDerate p train) s)

/-- DISCARD TOP (R65). -/
def execDiscardTop (p : Port) (store : Byte) (s : State) : Host.Outcome State Fault Refusal :=
  .next (command p 0x16 ([store]) (takeDiscardTop store) s)

/-- A streamed report (R155). -/
def execStreamedReport (p : Port) (train : Byte) (power energy air heat : BitVec 32) (outlet : BitVec 16)
    (validity condition mode : Byte) (s : State) : Host.Outcome State Fault Refusal :=
  .next (streamedCommand p train ⟨power, energy, air, heat, outlet, validity, condition, mode⟩ s)

end Sys2Proof.Machine
end

