-- ==== Sys2Proof/Machine/Dispatch.lean ====
section
/-! DEFINITION. The dispatch: one arm for each row of the opcode table. -/

namespace Sys2Proof.Machine

/-- The effect of a command on everything but the queue. -/
def exec (i : Instr) (s : State) : Host.Outcome State Fault Refusal :=
  match i with
  | .readIdentity p => Sys2Proof.Machine.execReadIdentity p s
  | .setCavern p cavern gain floor ceiling rate refTemp tol => Sys2Proof.Machine.execSetCavern p cavern gain floor ceiling rate refTemp tol s
  | .setStore p store capacity tBase tSpent tUse tol margin => Sys2Proof.Machine.execSetStore p store capacity tBase tSpent tUse tol margin s
  | .setTrain p train rated minLoad ramp band maxFlow => Sys2Proof.Machine.execSetTrain p train rated minLoad ramp band maxFlow s
  | .setFigures p yGen yChg qx qc loss dA dB genAir genHeat chgRoom chgStore => Sys2Proof.Machine.execSetFigures p yGen yChg qx qc loss dA dB genAir genHeat chgRoom chgStore s
  | .setTiming p stable stale aging lead hold deadline settle => Sys2Proof.Machine.execSetTiming p stable stale aging lead hold deadline settle s
  | .setArithMode p mode settings => Sys2Proof.Machine.execSetArithMode p mode settings s
  | .setLockEnable p setting => Sys2Proof.Machine.execSetLockEnable p setting s
  | .loadInventoryCavern p number method amount temp => Sys2Proof.Machine.execLoadInventoryCavern p number method amount temp s
  | .loadInventoryStore p number method amount temp => Sys2Proof.Machine.execLoadInventoryStore p number method amount temp s
  | .setTime p seconds now => Sys2Proof.Machine.execSetTime p seconds now s
  | .declareReady p => Sys2Proof.Machine.execDeclareReady p s
  | .withdraw p => Sys2Proof.Machine.execWithdraw p s
  | .park p => Sys2Proof.Machine.execPark p s
  | .setReserveBand p cavern code side => Sys2Proof.Machine.execSetReserveBand p cavern code side s
  | .requestRun p train cavernPref storePref => Sys2Proof.Machine.execRequestRun p train cavernPref storePref s
  | .release p train => Sys2Proof.Machine.execRelease p train s
  | .runReport p train power energy air heat outlet validity condition mode => Sys2Proof.Machine.execRunReport p train power energy air heat outlet validity condition mode s
  | .readTrain p train => Sys2Proof.Machine.execReadTrain p train s
  | .clearTrip p train => Sys2Proof.Machine.execClearTrip p train s
  | .clearDerate p train => Sys2Proof.Machine.execClearDerate p train s
  | .discardTop p store => Sys2Proof.Machine.execDiscardTop p store s
  | .offer p interval power up down ref => Sys2Proof.Machine.execOffer p interval power up down ref s
  | .confirm p interval seq value => Sys2Proof.Machine.execConfirm p interval seq value s
  | .withdrawOffer p interval seq => Sys2Proof.Machine.execWithdrawOffer p interval seq s
  | .voidSlot p interval seq => Sys2Proof.Machine.execVoidSlot p interval seq s
  | .activateReserve p interval seq amount => Sys2Proof.Machine.execActivateReserve p interval seq amount s
  | .readSlots p first count skip => Sys2Proof.Machine.execReadSlots p first count skip s
  | .scanSlots p first last figure comparison value stride => Sys2Proof.Machine.execScanSlots p first last figure comparison value stride s
  | .fetchSettlement p => Sys2Proof.Machine.execFetchSettlement p s
  | .readCavern p cavern => Sys2Proof.Machine.execReadCavern p cavern s
  | .readStore p store => Sys2Proof.Machine.execReadStore p store s
  | .readPosition p => Sys2Proof.Machine.execReadPosition p s
  | .readArith p => Sys2Proof.Machine.execReadArith p s
  | .clearArith p => Sys2Proof.Machine.execClearArith p s
  | .readTime p => Sys2Proof.Machine.execReadTime p s
  | .fetchEvent p => Sys2Proof.Machine.execFetchEvent p s
  | .setEventMask p setting => Sys2Proof.Machine.execSetEventMask p setting s
  | .portReset p => Sys2Proof.Machine.execPortReset p s
  | .unknownCommandCode p code => Sys2Proof.Machine.execUnknownCommandCode p code s
  | .streamedReport p train power energy air heat outlet validity condition mode => Sys2Proof.Machine.execStreamedReport p train power energy air heat outlet validity condition mode s
  | .escapeByte p => Sys2Proof.Machine.execEscapeByte p s
  | .frameEnd p slots => Sys2Proof.Machine.execFrameEnd p slots s
  | .presentFall p => Sys2Proof.Machine.execPresentFall p s
  | .presentRise p => Sys2Proof.Machine.execPresentRise p s
  | .resetFall => Sys2Proof.Machine.execResetFall s
  | .resetRise now => Sys2Proof.Machine.execResetRise now s
  | .pinChange code rsvtb => Sys2Proof.Machine.execPinChange code rsvtb s
  | .tpulseEdge now => Sys2Proof.Machine.execTpulseEdge now s
  | .holdoverEntry now => Sys2Proof.Machine.execHoldoverEntry now s
  | .holdoverAdvance now => Sys2Proof.Machine.execHoldoverAdvance now s
  | .stagingLeadEvent => Sys2Proof.Machine.execStagingLeadEvent s
  | .boundary => Sys2Proof.Machine.execBoundary s
  | .instrumentFrame chars => Sys2Proof.Machine.execInstrumentFrame chars s
  | .lineIdleGap => Sys2Proof.Machine.execLineIdleGap s
  | .sourceStale src => Sys2Proof.Machine.execSourceStale src s
  | .agingPass => Sys2Proof.Machine.execAgingPass s
  | .offerExpiry interval => Sys2Proof.Machine.execOfferExpiry interval s
  | .lateRung train => Sys2Proof.Machine.execLateRung train s
  | .overdueRung train => Sys2Proof.Machine.execOverdueRung train s
  | .lostRung train => Sys2Proof.Machine.execLostRung train s
  | .walkStart => Sys2Proof.Machine.execWalkStart s
  | .offerWalkCompletion => Sys2Proof.Machine.execOfferWalkCompletion s
  | .confirmWalkCompletion => Sys2Proof.Machine.execConfirmWalkCompletion s
  | .recheckWalkCompletion => Sys2Proof.Machine.execRecheckWalkCompletion s
  | .envlockChange high => Sys2Proof.Machine.execEnvlockChange high s
  | .selectFall p => Sys2Proof.Machine.execSelectFall p s
  | .framingError => Sys2Proof.Machine.execFramingError s

end Sys2Proof.Machine
end

