-- ==== Sys2Proof/Machine/Encode.lean ====
section
/-! DEFINITION. The bytes that a command row stands for on the wire: port, code and parameter bytes, written from the
catalogue of R180. -/

namespace Sys2Proof.Machine

/-- A four-byte operand (R179). -/
def w4 (x : BitVec 32) : List Byte :=
  [x.extractLsb' 24 8, x.extractLsb' 16 8, x.extractLsb' 8 8, x.extractLsb' 0 8]
/-- A three-byte operand (R179). -/
def w3 (x : BitVec 24) : List Byte := [x.extractLsb' 16 8, x.extractLsb' 8 8, x.extractLsb' 0 8]
/-- A two-byte operand (R179). -/
def w2 (x : BitVec 16) : List Byte := [x.extractLsb' 8 8, x.extractLsb' 0 8]

/-- The port, the code byte and the parameter bytes of a command row; none for a row that is no ordinary command
(R180). -/
def wire : Instr → Option (Port × Byte × List Byte)
  | .readIdentity p => some (p, 0x01, [])
  | .setCavern p cavern gain floor ceiling rate refTemp tol =>
    some (p, 0x02, cavern :: (w3 gain ++ w2 floor ++ w2 ceiling ++ w2 rate ++ w2 refTemp ++ w2 tol))
  | .setStore p store capacity tBase tSpent tUse tol margin =>
    some (p, 0x03, store :: (w4 capacity ++ w2 tBase ++ w2 tSpent ++ w2 tUse ++ w2 tol ++ [margin]))
  | .setTrain p train rated minLoad ramp band maxFlow =>
    some (p, 0x04, train :: (w4 rated ++ w4 minLoad ++ w4 ramp ++ w4 band ++ w2 maxFlow))
  | .setFigures p yGen yChg qx qc loss dA dB genAir genHeat chgRoom chgStore =>
    some (p, 0x05, w2 yGen ++ w2 yChg ++ w2 qx ++ w2 qc ++ w4 loss ++ w2 dA ++ w2 dB ++ w4 genAir ++ w4 genHeat ++
      w4 chgRoom ++ w4 chgStore)
  | .setTiming p stable stale aging lead hold deadline settle =>
    some (p, 0x06, w2 stable ++ w2 stale ++ w4 aging ++ w2 lead ++ w2 hold ++ [deadline, settle])
  | .setArithMode p mode settings => some (p, 0x07, [mode, settings])
  | .setLockEnable p setting => some (p, 0x08, [setting])
  | .loadInventoryCavern p number method amount temp => some (p, 0x09, 1 :: number :: method :: (w4 amount ++ w2 temp))
  | .loadInventoryStore p number method amount temp => some (p, 0x09, 2 :: number :: method :: (w4 amount ++ w2 temp))
  | .setTime p seconds _ => some (p, 0x0A, w4 seconds)
  | .declareReady p => some (p, 0x0B, [])
  | .withdraw p => some (p, 0x0C, [])
  | .park p => some (p, 0x0D, [])
  | .setReserveBand p cavern code side => some (p, 0x0E, [cavern, code, side])
  | .requestRun p train cavernPref storePref => some (p, 0x10, [train, cavernPref, storePref])
  | .release p train => some (p, 0x11, [train])
  | .runReport p train power energy air heat outlet validity condition mode =>
    some (p, 0x12, train :: (w4 power ++ w4 energy ++ w4 air ++ w4 heat ++ w2 outlet ++ [validity, condition, mode]))
  | .readTrain p train => some (p, 0x13, [train])
  | .clearTrip p train => some (p, 0x14, [train])
  | .clearDerate p train => some (p, 0x15, [train])
  | .discardTop p store => some (p, 0x16, [store])
  | .offer p interval power up down ref =>
    some (p, 0x20, w4 interval ++ w4 power ++ w4 up ++ w4 down ++ w4 ref)
  | .confirm p interval seq value => some (p, 0x21, w4 interval ++ [seq] ++ w4 value)
  | .withdrawOffer p interval seq => some (p, 0x22, w4 interval ++ [seq])
  | .voidSlot p interval seq => some (p, 0x23, w4 interval ++ [seq])
  | .activateReserve p interval seq amount => some (p, 0x24, w4 interval ++ [seq] ++ w4 amount)
  | .readSlots p first count skip => some (p, 0x25, w4 first ++ [count, skip])
  | .scanSlots p first last figure comparison value stride =>
    some (p, 0x26, w4 first ++ w4 last ++ [figure, comparison] ++ w4 value ++ [stride])
  | .fetchSettlement p => some (p, 0x27, [])
  | .readCavern p cavern => some (p, 0x30, [cavern])
  | .readStore p store => some (p, 0x31, [store])
  | .readPosition p => some (p, 0x32, [])
  | .readArith p => some (p, 0x33, [])
  | .clearArith p => some (p, 0x34, [])
  | .readTime p => some (p, 0x35, [])
  | .fetchEvent p => some (p, 0x38, [])
  | .setEventMask p setting => some (p, 0x39, [setting])
  | .portReset p => some (p, 0x3F, [])
  | .unknownCommandCode _ _ | .streamedReport _ _ _ _ _ _ _ _ _ _ | .escapeByte _ | .frameEnd _ _
  | .presentFall _ | .presentRise _ | .resetFall | .resetRise _ | .pinChange _ _ | .tpulseEdge _ | .holdoverEntry _
  | .holdoverAdvance _ | .stagingLeadEvent | .boundary | .instrumentFrame _ | .lineIdleGap | .sourceStale _
  | .agingPass | .offerExpiry _ | .lateRung _ | .overdueRung _ | .lostRung _ | .walkStart | .offerWalkCompletion
  | .confirmWalkCompletion | .recheckWalkCompletion | .envlockChange _ | .selectFall _ | .framingError => none

/-- The moment a command carries is not later than the latest one shown. -/
def noLaterThan (m : Nat) : Instr → Bool
  | .setTime _ _ now => decide (now ≤ m)
  | _ => true

end Sys2Proof.Machine
end

