-- ==== Sys2Proof/Safety.lean ====
section
/-! DEFINITION. What the statements speak of: a port that is ready for a command, an answer that stands at a port, a step
that changes nothing but a port, and the bounds and laws that every step keeps. -/

namespace Sys2Proof.Machine

/-! ## Ports -/

/-- RESET is released, and the port is in a taken frame, IDLE, with the stream-mode flag clear (R174, R175). -/
def Ready (p : Port) (s : State) : Prop := s.pins.resetLow = false ∧ (s.port p).ready = true

/-- RESET is released, and the port is in a taken frame, IDLE, with the stream-mode flag set (R155). -/
def Streaming (p : Port) (s : State) : Prop := s.pins.resetLow = false ∧ (s.port p).streams = true

/-- An answer stands at a port, none of its bytes read (R176, R181). -/
def Answers (p : Port) (a : Answer) (t : State) : Prop :=
  (t.port p).phase = .result ∧ (t.port p).result = a.full ∧ (t.port p).read = 0

/-- Nothing of the part but the interface of one port differs. -/
def OnlyPort (p : Port) (s t : State) : Prop :=
  t = { s with spi := t.spi } ∧ ∀ q, q ≠ p → t.port q = s.port q

/-- The command is taken: it answers a next state in which the answer stands and only the port differs. -/
def AnswersOnly (c : Instr) (p : Port) (a : Answer) (s : State) : Prop :=
  ∃ t, exec c s = .next t ∧ Answers p a t ∧ OnlyPort p s t

/-! ## Frames: what the hand-offs of one event may change beside the figures a statement names -/

/-- Every other port's interface is as it was. -/
def OtherPorts (p : Port) (s t : State) : Prop := ∀ q, q ≠ p → t.port q = s.port q

/-- No queued record goes and no mask changes: records only join at the end (R168). -/
def EventsOnlyJoin (s t : State) : Prop :=
  ∀ p, (s.events p).queue <+: (t.events p).queue ∧ (t.events p).mask = (s.events p).mask

/-- A slot differs in its SHORT marks only, which a split writes (R134). -/
def SlotsKept (s t : State) : Prop :=
  ∀ n, t.slot n = { s.slot n with short := (t.slot n).short, shortSeen := (t.slot n).shortSeen }

/-- The book keeps everything but SHORT marks (R134). -/
def BookKept (s t : State) : Prop := t.sbk = { s.sbk with slots := t.sbk.slots } ∧ SlotsKept s t

/-- A cavern differs in its attached set only, which a grant extends (R122). -/
def CavernKept (c : Cavern) (s t : State) : Prop :=
  t.cavern c = { s.cavern c with attached := (t.cavern c).attached }

/-- A store differs in its attached trains only, which a grant extends (R122). -/
def StoreKept (st : Store) (s t : State) : Prop :=
  t.store st = { s.store st with charging := (t.store st).charging, drawing := (t.store st).drawing }

/-- A train keeps what stops, HELD marks, splits, staged splits and grants do not write: its configuration,
capability, cause, last report and interval totals (R122, R130, R131, R135, R136). -/
def TrainKept (tr : Train) (s t : State) : Prop :=
  let x := t.train tr
  x = { s.train tr with
    permit := x.permit, prefs := x.prefs, attachment := x.attachment, order := x.order, nextOrder := x.nextOrder
    stagedSeq := x.stagedSeq, settlePending := x.settlePending, settleCount := x.settleCount, timing := x.timing
    reference := x.reference, silence := x.silence, rungs := x.rungs }

/-- The Position Engine keeps its waiting walk, its walk in flight and the last limit code: only the generation number,
the recheck flag and the hold states may differ, and a free engine may have started a recheck (R94, R95, R114). -/
def EngineKept (s t : State) : Prop :=
  t.pen = { s.pen with
    generation := t.pen.generation, recheckFlag := t.pen.recheckFlag, genHold := t.pen.genHold
    chgHold := t.pen.chgHold, flight := t.pen.flight } ∧
    (t.pen.flight = s.pen.flight ∨ (s.pen.flight = none ∧ t.pen.flight = some ⟨none, none, false⟩))

/-- A recheck request was taken: behind a walk in flight it waits, and a free engine has started it (R94). -/
def RecheckPosted (s t : State) : Prop :=
  if s.pen.flight.isSome then t.pen.recheckFlag = true else t.pen.flight = some ⟨none, none, false⟩

/-- The arithmetic settings are as they were: only a capture may differ (R22). -/
def ArithKept (s t : State) : Prop :=
  t.arith = { s.arith with sticky := t.arith.sticky, capture := t.arith.capture }

/-- What an event of the cavern or store unit may change beside the cavern and store records (R40, R45, R70). -/
def PlantFrame (p : Port) (s t : State) : Prop :=
  OtherPorts p s t ∧ EventsOnlyJoin s t ∧ (∀ tr, TrainKept tr s t) ∧ EngineKept s t ∧ ArithKept s t ∧
    t = { s with spi := t.spi, evr := t.evr, ciu := t.ciu, hsu := t.hsu, sbk := t.sbk, dsu := t.dsu
                 arith := t.arith, pen := t.pen }

/-- A record that a step offers a port first of all: where the port's queue has room, and no mask drops it, it stands
after the records that were there (R165, R167, R168). -/
def Told (p : Port) (kind : EventKind) (cls : EventClass) (subject : Subject) (w1 w2 : Int) (s t : State) : Prop :=
  (s.events p).queue.length < 16 → (cls = .info → (s.events p).mask = false) →
    (s.events p).queue ++ [⟨kind, cls, subject, s.pck.seconds, dataWord w1, dataWord w2⟩] <+: (t.events p).queue

/-! ## The hold monitor (R114) -/

/-- A threshold reason stands after an evaluation when its figure is below the threshold, or when it stood and the figure
is below twice the threshold (R114). -/
def ReasonStands (figure threshold : Nat) (was is : Bool) : Prop :=
  is = (decide (figure < threshold) || (was && decide (figure < 2 * threshold)))

/-- The reason sets of both directions are those of an evaluation on the figures as they stand afterwards, over the sets
that stood before (R114). -/
def HoldEvaluated (s t : State) : Prop :=
  let f := t.svc.figures
  let g := t.pen.genHold
  let c := t.pen.chgHold
  ReasonStands t.sumAir f.genAir s.pen.genHold.air g.air ∧
    ReasonStands t.sumReachable f.genHeat s.pen.genHold.heat g.heat ∧
    g.port = (t.presence .e != .declared) ∧ g.room = false ∧ g.storeRoom = false ∧ g.full = false ∧
    ReasonStands t.sumRoom f.chgRoom s.pen.chgHold.room c.room ∧
    ReasonStands t.sumFree f.chgStore s.pen.chgHold.storeRoom c.storeRoom ∧
    c.full = ((t.store .hsA).full && (t.store .hsB).full) ∧ c.port = (t.presence .c != .declared) ∧
    c.air = false ∧ c.heat = false

/-- The record of a direction that becomes HELD, or FREE, at plant seconds (R114, R179). -/
def holdRecords (direction : Nat) (before after : HoldReasons) (seconds : Nat) : List EventRecord :=
  if before.held = after.held then []
  else if after.held then [⟨.hold, .notice, .nothing, seconds, dataWord direction, dataWord after.bits⟩]
  else [⟨.resume, .notice, .nothing, seconds, dataWord direction, dataWord 0⟩]

/-- HOLD and RESUME of one evaluation go to the T-port and nowhere else, GEN before CHG (R114; log 48). -/
def HoldRecorded (s t : State) : Prop :=
  let rs := holdRecords 1 s.pen.genHold t.pen.genHold s.pck.seconds ++
    holdRecords 2 s.pen.chgHold t.pen.chgHold s.pck.seconds
  (∀ q, q ≠ .t → t.events q = s.events q) ∧ ((s.events .t).queue.length + rs.length ≤ 16 →
    t.events .t = { s.events .t with queue := (s.events .t).queue ++ rs })

/-! ## Resources (R121, R122) -/

/-- A cavern meets the checks of the train's kind and the preference (R121). -/
def CavernFits (s : State) (tr : Train) (pref : Option Cavern) (c : Cavern) : Prop :=
  let r := s.cavern c
  (pref = none ∨ pref = some c) ∧ r.configured = true ∧ r.limits ≠ none ∧ r.rateHold = false ∧
    if tr.expands then r.flow ≠ .filling ∧ r.inReserve = false ∧ r.breachLow = false
    else r.flow ≠ .withdrawing ∧ r.atCeiling = false ∧ r.breachHigh = false

/-- A store meets the checks of the train's kind and the preference (R121). -/
def StoreFits (s : State) (tr : Train) (pref : Option Store) (st : Store) : Prop :=
  let r := s.store st
  (pref = none ∨ pref = some st) ∧ r.configured = true ∧
    if tr.expands then r.flow ≠ .charging ∧ r.drawing.length < 2 ∧ 0 < r.reachable ∧ r.topUsable = true
    else r.flow ≠ .drawing ∧ r.charging = none ∧ r.full = false

/-- A cavern comes before another one: it alone is in the flow state that the train will give it, or both or neither are
and it has the larger usable air or room, or these too are equal and it is CV1 (R122). -/
def CavernBefore (s : State) (tr : Train) (c d : Cavern) : Prop :=
  let flows (e : Cavern) : Bool := (s.cavern e).flow == (if tr.expands then .withdrawing else .filling)
  let figure (e : Cavern) : Nat := if tr.expands then (s.cavern e).usableAir else (s.cavern e).room
  (flows c = true ∧ flows d = false) ∨
    (flows c = flows d ∧ (figure d < figure c ∨ (figure c = figure d ∧ c = .cv1)))

/-- A store comes before another one: it has the larger held reachable heat or free capacity, or these are equal and it
is HS-A (R122). -/
def StoreBefore (s : State) (tr : Train) (st x : Store) : Prop :=
  let figure (y : Store) : Nat := if tr.expands then (s.store y).reachable else (s.store y).free
  figure x < figure st ∨ (figure st = figure x ∧ st = .hsA)

/-! ## The permit request queue (R123) -/

/-- The permit request queue holds exactly the QUEUED trains, once each (R123). -/
def QueueMatchesPermits (s : State) : Prop :=
  s.dsu.queue.Nodup ∧ ∀ t, t ∈ s.dsu.queue ↔ (s.train t).permit = .queued

/-! ## A run report (R148) -/

/-- What the heat of a charging train's report leaves of its store: deposited in full, written off where it is not
deposited, FULL at a capped deposit or no free capacity, and the stack with its OPEN parcel, opened over a merge on a
stack of 24 (R50 to R53). -/
def StoreCharged (st : Store) (tr : Train) (heat : Nat) (outlet : Option Nat) (s u : State) : Prop :=
  let r := s.store st
  let x := u.store st
  let cold := outlet.any (fun o => o ≤ r.tBase)
  let taken := min heat r.free
  let lost := if cold then heat else heat - taken
  let base := if r.hasOpen then r.stack
    else ⟨0, some r.tBase, true, some tr, s.sbk.current⟩ ::
      (if 24 ≤ r.stack.length then mergeBottom s.arith.mode r.tBase r.stack else r.stack)
  x = { r with
    stack := if cold || (r.free == 0 && (!r.hasOpen || outlet.isSome)) then r.stack
      else depositTop s.arith.mode r.tBase taken outlet base
    deposited := (saturateCounter (r.deposited + heat)).val
    writtenOff := if lost = 0 then r.writtenOff else (saturateCounter (r.writtenOff + lost)).val
    full := r.full || (!cold && decide (r.free ≤ heat))
    reachable := x.reachable, charging := x.charging, drawing := x.drawing }

/-- What the air of a drawing train's report leaves of its store: an abandoned draw makes it ESTIMATED and nothing else;
otherwise the heat taken leaves the stack, and a short draw adds its deficit and enters SHORT (R57, R58, R60). -/
def StoreDrawn (st : Store) (air : Nat) (s u : State) : Prop :=
  let r := s.store st
  let x := u.store st
  let d := drawStack r.tUse (heatForMass (roundingOf s.arith.mode .requirement) air s.svc.figures.qx).val r.stack
  if d.unknown = true ∧ s.arith.trap = true then
    x = { r with quality := .estimated, charging := x.charging, drawing := x.drawing }
  else
    x = { r with
      stack := d.stack, drawn := (saturateCounter (r.drawn + d.taken)).val, short := r.short || d.owed != 0
      shortfall := if d.owed = 0 then r.shortfall else min 4294967295 (r.shortfall + d.owed)
      reachable := x.reachable, full := x.full, charging := x.charging, drawing := x.drawing }

/-- What the ACTIVE current slot, or the unscheduled delivery where no slot is ACTIVE, takes of a signed energy, with
the integration closed at the plant seconds (R85, R86). -/
def EnergyTaken (signed : Int) (s u : State) : Prop :=
  let x := s.slot s.sbk.current
  (∀ v, s.sbk.slots.length = 96 → x.state = .active → x.activity = some v →
    (u.slot s.sbk.current).activity = some ⟨v.reserve,
      (saturateEnergy (v.energy + reserveEnergy v.reserve (s.pck.seconds - v.mark))).val,
      (saturateEnergy (v.delivered + signed)).val, s.pck.seconds⟩ ∧ u.sbk.unscheduled = s.sbk.unscheduled) ∧
    (x.state ≠ .active → u.sbk.unscheduled = (saturateEnergy (s.sbk.unscheduled + signed)).val)

/-- The state that steps 2 to 5 of an accepted report leave to the Dispatch Unit: report timing restarted, the air
booked in the cavern, the heat or the draw in the store, and the energy in the book (R148). -/
def ReportBooked (tr : Train) (a : Attachment) (y : Report) (s u : State) : Prop :=
  let c := s.cavern a.cavern
  let x := u.cavern a.cavern
  QueueMatchesPermits u ∧ TrainKept tr s u ∧ (u.train tr).permit.attached = true ∧
    (u.train tr).attachment = (s.train tr).attachment ∧ (u.train tr).silence = 0 ∧ (u.train tr).timing = .onTime ∧
    (u.train tr).reference = some s.pck.seconds ∧
    x.mass = (if y.air = 0 then c.mass
      else min 100000000 (if tr.expands then c.mass - y.air else c.mass + y.air)) ∧
    x.spent = (if y.air = 0 then c.spent else min 2147483647 (c.spent + y.air)) ∧
    x.loaded = c.loaded ∧ x.reconciled = c.reconciled ∧ x.limits = c.limits ∧ x.budget = c.budget ∧
    (∀ d, d ≠ a.cavern → CavernKept d s u) ∧ (∀ st, st ≠ a.store → StoreKept st s u) ∧
    (if tr.expands then (if y.air = 0 then StoreKept a.store s u else StoreDrawn a.store y.air s u)
      else (if y.heat = 0 then StoreKept a.store s u else StoreCharged a.store tr y.heat y.outlet s u)) ∧
    EnergyTaken (if tr.expands then (y.energy : Int) else -(y.energy : Int)) s u ∧ u.svc = s.svc

/-- What the Dispatch Unit does with a report of an attached train, step 6: totals and last report; a trip on NOT_READY
or TRIPPED; the end of a STOPPING permit without flow, RUNNING at the first flow, and the settle check with its derate
on a READY report (R126, R128, R138). -/
def ReportDispatched (tr : Train) (y : Report) (u t : State) : Prop :=
  let r := u.train tr
  let x := t.train tr
  let flows := 0 < y.power ∨ 0 < y.air
  let away := (min r.order.target y.power) + r.band < max r.order.target y.power
  x.totalAir = min 4294967295 (r.totalAir + y.air) ∧ x.totalHeat = min 4294967295 (r.totalHeat + y.heat) ∧
    x.totalEnergy = min 4294967295 (r.totalEnergy + y.energy) ∧ x.last = some ⟨y.power, y.condition⟩ ∧
    (∀ cause, (y.condition = .notReady ∧ cause = TripCause.notReady) ∨ (y.condition = .tripped ∧ cause = .tripped) →
      x.permit = .tripped ∧ x.cause = some cause ∧ x.attachment = none ∧ x.order.target = 0 ∧ x.nextOrder = none ∧
      (u.svc.part ≠ .config → RecheckPosted u t) ∧
      ((∀ st, (u.store st).short = false) →
        Told tr.owner .trainTripped .alert (.train tr) cause.code r.order.target u t)) ∧
    (y.condition = .ready → r.permit = .stopping → ¬flows →
      x.permit = .off ∧ x.attachment = none ∧ x.order.target = 0 ∧ x.nextOrder = none ∧
      ((∀ st, (u.store st).short = false) →
        Told tr.owner .permitEnded .info (.train tr) x.totalAir x.totalEnergy u t)) ∧
    (y.condition = .ready → (r.permit ≠ .stopping ∨ flows) →
      x.permit = (if r.permit = .granted ∧ flows then .running else r.permit) ∧ x.attachment = r.attachment ∧
      (r.settlePending = false → x.settlePending = false ∧ x.cap = r.cap ∧ x.order = r.order) ∧
      (r.settlePending = true → ¬away → x.settlePending = false ∧ x.cap = r.cap ∧ x.order = r.order ∧
        Told tr.owner .orderSettled .info (.train tr) r.order.target y.power u t) ∧
      (r.settlePending = true → away → r.settleCount + 1 < u.svc.times.settle →
        x.settlePending = true ∧ x.settleCount = r.settleCount + 1 ∧ x.cap = r.cap ∧ x.order = r.order) ∧
      (r.settlePending = true → away → u.svc.times.settle ≤ r.settleCount + 1 →
        Told tr.owner .equipmentCheck .notice (.train tr) r.order.target y.power u t ∧
        (y.power < r.order.target → x.cap = y.power ∧ x.derated = true ∧
          t.pen.generation = u.pen.generation + 1 ∧ (u.svc.part ≠ .config → RecheckPosted u t)) ∧
        (r.order.target ≤ y.power → x.settlePending = false ∧ x.cap = r.cap ∧ x.order = r.order)))

/-! ## Instruments (08, source table) -/

/-- The source of a cavern's pressure. -/
def pressureSource : Cavern → Source
  | .cv1 => .s1 | .cv2 => .s3
/-- The source of a cavern's temperature. -/
def temperatureSource : Cavern → Source
  | .cv1 => .s2 | .cv2 => .s4
/-- The source of a store's top temperature. -/
def topSource : Store → Source
  | .hsA => .s5 | .hsB => .s6

/-- The change to STALE of one source takes a source with it: itself, or one before it in source order, found due
(R162, R163). -/
def goesStale (s : State) (src other : Source) : Bool :=
  (s.ilr.get src).due && (s.ilr.get other).due && decide (sourceNumber other ≤ sourceNumber src)

/-- The record of a source after such a change. -/
def sourceAfter (s : State) (src other : Source) : SourceRec :=
  if goesStale s src other then (s.ilr.get other).gone else s.ilr.get other

/-- A cavern that a change to STALE, or a frame of another object's source, leaves aside: only the validity of a copy
whose source goes STALE, and the attached set, may differ (R41, R162). -/
def CavernAside (src : Source) (c : Cavern) (s t : State) : Prop :=
  t.cavern c = { s.cavern c with
    attached := (t.cavern c).attached
    pressureV := if goesStale s src (pressureSource c) then .stale else (s.cavern c).pressureV
    tempV := if goesStale s src (temperatureSource c) then .stale else (s.cavern c).tempV }

/-- A store that such a change or frame leaves aside (R63, R162). -/
def StoreAside (src : Source) (st : Store) (s t : State) : Prop :=
  t.store st = { s.store st with
    charging := (t.store st).charging, drawing := (t.store st).drawing
    topV := if goesStale s src (topSource st) then .stale else (s.store st).topV }

/-- The INSTRUMENT STALE records of a change to STALE of one source, in source order (R162, R163). -/
def staleRecords (s : State) (src : Source) : List EventRecord :=
  (allSources.filter (goesStale s src)).map (fun x =>
    ⟨.instrumentStale, .notice, sourceSubject x, s.pck.seconds, dataWord (sourceNumber x),
      dataWord ((s.ilr.get x).value.getD 0)⟩)

/-- What a pressure frame leaves of its cavern's record and latches: the copy, the breach conditions with their
latches, and the reconciliation (R39, R41, R42, R172). -/
def PressureTaken (c : Cavern) (p : Nat) (valid : Validity) (s t : State) : Prop :=
  let r := s.cavern c
  let x := t.cavern c
  let checks := valid = .good ∧ r.configured = true ∧ r.quality ≠ .unknown ∧ r.flow = .idle ∧
    s.svc.times.stable ≤ r.stableTimer ∧ r.tempV = .good
  x = { r with
    pressure := some p, pressureV := valid, mass := x.mass, reconciled := x.reconciled, quality := x.quality
    estimate := x.estimate, keptEstimate := x.keptEstimate, attached := x.attached, inReserve := x.inReserve
    atCeiling := x.atCeiling, breachLow := x.breachLow, breachHigh := x.breachHigh } ∧
    (r.configured = true → (valid = .good ∨ valid = .suspect) → x.breachLow = decide (p < r.floor) ∧
      x.breachHigh = decide (r.floor ≤ p ∧ r.ceiling < p)) ∧
    ((r.configured = false ∨ valid = .fault) → x.breachLow = r.breachLow ∧ x.breachHigh = r.breachHigh) ∧
    (∀ q, (t.events q).latch c = ((s.events q).latch c ||
      ((entered r.breachLow x.breachLow || entered r.breachHigh x.breachHigh) && s.presence q != .absent))) ∧
    (checks → ∀ T e, r.temp = some T → r.estimate = some e →
      (e + r.tol < p ∨ p + r.tol < e →
        let m := (massAtPressure .nearest p r.gain T).val
        x.mass = m ∧ x.reconciled = (saturateCounter (r.reconciled + ((m : Int) - r.mass))).val ∧
          x.quality = .tracked ∧ (s.svc.part ≠ .config → RecheckPosted s t)) ∧
      (p ≤ e + r.tol → e ≤ p + r.tol → x.mass = r.mass ∧ x.reconciled = r.reconciled ∧ x.quality = .tracked)) ∧
    (¬checks → x.mass = r.mass ∧ x.reconciled = r.reconciled ∧ x.quality = r.quality)

/-- What a temperature frame leaves of its cavern's record: the copy, and at a new GOOD one the last valid temperature,
the raw masses and the estimate (R4, R5, R30, R41). -/
def TemperatureTaken (c : Cavern) (v : Nat) (valid : Validity) (s t : State) : Prop :=
  let r := s.cavern c
  let x := t.cavern c
  x = { r with
    temp := some v, tempV := valid
    pressureV := if goesStale s (temperatureSource c) (pressureSource c) then .stale else r.pressureV
    lastTemp := x.lastTemp, limits := x.limits, keptLimits := x.keptLimits, estimate := x.estimate
    keptEstimate := x.keptEstimate, attached := x.attached, inReserve := x.inReserve, atCeiling := x.atCeiling } ∧
    (valid = .good → x.lastTemp = some v ∧ (r.configured = true → r.lastTemp ≠ some v →
      x.limits.map Limits.rawFloor = some (massAtPressure (roundingOf s.arith.mode .requirement) r.floor r.gain v).val ∧
      x.limits.map Limits.rawCeiling =
        some (massAtPressure (roundingOf s.arith.mode .availability) r.ceiling r.gain v).val ∧
      x.estimate = some (pressureEstimate r.mass r.gain v).val)) ∧
    ((valid ≠ .good ∨ r.lastTemp = some v) → x.lastTemp = r.lastTemp ∧ x.limits = r.limits ∧ x.estimate = r.estimate)

/-- What a top-temperature frame leaves of its store's record: the copy, and at a GOOD one on an eligible store the
corrected parcel 0, the change to reconciled-net and the quality (R17, R63, R64, R67). -/
def TopTaken (st : Store) (v : Nat) (valid : Validity) (s t : State) : Prop :=
  let r := s.store st
  let x := t.store st
  x = { r with
    top := some v, topV := valid, stack := x.stack, quality := x.quality, reconciled := x.reconciled
    reachable := x.reachable, full := x.full, charging := x.charging, drawing := x.drawing } ∧
    (∀ p rest, valid = .good → r.configured = true → r.loadedFlag = true → r.flow = .idle → r.stack = p :: rest →
      x.quality = .tracked ∧
      (p.disagrees r.tol v = true →
        let h := (reconciledHeat r.tBase r.free p.heat p.temp v).val
        x.stack = (if h = 0 then rest else { p with heat := h, temp := some (max r.tBase v) } :: rest) ∧
          x.reconciled = (saturateCounter (r.reconciled + ((h : Int) - p.heat))).val ∧
          (s.svc.part ≠ .config → RecheckPosted s t)) ∧
      (p.disagrees r.tol v = false → x.stack = r.stack ∧ x.reconciled = r.reconciled)) ∧
    ((valid ≠ .good ∨ r.eligible = false) →
      x.stack = r.stack ∧ x.reconciled = r.reconciled ∧ x.quality = r.quality ∧ x.reachable = r.reachable ∧
        x.full = r.full)

/-! ## Walks (R94, R96, R103, R104) -/

/-- The engine after a walk of its own request, or a recheck, has ended: it looks at what waits (R94). -/
def EngineFreed (request : Option Request) (s t : State) : Prop :=
  t.pen = Pen.takeUp { s.pen with flight := none, waiting := if request.isSome then none else s.pen.waiting }

/-- The interval of an OFFER is no longer later than the current one (R104). -/
def Request.overtaken (current : Nat) : Option Request → Bool
  | some (.offer j ..) => decide (j ≤ current)
  | _ => false

/-- What a base capture does, at the start or the restart of a walk: an overtaken OFFER ends LAPSED; an UNDEFINED is
captured and ends the walk ARITH; otherwise the walk flies on the base as it stands (R96, R103, R104). -/
def BaseCaptured (request : Option Request) (restart : Bool) (s t : State) : Prop :=
  t = { s with spi := t.spi, evr := t.evr, arith := t.arith, pen := t.pen } ∧ OtherPorts .t s t ∧ ArithKept s t ∧
    EventsOnlyJoin s t ∧
    (Request.overtaken s.sbk.current request = true → EngineFreed request s t ∧ Answers .t (.bare .lapsed) t) ∧
    (Request.overtaken s.sbk.current request = false → ∀ subject, undefinedAt s = some subject →
      EngineFreed request s t ∧ t.arith.sticky = true ∧
      t.arith.capture = some ⟨.undefined, .walk, subject, request.map Request.interval⟩ ∧
      (request.isSome = true → Answers .t { code := .arith, stale := restart } t) ∧
      (request = none → t.spi = s.spi)) ∧
    (Request.overtaken s.sbk.current request = false → undefinedAt s = none → t.spi = s.spi ∧
      t.pen = { s.pen with flight := some ⟨request, some (readBase s), restart⟩ })

/-- An OFFER or CONFIRM that passes is taken: the T-port is EXECUTING; at a busy engine the walk waits, and at a free one
it starts, behind a recheck whose flag is set (R94, R104, R106). -/
def RequestTaken (r : Request) (s t : State) : Prop :=
  (t.port .t).phase = .executing ∧ OtherPorts .t s t ∧ t = { s with spi := t.spi, pen := t.pen } ∧
    (s.pen.flight.isSome = true → t.pen = { s.pen with waiting := some r }) ∧
    (s.pen.flight = none → s.pen.recheckFlag = true →
      t.pen = { s.pen with recheckFlag := false, waiting := some r, flight := some ⟨none, none, false⟩ }) ∧
    (s.pen.flight = none → s.pen.recheckFlag = false →
      t.pen = { s.pen with waiting := none, flight := some ⟨some r, none, false⟩ })

/-- The engine once the result of an OFFER or CONFIRM walk is placed: nothing waits, and a recheck that waited, or that
a STALE result asks for, has been started (R94, R103). -/
def RequestDone (stale : Bool) (s t : State) : Prop :=
  t.pen.waiting = none ∧ t.pen.recheckFlag = false ∧
    t.pen.flight = (if s.pen.recheckFlag || (stale && s.svc.part != .config) then some ⟨none, none, false⟩ else none)

/-! ## Offers and arithmetic settings (R23, R30, R79) -/

/-- Every OFFERED slot has become EMPTY with its next sequence and its defaults, and every other slot keeps its record
(R79). -/
def OffersEmptied (s t : State) : Prop :=
  s.sbk.slots.length = 96 → ∀ n,
    t.slot n = if (s.slot n).state = .offered then { s.slot n with
      state := .empty, seq := (s.slot n).seq + 1, power := 0, band := none, ref := 0, offer := none } else s.slot n

/-- What a change of mode, or the trap turned off, leaves of a configured cavern's figures at the temperature of R4: the
raw masses and the rate budget of a changed mode, every absent or kept figure where the trap is turned off, and the
conditions that follow from them (R23, R30). -/
def ArithReworked (mode : Mode) (changed off : Bool) (T : Nat) (r x : CavernRec) : Prop :=
  let redone (kept absent : Bool) : Bool := off && (kept || absent)
  (changed || redone r.keptLimits r.limits.isNone → x.limits.map Limits.rawFloor =
      some (massAtPressure (roundingOf mode .requirement) r.floor r.gain T).val ∧
    x.limits.map Limits.rawCeiling = some (massAtPressure (roundingOf mode .availability) r.ceiling r.gain T).val ∧
    x.keptLimits = false) ∧
    (¬(changed || redone r.keptLimits r.limits.isNone) → x.limits = r.limits ∧ x.keptLimits = r.keptLimits) ∧
    (changed || redone r.keptBudget r.budget.isNone → x.budget = some (rateBudget mode r.rate r.gain T).val ∧
      x.keptBudget = false) ∧
    (¬(changed || redone r.keptBudget r.budget.isNone) → x.budget = r.budget ∧ x.keptBudget = r.keptBudget) ∧
    (redone r.keptEstimate r.estimate.isNone → x.estimate = some (pressureEstimate r.mass r.gain T).val ∧
      x.keptEstimate = false) ∧
    (¬redone r.keptEstimate r.estimate.isNone → x.estimate = r.estimate ∧ x.keptEstimate = r.keptEstimate) ∧
    (changed || off → (∀ l, x.limits = some l → x.inReserve = decide (x.mass ≤ l.effFloor) ∧
      x.atCeiling = decide (l.effCeiling ≤ x.mass)) ∧ ∀ q, x.budget = some q → x.rateHold = decide (q ≤ x.spent))

/-! ## Work that an advance leaves due (log 6) -/

/-- No earlier advance has left work due, and no started walk waits for its base. -/
def NothingDue (s : State) : Prop :=
  s.hsu.agingDue = false ∧ (∀ src, (s.ilr.get src).staleDue = false) ∧ (∀ tr, (s.train tr).rungs = 0) ∧
    s.pck.expiryMark = none ∧ s.pck.stagingDue = none ∧ s.pck.boundaryDue = false ∧ s.pen.recheckFlag = false ∧
    s.pen.waiting = none ∧ ∀ f, s.pen.flight = some f → f.base.isSome = true

/-! ## Bounds (R47, R78, R88, R168) -/

/-- Each event queue holds at most 16 records (R168). -/
def QueuesBounded (s : State) : Prop := ∀ p, (s.events p).queue.length ≤ 16

/-- The settlement ring holds at most 32 records (R88). -/
def RingBounded (s : State) : Prop := s.sbk.ring.length ≤ 32

/-- Each store holds at most 24 parcels (R47). -/
def StacksBounded (s : State) : Prop := ∀ st, (s.store st).stack.length ≤ 24

/-- The book has 96 slot records, and the record at an index holds the interval of the window that falls on it (R78,
R83). -/
def BookIndexed (s : State) : Prop :=
  s.sbk.slots.length = 96 ∧ ∀ n, n < 96 → (s.slot (s.sbk.current + n)).interval = s.sbk.current + n

/-- No order exceeds its train's capability, and the order of a train that is not GRANTED or RUNNING, or that is HELD,
is 0 (R135). -/
def OrdersLawful (s : State) : Prop :=
  ∀ t, (s.train t).order.target ≤ (s.train t).cap ∧
    ((s.train t).permit.holdsOrder = false ∨ (s.train t).order.held = true → (s.train t).order.target = 0)

/-- The account of a cavern: its mass within its range, and equal to its counters (R33). -/
def CavernBalanced (r : CavernRec) : Prop :=
  (r.mass : Int) = r.loaded + r.filled - r.withdrawn + r.reconciled ∧ r.mass ≤ 100000000

/-- The account of a store: its content within its capacity, and equal to its counters (03, 3.1; R48, R66). -/
def StoreBalanced (r : StoreRec) : Prop :=
  (r.content : Int) = r.deposited - r.drawn - r.writtenOff + r.reconciled ∧ r.content ≤ r.capacity ∧
    r.capacity ≤ 20000000

/-- Every account is balanced. -/
def AccountsBalanced (s : State) : Prop := (∀ c, CavernBalanced (s.cavern c)) ∧ ∀ st, StoreBalanced (s.store st)

/-- A counter is far from the ends of its range, so that no one step saturates it (R1). -/
def Roomy (x : Int) : Prop := -(2 ^ 62 : Int) ≤ x ∧ x ≤ 2 ^ 62

/-- Every counter is far from the ends of its range. -/
def CountersRoomy (s : State) : Prop :=
  (∀ c, Roomy (s.cavern c).filled ∧ Roomy (s.cavern c).withdrawn ∧ Roomy (s.cavern c).reconciled) ∧
    ∀ st, Roomy (s.store st).deposited ∧ Roomy (s.store st).drawn ∧ Roomy (s.store st).writtenOff ∧
      Roomy (s.store st).reconciled

/-- While RESET is released, an IDLE engine has nothing waiting (R94). -/
def EngineSettled (s : State) : Prop :=
  s.pins.resetLow = false → s.pen.flight = none → s.pen.recheckFlag = false ∧ s.pen.waiting = none

/-- A queue of waiting commands is no part of the plant: two states that agree on everything else. -/
def SamePart (s t : State) : Prop := s.withPending [] = t.withPending []

end Sys2Proof.Machine
end

