-- ==== Sys2Proof/Certificates/Slice0/Obligations.lean ====
section
/-! DEFINITION. The statements for the provers. -/

open Sys2Proof Sys2Proof.Machine

/-- O1. A step runs the command at the front of the queue, an empty queue idles, and no command ends in a fault or a
refusal (spec/95_what_each_step_holds.md, R181). For every state with command c at the front of its queue, step is
exec of c on the state with the queue's rest; with an empty queue step answers the same state (the queue and idling
are the model's choice, log 1); for every command and state exec answers a next state, as every bad command is
answered with a result code. -/
def Obligations.StepRunsFront : Prop :=
  (∀ c rest s, s.pending = c :: rest → step s = exec c (s.withPending rest)) ∧
    (∀ s, s.pending = [] → step s = .next s) ∧ ∀ c s, ∃ t, exec c s = .next t

/-- O2. What the rise of RESET leaves, block by block (R22, R23, R26, R46, R71, R78, R93, R117, R119, R171, R187, R191).
For every pin level, moment and waiting queue, the state after the rise of RESET is in CONFIG with every
configuration flag clear, plant seconds 0 counted from the rise, empty queues and ring, clear flags, unloaded
accounts, trains OFF, sources STALE with age 0, slots EMPTY with sequence 0, engine idle, and the SET TIMING
defaults; the software bands are code 0 at BOTTOM, every condition, counter, breach latch, order and total is clear
or 0, the dispatch view is idle at interval 0, the arithmetic is GUARDED with its enables and its inhibit off, and
the capture record is empty; each presence follows its PRESENT level. Fields the spec leaves unset are 0 (log 4),
and the moment is the model's (log 5). -/
def Obligations.ResetValues : Prop :=
  ∀ pins now waiting, let t := State.afterReset pins now waiting
    t.svc.part = .config ∧ completeFlags t = List.replicate 15 false ∧
    t.svc.times = ⟨300, 30, 600, 60, 120, 10, 30⟩ ∧
    t.pck.seconds = 0 ∧ t.pck.timeSet = false ∧ t.pck.holdover = false ∧ t.pck.holdCount = 0 ∧
    t.pck.lastAdvance = now ∧ t.pck.stagingMark = none ∧
    (∀ c, (t.cavern c).mass = 0 ∧ (t.cavern c).quality = .unknown ∧ (t.cavern c).limits = none ∧
      (t.cavern c).budget = none ∧ (t.cavern c).spent = 0 ∧ (t.cavern c).attached = [] ∧
      (t.cavern c).pressureV = .stale ∧ (t.cavern c).tempV = .stale ∧ (t.cavern c).lastTemp = none) ∧
    (∀ st, (t.store st).stack = [] ∧ (t.store st).margin = 2 ∧ (t.store st).quality = .tracked ∧
      (t.store st).full = false ∧ (t.store st).short = false ∧ (t.store st).reachable = 0 ∧
      (t.store st).topV = .stale) ∧
    (∀ n, n < 96 → t.slot n = Slot.blank n 0) ∧ t.sbk.ring = [] ∧ t.sbk.unscheduled = 0 ∧
    (∀ tr, (t.train tr).permit = .off ∧ (t.train tr).attachment = none ∧ (t.train tr).cap = 0 ∧
      (t.train tr).timing = .onTime ∧ (t.train tr).silence = 0) ∧ t.dsu.queue = [] ∧
    (∀ src, (t.ilr.get src).validity = .stale ∧ (t.ilr.get src).value = none ∧ (t.ilr.get src).age = 0) ∧
    (∀ p, (t.events p).queue = [] ∧ (t.events p).missed = false ∧ (t.events p).mask = false ∧
      (t.port p).phase = .idle ∧ (t.port p).stream = false ∧
      t.presence p = if pins.present p then .joined else .absent) ∧
    t.pen.flight = none ∧ t.pen.waiting = none ∧ t.pen.recheckFlag = false ∧ t.pen.generation = 0 ∧
    t.pen.genHold = .portOnly ∧ t.pen.chgHold = .portOnly ∧ t.pen.lastLimit = .none ∧
    t.ciu.hwCode = pins.rsv ∧ t.ciu.hwSide = sideOfPin pins.rsvtb ∧ t.ciu.lockEnable = false ∧
    (∀ c, (t.cavern c).configured = false ∧ (t.cavern c).swCode = 0 ∧ (t.cavern c).swSide = .bottom ∧
      (t.cavern c).loaded = 0 ∧ (t.cavern c).filled = 0 ∧ (t.cavern c).withdrawn = 0 ∧ (t.cavern c).reconciled = 0 ∧
      (t.cavern c).pressure = none ∧ (t.cavern c).temp = none ∧ (t.cavern c).estimate = none ∧
      (t.cavern c).inReserve = false ∧ (t.cavern c).atCeiling = false ∧ (t.cavern c).rateHold = false ∧
      (t.cavern c).breachLow = false ∧ (t.cavern c).breachHigh = false ∧ (t.cavern c).stableTimer = 0) ∧
    (∀ st, (t.store st).configured = false ∧ (t.store st).decay = 0 ∧ (t.store st).loadedFlag = false ∧
      (t.store st).charging = none ∧ (t.store st).drawing = [] ∧ (t.store st).shortfall = 0 ∧
      (t.store st).deposited = 0 ∧ (t.store st).drawn = 0 ∧ (t.store st).writtenOff = 0 ∧
      (t.store st).reconciled = 0 ∧ (t.store st).top = none) ∧ t.hsu.agingTimer = 0 ∧
    (∀ tr, (t.train tr).configured = false ∧ (t.train tr).derated = false ∧ (t.train tr).cause = none ∧
      (t.train tr).prefs = none ∧ (t.train tr).order = ⟨0, 0, 0, false⟩ ∧ (t.train tr).nextOrder = none ∧
      (t.train tr).stagedSeq = 0 ∧ (t.train tr).settlePending = false ∧ (t.train tr).settleCount = 0 ∧
      (t.train tr).reference = none ∧ (t.train tr).last = none ∧ (t.train tr).totalAir = 0 ∧
      (t.train tr).totalHeat = 0 ∧ (t.train tr).totalEnergy = 0) ∧
    t.dsu.view.current = 0 ∧ t.dsu.view.active = none ∧ t.dsu.view.next = none ∧ t.sbk.current = 0 ∧
    (∀ p, (t.events p).latch1 = false ∧ (t.events p).latch2 = false) ∧
    t.arith.mode = .guarded ∧ t.arith.trap = false ∧ t.arith.overflowNotice = false ∧
    t.arith.underflowNotice = false ∧ t.arith.inhibit = false ∧ t.arith.sticky = false ∧ t.arith.capture = none

/-- O3. The RESET pin falls and rises, and a held part makes no progress (R191, R157). A fall of RESET on a released
part ends every frame, partial command, unread result and walk, sends the line back to wait for idle, and changes
nothing else; a rise of a held part leaves the reset values with the queue of waiting commands kept; while RESET is
low every other command leaves everything but the pins as it was. -/
def Obligations.ResetPin : Prop :=
  (∀ s now,
    (s.pins.resetLow = false → ∃ t, exec .resetFall s = .next t ∧ t.pins = { s.pins with resetLow := true } ∧
      (∀ p, (t.port p).phase = .idle ∧ (t.port p).frame = .closed ∧ (t.port p).collected = [] ∧
        (t.port p).result = [] ∧ (t.port p).presence = (s.port p).presence ∧ (t.port p).stream = (s.port p).stream) ∧
      t.pen = { s.pen with waiting := none, flight := none } ∧ t.ilr = { s.ilr with line := .waitIdle } ∧
      t = { s with pins := t.pins, spi := t.spi, pen := t.pen, ilr := t.ilr }) ∧
    (s.pins.resetLow = true → exec (.resetRise now) s = .next (State.afterReset s.pins now s.pending))) ∧
    ∀ c s t, s.pins.resetLow = true → (∀ now, c ≠ .resetRise now) → exec c s = .next t → t = { s with pins := t.pins }

/-- O4. READ IDENTITY, READ TIME, READ TRAIN, READ STORE and READ SLOTS answer DONE with their record, or RANGE, and
change nothing (R185, R140, R69, R90, R75). At a ready port the five reads, on operands in range, answer DONE with
the record as it stands; READ TRAIN and READ STORE of an unknown number, and READ SLOTS of an unknown setting, of a
first interval outside the window or of a count outside 1 to 96, answer RANGE; nothing but the port's interface
changes. The bodies of READ IDENTITY and READ TIME are written out. The codes of absent fields that the spec leaves
open are the model's reading (log 19). So are the low four bytes of an expiry past the top of plant seconds (log
35). That a set one-byte flag of a body is sent as 1 is the model's choice (log 53). -/
def Obligations.ReadsChangeNothing : Prop :=
  ∀ p s, Ready p s →
    AnswersOnly (.readTime p) p (.done (putBE 4 s.pck.seconds ++ putBE 4 (s.pck.seconds / 900) ++
    putBE 2 (s.pck.seconds % 900) ++ [BitVec.ofNat 8 ((if s.pck.timeSet then 1 else 0) +
      (if s.pck.holdover then 2 else 0) + (if s.pck.stagingMark = some (s.pck.seconds / 900) then 4 else 0))] ++
    putBE 4 s.pck.holdCount ++ putBE 2 s.svc.times.lead ++ putBE 4 s.sbk.current)) s ∧
    AnswersOnly (.readIdentity p) p (.done ([0x32, 0x10, 0x01, BitVec.ofNat 8 (portCode p),
      BitVec.ofNat 8 s.svc.part.code, BitVec.ofNat 8 (s.presence p).code] ++
      putBE 2 (((completeFlags s).zipIdx.map (fun f => bit f.2 f.1)).sum))) s ∧
    (∀ b tr, trainOf b = some tr → AnswersOnly (.readTrain p b) p (.done (trainBody s tr)) s) ∧
    (∀ b st, storeOf b = some st → AnswersOnly (.readStore p b) p (.done (storeBody s st)) s) ∧
    (∀ b, trainOf b = none → AnswersOnly (.readTrain p b) p (.bare .range) s) ∧
    (∀ b, storeOf b = none → AnswersOnly (.readStore p b) p (.bare .range) s) ∧
    (∀ first count skip, (settingOf skip = none ∨ s.inWindow first.toNat = false ∨ count.toNat < 1 ∨
      96 < count.toNat) → AnswersOnly (.readSlots p first count skip) p (.bare .range) s) ∧
    ∀ first count skip k, settingOf skip = some k → s.inWindow first.toNat = true → 1 ≤ count.toNat →
      count.toNat ≤ 96 →
      let xs := (slotsFrom s first.toNat count.toNat).filter (fun x => !(k && x.state == .voided))
      AnswersOnly (.readSlots p first count skip) p
        (.done (putBE 4 s.pck.seconds ++ putBE 1 xs.length ++ xs.flatMap slotBytes)) s

/-- O5. SCAN SLOTS finds the first slot whose figure meets the comparison, and changes nothing (R91). On operands in
range SCAN SLOTS answers DONE with HIT and the first examined slot whose figure meets the comparison, or NOT
SATISFIED when none does; out of range it answers RANGE; either way only the port's interface changes. -/
def Obligations.ScanSlotsAnswer : Prop :=
  ∀ p s first last f c v d, Ready p s →
    (∀ fig cmp, scanFigureOf f = some fig → comparisonOf c = some cmp → s.inWindow first.toNat = true →
      s.inWindow last.toNat = true → first.toNat ≤ last.toNat → -2000000 ≤ v.toInt → v.toInt ≤ 2000000 →
      (d.toNat = 1 ∨ d.toNat = 2) →
      let xs := scanSlotsFrom s first.toNat last.toNat d.toNat
      (∀ x, xs.find? (fun x => (scanned fig x).any (fun y => cmp.meets y v.toInt)) = some x →
        AnswersOnly (.scanSlots p first last f c v d) p (.done ([0x01] ++ putBE 4 x.interval ++ [x.seq] ++
          [BitVec.ofNat 8 x.state.code] ++ putSigned 4 ((scanned fig x).getD 0))) s) ∧
      (xs.find? (fun x => (scanned fig x).any (fun y => cmp.meets y v.toInt)) = none →
        AnswersOnly (.scanSlots p first last f c v d) p (.done (0x02 :: List.replicate 10 0)) s)) ∧
    ((scanFigureOf f = none ∨ comparisonOf c = none ∨ s.inWindow first.toNat = false ∨ s.inWindow last.toNat = false ∨
      last.toNat < first.toNat ∨ v.toInt < -2000000 ∨ 2000000 < v.toInt ∨ (d.toNat ≠ 1 ∧ d.toNat ≠ 2)) →
      AnswersOnly (.scanSlots p first last f c v d) p (.bare .range) s)

/-- O6. READ CAVERN reports and clears the port's breach latch of that cavern (R44, R172). At a ready port READ CAVERN
of a cavern answers DONE with the record as it stands, clears that port's latch of that cavern, and leaves every
other latch, every queue and everything else as it was; an unknown number is refused RANGE. The codes of absent
fields that the spec leaves open are the model's reading (log 19). That the latch and the configured flag, when set,
are sent as 1 is the model's choice (log 53). -/
def Obligations.ReadCavernClearsLatch : Prop :=
  ∀ p s b, Ready p s →
    (∀ c, cavernOf b = some c → ∃ t, exec (.readCavern p b) s = .next t ∧ Answers p (.done (cavernBody s p c)) t ∧
      (t.events p).latch c = false ∧ (∀ q d, (q, d) ≠ (p, c) → (t.events q).latch d = (s.events q).latch d) ∧
      (∀ q, (t.events q).queue = (s.events q).queue ∧ (t.events q).missed = (s.events q).missed ∧
        (t.events q).mask = (s.events q).mask) ∧
      t = { s with spi := t.spi, evr := t.evr } ∧ ∀ q, q ≠ p → t.port q = s.port q) ∧
    (cavernOf b = none → AnswersOnly (.readCavern p b) p (.bare .range) s)

/-- O7. READ POSITION answers the position and changes nothing but by a capture (R116, R21, R22). At a ready port READ
POSITION answers DONE with the figures as they stand; before the first SET FIGURES, and while the OVERFLOW notice is
off, nothing but the port's interface changes; afterwards only the sticky flag, the capture record and records that
join the event queues may change, and they are those that the raises of the two standing powers leave, generation
first, with source WALK and no slot. That these captures have no subject is the model's reading (log 13), and so are
what an absent rate budget contributes (log 19) and that the capability sums are held at 2,000,000 kW (log 21). That
the recheck flag and the waiting flag, when set, are sent as 1 is the model's choice (log 53), and so is the order
of the two powers' captures (log 49). -/
def Obligations.ReadPositionAnswer : Prop :=
  ∀ p s, Ready p s → ∃ t, exec (.readPosition p) s = .next t ∧ Answers p (.done (positionBody s)) t ∧
    t = { s with spi := t.spi, evr := t.evr, arith := t.arith } ∧ OtherPorts p s t ∧ ArithKept s t ∧
    EventsOnlyJoin s t ∧
    (s.svc.figuresSet = false → t.evr = s.evr ∧ t.arith = s.arith) ∧
    (s.arith.overflowNotice = false → t.evr = s.evr ∧ t.arith = s.arith) ∧
    (s.svc.figuresSet = true →
      let u := raise (standingChg s).exc .walk .nothing (raise (standingGen s).exc .walk .nothing s)
      t.evr = u.evr ∧ t.arith = u.arith)

/-- O8. READ ARITH reports the arithmetic and CLEAR ARITH clears the record (R24). At a ready port READ ARITH answers
DONE with mode, settings, sticky flag and capture record and changes nothing; CLEAR ARITH clears the sticky flag,
empties the capture record and answers DONE, and changes nothing else, so that queued events stay. That the four
subject bytes of an empty capture record are 0 is the model's choice (log 43). That the sticky flag, when set, and
the capture-present byte of a capture are sent as 1 is its choice too (log 53). -/
def Obligations.ArithRecord : Prop :=
  ∀ p s, Ready p s →
    AnswersOnly (.readArith p) p (.done ([BitVec.ofNat 8 s.arith.mode.code,
      BitVec.ofNat 8 (bit 0 s.arith.trap + bit 1 s.arith.overflowNotice + bit 2 s.arith.underflowNotice +
        bit 3 s.arith.inhibit), if s.arith.sticky then 1 else 0] ++
      match s.arith.capture with
      | none => [0, 0, 0, 0, 0, 0, 0, 0, 0xFF, 0xFF, 0xFF, 0xFF]
      | some c => [1, BitVec.ofNat 8 c.code.code, BitVec.ofNat 8 c.source.code, BitVec.ofNat 8 c.subject.kindCode] ++
          putBE 4 c.subject.number ++ putOpt 4 c.slot)) s ∧
    ∃ t, exec (.clearArith p) s = .next t ∧ Answers p (.bare .done) t ∧
      t.arith = { s.arith with sticky := false, capture := none } ∧ t = { s with spi := t.spi, arith := t.arith } ∧
      ∀ q, q ≠ p → t.port q = s.port q

/-- O9. FETCH EVENT removes the oldest record and reports MISSED (R170). At a ready port whose queue holds a record
FETCH EVENT answers DONE with the oldest record, the number remaining and MISSED, removes it and clears MISSED; with
an empty queue it answers NONE with MISSED and clears it; nothing else changes. That the four subject bytes of a
record with no subject are 0 is the model's choice (log 43). -/
def Obligations.FetchEventTakesOldest : Prop :=
  ∀ p s, Ready p s →
    (∀ r rest, (s.events p).queue = r :: rest → ∃ t, exec (.fetchEvent p) s = .next t ∧
      Answers p { code := .done, missed := (s.events p).missed, body := putBE 1 rest.length ++ eventBytes r } t ∧
      t.events p = { s.events p with queue := rest, missed := false } ∧ (∀ q, q ≠ p → t.events q = s.events q) ∧
      t = { s with spi := t.spi, evr := t.evr } ∧ ∀ q, q ≠ p → t.port q = s.port q) ∧
    ((s.events p).queue = [] → ∃ t, exec (.fetchEvent p) s = .next t ∧
      Answers p { code := .none, missed := (s.events p).missed } t ∧
      t.events p = { s.events p with missed := false } ∧ (∀ q, q ≠ p → t.events q = s.events q) ∧
      t = { s with spi := t.spi, evr := t.evr } ∧ ∀ q, q ≠ p → t.port q = s.port q)

/-- O10. SET EVENT MASK sets the mask and keeps the queue; PORT RESET empties the queue and answers the presence (R167,
R177, R171). At a ready port SET EVENT MASK with a known setting sets the port's INFO mask, keeps the queue and
answers DONE with the mask and the number of records queued; an unknown setting is refused RANGE and changes
nothing. PORT RESET taken at a ready port, or as the first byte of a frame in RESULT, empties the port's event
queue, clears MISSED and the stream flag, keeps presence, mask and latches, discards any earlier result and answers
DONE with the presence; nothing else changes. -/
def Obligations.EventMaskAndPortReset : Prop :=
  ∀ p s, (∀ b, Ready p s →
    (∀ v, settingOf b = some v → ∃ t, exec (.setEventMask p b) s = .next t ∧
      Answers p (.done [if v then 1 else 0, BitVec.ofNat 8 (s.events p).queue.length]) t ∧
      t.events p = { s.events p with mask := v } ∧ (∀ q, q ≠ p → t.events q = s.events q) ∧
      t = { s with spi := t.spi, evr := t.evr } ∧ ∀ q, q ≠ p → t.port q = s.port q) ∧
    (settingOf b = none → AnswersOnly (.setEventMask p b) p (.bare .range) s)) ∧
    ((Ready p s ∨ (s.pins.resetLow = false ∧ (s.port p).phase = .result ∧ (s.port p).frame = .taken 0)) →
    ∃ t, exec (.portReset p) s = .next t ∧ Answers p (.done [BitVec.ofNat 8 (s.presence p).code]) t ∧
      (t.port p).stream = false ∧ t.presence p = s.presence p ∧
      t.events p = { s.events p with queue := [], missed := false } ∧ (∀ q, q ≠ p → t.events q = s.events q) ∧
      t = { s with spi := t.spi, evr := t.evr } ∧ ∀ q, q ≠ p → t.port q = s.port q)

/-- O11. FETCH SETTLEMENT removes the oldest settlement record (R89). At a ready T-port FETCH SETTLEMENT answers NONE on
an empty ring and changes nothing; otherwise it answers DONE with the number remaining and the oldest record, and
removes that record and nothing else. -/
def Obligations.FetchSettlementTakesOldest : Prop :=
  ∀ s, Ready .t s →
    (s.sbk.ring = [] → AnswersOnly (.fetchSettlement .t) .t (.bare .none) s) ∧
    (∀ r rest, s.sbk.ring = r :: rest → ∃ t, exec (.fetchSettlement .t) s = .next t ∧
      Answers .t (.done (putBE 1 rest.length ++ settlementBytes r)) t ∧ t.sbk = { s.sbk with ring := rest } ∧
      t = { s with spi := t.spi, sbk := t.sbk } ∧ ∀ q, q ≠ .t → t.port q = s.port q)

/-- O12. A command that the catalogue does not admit from a port is answered PORT, and nothing else happens (R175,
R180). At a ready C-port or E-port the trading commands of the T-port, SET TIME and FETCH SETTLEMENT are answered
PORT, and so is DISCARD TOP at a ready T-port; only the port's interface changes. -/
def Obligations.PortColumn : Prop :=
  ∀ p s, Ready p s →
    (p ≠ .t → (∀ v now, AnswersOnly (.setTime p v now) p (.bare .port) s) ∧
      (∀ a b c d e, AnswersOnly (.offer p a b c d e) p (.bare .port) s) ∧
      (∀ a b c, AnswersOnly (.confirm p a b c) p (.bare .port) s) ∧
      (∀ a b, AnswersOnly (.withdrawOffer p a b) p (.bare .port) s) ∧
      (∀ a b, AnswersOnly (.voidSlot p a b) p (.bare .port) s) ∧
      (∀ a b c, AnswersOnly (.activateReserve p a b c) p (.bare .port) s) ∧
      AnswersOnly (.fetchSettlement p) p (.bare .port) s) ∧
    (p = .t → ∀ b, AnswersOnly (.discardTop p b) p (.bare .port) s)

/-- O13. SET LOCK ENABLE and SET TIMING take their fields (R187, R61). At a ready port a known lock setting becomes the
lock enable and fields of SET TIMING in range replace all seven, with the aging timer 0 where the period is 0; both
answer DONE and change nothing else; out of range they are refused RANGE. -/
def Obligations.SetLockEnableAndTiming : Prop :=
  ∀ p s, Ready p s →
    (∀ b v, settingOf b = some v → ∃ t, exec (.setLockEnable p b) s = .next t ∧ Answers p (.bare .done) t ∧
      t.ciu = { s.ciu with lockEnable := v } ∧ t = { s with spi := t.spi, ciu := t.ciu } ∧
      ∀ q, q ≠ p → t.port q = s.port q) ∧
    (∀ b, settingOf b = none → AnswersOnly (.setLockEnable p b) p (.bare .range) s) ∧
    ∀ stable stale aging lead hold deadline settle,
      let x : Times := ⟨stable.toNat, stale.toNat, aging.toNat, lead.toNat, hold.toNat, deadline.toNat, settle.toNat⟩
      (60 ≤ x.stable ∧ x.stable ≤ 3600 ∧ 5 ≤ x.stale ∧ x.stale ≤ 300 ∧
        (x.aging = 0 ∨ (60 ≤ x.aging ∧ x.aging ≤ 86400)) ∧ 10 ≤ x.lead ∧ x.lead ≤ 300 ∧ 30 ≤ x.hold ∧ x.hold ≤ 900 ∧
        2 ≤ x.deadline ∧ x.deadline ≤ 60 ∧ 4 ≤ x.settle → ∃ t,
        exec (.setTiming p stable stale aging lead hold deadline settle) s = .next t ∧ Answers p (.bare .done) t ∧
        t.svc = { s.svc with times := x } ∧
        t.hsu = { s.hsu with agingTimer := if x.aging = 0 then 0 else s.hsu.agingTimer } ∧
        t = { s with spi := t.spi, svc := t.svc, hsu := t.hsu } ∧ ∀ q, q ≠ p → t.port q = s.port q) ∧
      (timesFit x = false →
        AnswersOnly (.setTiming p stable stale aging lead hold deadline settle) p (.bare .range) s)

/-- O14. The hold monitor evaluates GEN and CHG, and SET FIGURES replaces all eleven fields, moves the generation number
and evaluates it (R186, R94, R95, R114). An evaluation of the hold monitor gives each threshold reason when its
summed figure is below the threshold, drops it at twice the threshold and keeps it in between, gives FULL while both
stores are FULL and PORT while the E-port (GEN) or the C-port (CHG) is not DECLARED; a direction that becomes HELD
queues HOLD to the T-port and one that becomes FREE queues RESUME, with direction and reason set as data words, and
nothing else changes; that the record of GEN comes first is the model's choice (log 48). At a ready port SET FIGURES
with fields in range replaces all eleven, sets the figures-set flag, advances the generation number by one,
evaluates the hold monitor on the new thresholds and answers DONE; in SERVICE a recheck request is posted; nothing
else changes; a field out of range is refused RANGE and nothing changes. -/
def Obligations.SetFiguresEffect : Prop :=
  (∀ s, let t := evalHold s
      HoldEvaluated s t ∧ HoldRecorded s t ∧ EventsOnlyJoin s t ∧
      t = { s with evr := t.evr, pen := { s.pen with genHold := t.pen.genHold, chgHold := t.pen.chgHold } }) ∧
    (∀ was figure threshold is, ReasonStands figure threshold was is →
      (figure < threshold → is = true) ∧ (2 * threshold ≤ figure → is = false) ∧
      (threshold ≤ figure → figure < 2 * threshold → is = was)) ∧
    ∀ p s yg yc qx qc loss dA dB ga gh cr cs, Ready p s →
    let f : Figures := ⟨yg.toNat, yc.toNat, qx.toNat, qc.toNat, loss.toNat, ga.toNat, gh.toNat, cr.toNat, cs.toNat⟩
    (figuresFit f = true → ∃ t, exec (.setFigures p yg yc qx qc loss dA dB ga gh cr cs) s = .next t ∧
      Answers p (.bare .done) t ∧ t.svc = { s.svc with figures := f, figuresSet := true } ∧
      t.hsu = { s.hsu with hsA := { s.hsu.hsA with decay := dA.toNat }, hsB := { s.hsu.hsB with decay := dB.toNat } } ∧
      HoldEvaluated s t ∧ HoldRecorded s t ∧
      t.pen.generation = s.pen.generation + 1 ∧ (s.svc.part = .service → RecheckPosted s t) ∧
      (s.svc.part ≠ .service → t.pen.flight = s.pen.flight ∧ t.pen.recheckFlag = s.pen.recheckFlag) ∧
      EngineKept s t ∧ EventsOnlyJoin s t ∧ OtherPorts p s t ∧
      t = { s with spi := t.spi, evr := t.evr, hsu := t.hsu, pen := t.pen, svc := t.svc }) ∧
    (figuresFit f = false → AnswersOnly (.setFigures p yg yc qx qc loss dA dB ga gh cr cs) p (.bare .range) s)

/-- O15. SET TRAIN configures a train of its owner port (R118). At its ready owner port SET TRAIN with fields in range,
on a train that is OFF or TRIPPED, replaces the five fields, sets the configured flag, sets the capability to the
rated figure, clears the derate flag, keeps permit, cause and order, and answers DONE; the generation number moves
exactly when the capability changed; nothing else changes. Its refusals are RANGE, PORT, RANGE and STATE in order. -/
def Obligations.SetTrainEffect : Prop :=
  ∀ p s b r m k d w, Ready p s →
    (trainOf b = none → AnswersOnly (.setTrain p b r m k d w) p (.bare .range) s) ∧
    ∀ tr, trainOf b = some tr →
      (tr.owner ≠ p → AnswersOnly (.setTrain p b r m k d w) p (.bare .port) s) ∧
      (tr.owner = p → trainFieldsFit r.toNat m.toNat k.toNat d.toNat w.toNat = false →
        AnswersOnly (.setTrain p b r m k d w) p (.bare .range) s) ∧
      (tr.owner = p → trainFieldsFit r.toNat m.toNat k.toNat d.toNat w.toNat = true →
        (s.train tr).permit ≠ .off → (s.train tr).permit ≠ .tripped →
        AnswersOnly (.setTrain p b r m k d w) p (.bare .state) s) ∧
      (tr.owner = p → trainFieldsFit r.toNat m.toNat k.toNat d.toNat w.toNat = true →
        ((s.train tr).permit = .off ∨ (s.train tr).permit = .tripped) →
        ∃ t, exec (.setTrain p b r m k d w) s = .next t ∧ Answers p (.bare .done) t ∧
          t.train tr = { s.train tr with
            configured := true, rated := r.toNat, minLoad := m.toNat, rampLimit := k.toNat, band := d.toNat
            maxFlow := w.toNat, cap := r.toNat, derated := false } ∧
          (∀ u, u ≠ tr → t.train u = s.train u) ∧ t.dsu.queue = s.dsu.queue ∧ t.dsu.view = s.dsu.view ∧
          t.pen = { s.pen with generation := if (s.train tr).cap = r.toNat then s.pen.generation
            else s.pen.generation + 1 } ∧
          t = { s with spi := t.spi, dsu := t.dsu, pen := t.pen } ∧ ∀ q, q ≠ p → t.port q = s.port q)

/-- O16. SET CAVERN replaces the configuration and recomputes limits, rate budget, estimate and conditions (R27, R4, R5,
R8, R30, R37, R38, R39, R94, R172). At a ready port, with the envelope lock not effective, an unknown cavern or
fields out of range or order are refused RANGE and nothing changes; otherwise SET CAVERN replaces the six fields and
answers DONE; only derived figures, conditions and the attached set of that cavern may follow, so that mass,
quality, counters, budget spent, band setting and measurements keep their values; where the cavern has a last valid
temperature the raw masses are A2 at floor and ceiling, the rate budget is A4 and the estimate A1, in the mode in
force; IN_RESERVE, AT_CEILING and RATE_HOLD follow from the new figures, the breach conditions from a pressure copy
that is GOOD or SUSPECT, with the latches set at an entry; in SERVICE a recheck request is posted; the other cavern
and the stores differ at most in attached trains, the book in SHORT marks, and the trains in what stops, marks,
splits and grants write. -/
def Obligations.SetCavernEffect : Prop :=
  ∀ p s b g f c r rt tol, Ready p s → s.lockEffective = false →
    ((cavernOf b = none ∨ cavernFieldsFit g.toNat f.toNat c.toNat r.toNat rt.toNat tol.toNat = false) →
      AnswersOnly (.setCavern p b g f c r rt tol) p (.bare .range) s) ∧
    ∀ cv, cavernOf b = some cv → cavernFieldsFit g.toNat f.toNat c.toNat r.toNat rt.toNat tol.toNat = true →
      ∃ t, exec (.setCavern p b g f c r rt tol) s = .next t ∧ Answers p (.bare .done) t ∧
        (let x := t.cavern cv
         x = { s.cavern cv with
           configured := true, gain := g.toNat, floor := f.toNat, ceiling := c.toNat, rate := r.toNat
           refTemp := rt.toNat, tol := tol.toNat, estimate := x.estimate, limits := x.limits, budget := x.budget
           attached := x.attached, inReserve := x.inReserve, atCeiling := x.atCeiling, rateHold := x.rateHold
           breachLow := x.breachLow, breachHigh := x.breachHigh, keptLimits := x.keptLimits
           keptBudget := x.keptBudget, keptEstimate := x.keptEstimate } ∧
         (∀ T, (s.cavern cv).lastTemp = some T →
          x.limits.map Limits.rawFloor =
            some (massAtPressure (roundingOf s.arith.mode .requirement) f.toNat g.toNat T).val ∧
          x.limits.map Limits.rawCeiling =
            some (massAtPressure (roundingOf s.arith.mode .availability) c.toNat g.toNat T).val ∧
          x.budget = some (rateBudget s.arith.mode r.toNat g.toNat T).val ∧
          x.estimate = some (pressureEstimate x.mass g.toNat T).val) ∧
         (∀ l, x.limits = some l → x.inReserve = decide (x.mass ≤ l.effFloor) ∧
          x.atCeiling = decide (l.effCeiling ≤ x.mass)) ∧
         (∀ q, x.budget = some q → x.rateHold = decide (q ≤ x.spent)) ∧
         (∀ v, ((s.cavern cv).pressureV = .good ∨ (s.cavern cv).pressureV = .suspect) →
          (s.cavern cv).pressure = some v → x.breachLow = decide (v < f.toNat) ∧
            x.breachHigh = decide (c.toNat < v)) ∧
         ((s.cavern cv).pressureV ≠ .good → (s.cavern cv).pressureV ≠ .suspect →
          x.breachLow = (s.cavern cv).breachLow ∧ x.breachHigh = (s.cavern cv).breachHigh) ∧
         ∀ q, (t.events q).latch cv = ((s.events q).latch cv ||
          ((entered (s.cavern cv).breachLow x.breachLow || entered (s.cavern cv).breachHigh x.breachHigh) &&
            s.presence q != .absent))) ∧
        (s.svc.part = .service → RecheckPosted s t) ∧
        (∀ d, d ≠ cv → CavernKept d s t) ∧ (∀ st, StoreKept st s t) ∧ BookKept s t ∧ PlantFrame p s t

/-- O17. While the envelope lock is effective the three cavern commands are refused LOCKED (R31, R27, R28, R43). At a
ready port, with ENVLOCK high and the enable on, SET CAVERN, SET RESERVE BAND and a LOAD INVENTORY addressed to a
cavern are refused LOCKED and change nothing but the port's interface. -/
def Obligations.EnvelopeLockRefuses : Prop :=
  ∀ p s, Ready p s → s.pins.envlock = true → s.ciu.lockEnable = true →
    (∀ b g f c r rt tol, AnswersOnly (.setCavern p b g f c r rt tol) p (.bare .locked) s) ∧
    (∀ b c d, AnswersOnly (.setReserveBand p b c d) p (.bare .locked) s) ∧
    ∀ b m a x c, cavernOf b = some c → AnswersOnly (.loadInventoryCavern p b m a x) p (.bare .locked) s

/-- O18. SET RESERVE BAND replaces the software band and keeps the account (R28, R6, R30, R37, R94). At a ready port,
with the lock not effective, an unknown cavern, code or side is refused RANGE and nothing changes; otherwise SET
RESERVE BAND replaces the software code and side and answers DONE; of that cavern only the limits, IN_RESERVE,
AT_CEILING and the attached set may follow: the bands and effective limits are those of both sides' larger bands on
the raw masses kept, and the two conditions follow from them; in SERVICE or PARKED a change of code or side posts a
recheck request; the other cavern and the stores differ at most in attached trains, the book in SHORT marks, and the
trains in what stops, splits and grants write. -/
def Obligations.SetReserveBandEffect : Prop :=
  ∀ p s b k d, Ready p s → s.lockEffective = false →
    ((cavernOf b = none ∨ bandCodeOf k = none ∨ sideOf d = none) →
      AnswersOnly (.setReserveBand p b k d) p (.bare .range) s) ∧
    ∀ cv n side, cavernOf b = some cv → bandCodeOf k = some n → sideOf d = some side →
      ∃ t, exec (.setReserveBand p b k d) s = .next t ∧ Answers p (.bare .done) t ∧
        (let r := s.cavern cv
         let x := t.cavern cv
         x = { r with
           swCode := n, swSide := side, limits := x.limits, attached := x.attached, inReserve := x.inReserve
           atCeiling := x.atCeiling } ∧
         (∀ l, r.configured = true → r.limits = some l → x.limits = some (effectiveLimits l.rawFloor l.rawCeiling
          (sideBand s.arith.mode (l.rawCeiling - l.rawFloor) .bottom s.ciu.hwSide s.ciu.hwCode side n)
          (sideBand s.arith.mode (l.rawCeiling - l.rawFloor) .top s.ciu.hwSide s.ciu.hwCode side n))) ∧
         (r.configured = false ∨ r.limits = none → x.limits = r.limits) ∧
         (r.configured = true → ∀ l, x.limits = some l → x.inReserve = decide (x.mass ≤ l.effFloor) ∧
          x.atCeiling = decide (l.effCeiling ≤ x.mass)) ∧
         x.limits.map Limits.rawFloor = r.limits.map Limits.rawFloor ∧
         x.limits.map Limits.rawCeiling = r.limits.map Limits.rawCeiling) ∧
        (s.svc.part ≠ .config → (s.cavern cv).swCode ≠ n ∨ (s.cavern cv).swSide ≠ side → RecheckPosted s t) ∧
        (∀ e, e ≠ cv → CavernKept e s t) ∧ (∀ st, StoreKept st s t) ∧ BookKept s t ∧ PlantFrame p s t

/-- O19. LOAD INVENTORY starts a new account and empties the settlement ring (R43, R33, R68, R66, R88, R45, R70, R95).
At a ready port an unknown number is refused RANGE. A load of a cavern with no effective lock is refused STATE in
SERVICE, for a cavern not configured or with a train attached, and FROM_MEASURED unless both copies are GOOD, and
RANGE for another method or a mass above its range; otherwise GIVEN loads the mass and FROM_MEASURED A2 of the
copies to nearest: mass and loaded are set, the other counters are 0, the quality TRACKED, and estimate and
conditions follow. A load of a store is refused STATE in SERVICE, for a store not configured or not IDLE, and RANGE
for another method or a parcel out of range; otherwise EMPTY leaves no parcel and PARCEL one CLOSED parcel, its heat
booked as deposited, the other counters 0, the loaded flag set, and the reachable heat that of the new stack. Both
answer DONE with the amount, empty the settlement ring and advance the generation number by one, however many
figures the load changed, which is the model's choice (log 20, log 11); of the loaded object nothing else but FULL
and attached trains may change, and the other objects differ at most in attached trains. -/
def Obligations.LoadsSetAccounts : Prop :=
  ∀ p s b m a x, Ready p s →
    (cavernOf b = none → AnswersOnly (.loadInventoryCavern p b m a x) p (.bare .range) s) ∧
    (storeOf b = none → AnswersOnly (.loadInventoryStore p b m a x) p (.bare .range) s) ∧
    (∀ c, cavernOf b = some c → s.lockEffective = false →
      let r := s.cavern c
      ((s.svc.part = .service ∨ r.configured = false ∨ r.attached ≠ []) →
        AnswersOnly (.loadInventoryCavern p b m a x) p (.bare .state) s) ∧
      (s.svc.part ≠ .service → r.configured = true → r.attached = [] →
        ((m ≠ 1 ∧ m ≠ 2) ∨ (m = 1 ∧ 100000000 < a.toNat) →
          AnswersOnly (.loadInventoryCavern p b m a x) p (.bare .range) s) ∧
        (m = 2 → (r.pressureV ≠ .good ∨ r.tempV ≠ .good) →
          AnswersOnly (.loadInventoryCavern p b m a x) p (.bare .state) s) ∧
        ∀ mass, ((m = 1 ∧ a.toNat ≤ 100000000 ∧ mass = a.toNat) ∨
            (m = 2 ∧ r.pressureV = .good ∧ r.tempV = .good ∧ ∃ v T, r.pressure = some v ∧ r.temp = some T ∧
              mass = (massAtPressure .nearest v r.gain T).val)) →
          ∃ t, exec (.loadInventoryCavern p b m a x) s = .next t ∧ Answers p (.done (putBE 4 mass)) t ∧
            (let y := t.cavern c
             y = { r with
               mass := mass, loaded := mass, filled := 0, withdrawn := 0, reconciled := 0, quality := .tracked
               estimate := y.estimate, keptEstimate := y.keptEstimate, attached := y.attached
               inReserve := y.inReserve, atCeiling := y.atCeiling } ∧
             (∀ T, r.lastTemp = some T → y.estimate = some (pressureEstimate mass r.gain T).val) ∧
             ∀ l, r.limits = some l → y.inReserve = decide (mass ≤ l.effFloor) ∧
              y.atCeiling = decide (l.effCeiling ≤ mass)) ∧
            (∀ d, d ≠ c → CavernKept d s t) ∧ (∀ st, StoreKept st s t) ∧ t.pen.generation = s.pen.generation + 1 ∧
            t.sbk = { s.sbk with slots := t.sbk.slots, ring := [] } ∧ SlotsKept s t ∧ PlantFrame p s t)) ∧
    ∀ st, storeOf b = some st →
      let r := s.store st
      ((s.svc.part = .service ∨ r.configured = false ∨ r.flow ≠ .idle) →
        AnswersOnly (.loadInventoryStore p b m a x) p (.bare .state) s) ∧
      (s.svc.part ≠ .service → r.configured = true → r.flow = .idle →
        ((m ≠ 1 ∧ m ≠ 2) ∨ (m = 2 ∧ (a.toNat < 1 ∨ r.capacity < a.toNat ∨ x.toNat < r.tBase ∨ 9000 < x.toNat)) →
          AnswersOnly (.loadInventoryStore p b m a x) p (.bare .range) s) ∧
        ∀ stack, ((m = 1 ∧ stack = []) ∨ (m = 2 ∧ 1 ≤ a.toNat ∧ a.toNat ≤ r.capacity ∧ r.tBase ≤ x.toNat ∧
            x.toNat ≤ 9000 ∧ stack = [⟨a.toNat, some x.toNat, false, none, s.sbk.current⟩])) →
          ∃ t, exec (.loadInventoryStore p b m a x) s = .next t ∧ Answers p (.done (putBE 4 (heatOf stack))) t ∧
            (let y := t.store st
             y = { r with
               stack := stack, deposited := heatOf stack, drawn := 0, writtenOff := 0, reconciled := 0
               loadedFlag := true, quality := .tracked, reachable := (reachableRun r.tUse stack).1, full := y.full
               charging := y.charging, drawing := y.drawing }) ∧
            (∀ d, d ≠ st → StoreKept d s t) ∧ (∀ c, CavernKept c s t) ∧ t.pen.generation = s.pen.generation + 1 ∧
            t.sbk = { s.sbk with slots := t.sbk.slots, ring := [] } ∧ SlotsKept s t ∧ PlantFrame p s t)

/-- O20. SET STORE replaces the configuration and keeps the parcels (R48, R54, R56, R94). At a ready port SET STORE of
an unknown store, with fields out of range or order or a capacity below the content, is refused RANGE, and with
another T_base than the one in force over parcels STATE, and nothing changes; otherwise it replaces the six fields
(a margin of 0 selecting 2) and answers DONE; of that store only reachable heat, FULL and attached trains may
follow, so that stack, counters, quality and loaded flag stay; the reachable heat is that of the run of usable
parcels where the trap is disabled, and FULL stays only below the margin; in SERVICE a recheck request is posted;
the other store and the caverns differ at most in attached trains, the book in SHORT marks, and the trains in what
stops, splits and grants write. -/
def Obligations.SetStoreEffect : Prop :=
  ∀ p s b cap tb ts tu tol mg, Ready p s →
    (storeOf b = none → AnswersOnly (.setStore p b cap tb ts tu tol mg) p (.bare .range) s) ∧
    ∀ st, storeOf b = some st →
      let fit := storeFieldsFit (s.store st).content cap.toNat tb.toNat ts.toNat tu.toNat tol.toNat mg.toNat
      (fit = false → AnswersOnly (.setStore p b cap tb ts tu tol mg) p (.bare .range) s) ∧
      (fit = true → (s.store st).stack ≠ [] → tb.toNat ≠ (s.store st).tBase →
        AnswersOnly (.setStore p b cap tb ts tu tol mg) p (.bare .state) s) ∧
      (fit = true → ((s.store st).stack = [] ∨ tb.toNat = (s.store st).tBase) →
        ∃ t, exec (.setStore p b cap tb ts tu tol mg) s = .next t ∧ Answers p (.bare .done) t ∧
          (let x := t.store st
           x = { s.store st with
             configured := true, capacity := cap.toNat, tBase := tb.toNat, tSpent := ts.toNat, tUse := tu.toNat
             tol := tol.toNat, margin := if mg = 0 then 2 else mg.toNat, reachable := x.reachable, full := x.full
             charging := x.charging, drawing := x.drawing } ∧
           (s.arith.trap = false → x.reachable = (reachableRun tu.toNat (s.store st).stack).1) ∧
           x.full = ((s.store st).full && decide (x.free * 100 < x.capacity * x.margin))) ∧
          (s.svc.part = .service → RecheckPosted s t) ∧
          (∀ d, d ≠ st → StoreKept d s t) ∧ (∀ c, CavernKept c s t) ∧ BookKept s t ∧ PlantFrame p s t)

/-- O21. SET TIME in CONFIG rebuilds the window, and outside CONFIG moves the time by at most 2 s (R74, R83). At a ready
T-port SET TIME in CONFIG sets plant seconds to any value, sets the time-set flag, empties the ring and makes the
interval of the value current with no slot other than EMPTY; in SERVICE or PARKED a value within 2 s and not in an
earlier interval becomes plant seconds, and a boundary is due exactly when the interval number rises; both first
take the work that earlier advances left due (log 6), and where nothing is due a value taken in CONFIG changes only
the clock, the book and the dispatch view, and one taken later only the clock; any other value is refused STATE with
nothing changed but the moment shown (log 5). -/
def Obligations.SetTimeEffect : Prop :=
  ∀ s v now, Ready .t s →
    (s.svc.part = .config → ∃ t, exec (.setTime .t v now) s = .next t ∧ Answers .t (.bare .done) t ∧
      t.pck.seconds = v.toNat ∧ t.pck.timeSet = true ∧ t.pck.lastAdvance = max s.pck.moment now ∧
      t.sbk.current = v.toNat / 900 ∧ t.sbk.ring = [] ∧ t.sbk.unscheduled = 0 ∧
      (∀ x, x ∈ t.sbk.slots → x.state = .empty) ∧ t.dsu.view.current = v.toNat / 900 ∧ t.dsu.view.active = none ∧
      t.svc = s.svc ∧ t.pins = s.pins ∧ t.pck.holdover = s.pck.holdover ∧
      (NothingDue s → OtherPorts .t s t ∧ t = { s with
        spi := t.spi, pck := t.pck, sbk := t.sbk, dsu := { s.dsu with view := t.dsu.view } })) ∧
    (s.svc.part ≠ .config → v.toNat ≤ s.pck.seconds + 2 → s.pck.seconds ≤ v.toNat + 2 →
      s.pck.seconds / 900 ≤ v.toNat / 900 → ∃ t, exec (.setTime .t v now) s = .next t ∧ Answers .t (.bare .done) t ∧
      t.pck.seconds = v.toNat ∧ t.pck.lastAdvance = max s.pck.moment now ∧ t.pck.holdover = s.pck.holdover ∧
      t.svc = s.svc ∧ t.pins = s.pins ∧ (t.pck.boundaryDue = true ↔ s.pck.seconds / 900 < v.toNat / 900) ∧
      (NothingDue s → OtherPorts .t s t ∧ t = { s with spi := t.spi, pck := t.pck })) ∧
    (s.svc.part ≠ .config → (s.pck.seconds + 2 < v.toNat ∨ v.toNat + 2 < s.pck.seconds ∨
      v.toNat / 900 < s.pck.seconds / 900) → ∃ t, exec (.setTime .t v now) s = .next t ∧
      Answers .t (.bare .state) t ∧ OtherPorts .t s t ∧
      t = { s with spi := t.spi, pck := { s.pck with moment := max s.pck.moment now } })

/-- O22. SET ARITH MODE takes all five settings, and in SERVICE refuses a change of mode (R23, R30, R56, R20, R94). At a
ready port a known mode, equal to the mode in force where the part is in SERVICE, is taken with the four settings
and answered DONE; that bits 4 to 7 of the settings byte are disregarded is the model's reading (log 25). Of the
caverns only limits, budget, estimate, conditions and attached set, and of the stores only reachable heat and
attached trains, may follow. In a configured cavern with a temperature to convert at, a changed mode gives raw
masses A2 and the rate budget A4 in the new mode and leaves the estimate; turning the trap off gives every figure
that was absent or kept, the estimate too; the conditions follow from the figures. Turning the trap off evaluates
the reachable heat of both stores; with the mode and the trap left on or off no figure changes. A changed mode posts
a recheck request outside CONFIG; in SERVICE another mode is refused STATE, and an unknown code RANGE, with nothing
changed. -/
def Obligations.SetArithModeEffect : Prop :=
  ∀ p s b k, Ready p s →
    (∀ m, modeOf b = some m → (s.svc.part = .service → m = s.arith.mode) →
      ∃ t, exec (.setArithMode p b k) s = .next t ∧ Answers p (.bare .done) t ∧
        t.arith = { s.arith with
          mode := m, trap := k.getLsbD 0, overflowNotice := k.getLsbD 1, underflowNotice := k.getLsbD 2
          inhibit := k.getLsbD 3, sticky := t.arith.sticky, capture := t.arith.capture } ∧
        (∀ c, let x := t.cavern c
          x = { s.cavern c with
            estimate := x.estimate, limits := x.limits, budget := x.budget, attached := x.attached
            inReserve := x.inReserve, atCeiling := x.atCeiling, rateHold := x.rateHold, keptLimits := x.keptLimits
            keptBudget := x.keptBudget, keptEstimate := x.keptEstimate }) ∧
        (∀ st, let x := t.store st
          x = { s.store st with reachable := x.reachable, charging := x.charging, drawing := x.drawing }) ∧
        (m = s.arith.mode → (s.arith.trap = false ∨ k.getLsbD 0 = true) →
          (∀ c, t.cavern c = s.cavern c) ∧ ∀ st, t.store st = s.store st) ∧
        (∀ c T, (s.cavern c).configured = true → ((s.cavern c).lastTemp = some T ∨
            ((s.cavern c).lastTemp = none ∧ k.getLsbD 0 = false ∧ T = (s.cavern c).refTemp)) → ArithReworked m
          (m != s.arith.mode) (s.arith.trap && !k.getLsbD 0) T (s.cavern c) (t.cavern c)) ∧
        (∀ st, (t.store st).reachable = (if s.arith.trap && !k.getLsbD 0 then
          (reachableRun (s.store st).tUse (s.store st).stack).1 else (s.store st).reachable)) ∧
        (m ≠ s.arith.mode → s.svc.part ≠ .config → RecheckPosted s t) ∧
        BookKept s t ∧ (∀ tr, TrainKept tr s t) ∧ EngineKept s t ∧ EventsOnlyJoin s t ∧ OtherPorts p s t ∧
        t.svc = s.svc ∧ t.pck = s.pck ∧ t.ilr = s.ilr ∧ t.pins = s.pins) ∧
    (∀ m, modeOf b = some m → s.svc.part = .service → m ≠ s.arith.mode →
      AnswersOnly (.setArithMode p b k) p (.bare .state) s) ∧
    (modeOf b = none → AnswersOnly (.setArithMode p b k) p (.bare .range) s)

/-- O23. DECLARE READY makes a JOINED port DECLARED, and the third declaration enters SERVICE (R188, R114). At a ready
JOINED port, in SERVICE or PARKED or with every configuration flag set, DECLARE READY makes the port DECLARED, and
the part is then in SERVICE when all three ports are DECLARED and otherwise in its former state; the hold monitor is
evaluated, so that the PORT reason of the port's direction leaves its set, and the engine keeps everything else; in
CONFIG with a flag clear it answers INCOMPLETE with the body, and at a DECLARED port DONE, and changes nothing. -/
def Obligations.DeclareEffect : Prop :=
  ∀ p s, Ready p s →
    (s.presence p = .joined → (s.svc.part ≠ .config ∨ (completeFlags s).all id = true) →
      ∃ t, exec (.declareReady p) s = .next t ∧
        ((∀ q, q ≠ p → s.presence q = .declared) → t.svc = { s.svc with part := .service }) ∧
        (¬(∀ q, q ≠ p → s.presence q = .declared) → t.svc = s.svc) ∧
        Answers p (.done [BitVec.ofNat 8 t.svc.part.code, 3]) t ∧ t.presence p = .declared ∧
        (∀ q, q ≠ p → t.port q = s.port q) ∧ HoldEvaluated s t ∧ t.pen.generation = s.pen.generation ∧
        t.pen.flight = s.pen.flight ∧ t.pen.recheckFlag = s.pen.recheckFlag ∧ EngineKept s t ∧ EventsOnlyJoin s t ∧
        t = { s with spi := t.spi, evr := t.evr, pen := t.pen, svc := t.svc }) ∧
    (s.presence p = .joined → s.svc.part = .config → (completeFlags s).all id = false →
      AnswersOnly (.declareReady p) p { code := .incomplete, body := [1, 2] } s) ∧
    (s.presence p = .declared →
      AnswersOnly (.declareReady p) p (.done [BitVec.ofNat 8 s.svc.part.code, 3]) s)

/-- O24. WITHDRAW lowers a DECLARED port to JOINED, and PARK parks the part (R189, R190, R132, R111, R79, R114, R154,
R173). At a ready DECLARED port WITHDRAW makes the port JOINED with no GRANTED or RUNNING train, and the part PARKED
when it was in SERVICE and no other port is DECLARED, and otherwise in its former state; the T-port's WITHDRAW takes
its walk away. PARK in SERVICE makes the part PARKED with no port DECLARED, no GRANTED or RUNNING permit, every
target 0, no next order and no T-port walk, which is answered STATE where another port sent the PARK; of the other
train ports it clears the stream flag, and only a port that leaves DECLARED loses a streamed report still being
collected. Where the T-port leaves DECLARED, and at PARK, every OFFERED slot becomes EMPTY with its next sequence
and its defaults, every other slot keeps its record, and the current interval, the unscheduled delivery, the ring
and the limit code stay; both commands evaluate the hold monitor, and neither changes an inventory or the clock.
WITHDRAW from a port that is not DECLARED, and PARK from such a port or outside SERVICE, are refused STATE and
change nothing. That a streamed report still being collected is discarded at a port that PARK lowers, against the
table of R173, is the model's reading (log 52). -/
def Obligations.WithdrawAndPark : Prop :=
  ∀ p s, Ready p s →
    (s.presence p = .declared → ∃ t, exec (.withdraw p) s = .next t ∧ t.presence p = .joined ∧
      (∀ q, q ≠ p → t.presence q = s.presence q) ∧ Answers p (.done [BitVec.ofNat 8 t.svc.part.code, 2]) t ∧
      ((s.svc.part = .service ∧ ∀ q, q ≠ p → s.presence q ≠ .declared) → t.svc = { s.svc with part := .parked }) ∧
      (¬(s.svc.part = .service ∧ ∀ q, q ≠ p → s.presence q ≠ .declared) → t.svc = s.svc) ∧
      (∀ tr, tr.owner = p → (t.train tr).permit ≠ .granted ∧ (t.train tr).permit ≠ .running) ∧
      HoldEvaluated s t ∧
      (p = .t → t.pen.waiting = none ∧ (t.pen.flight.bind Flight.request) = none ∧ OffersEmptied s t) ∧
      (p ≠ .t → SlotsKept s t) ∧ t.pen.lastLimit = s.pen.lastLimit ∧ t.sbk = { s.sbk with slots := t.sbk.slots } ∧
      (∀ tr, TrainKept tr s t) ∧ EventsOnlyJoin s t ∧ OtherPorts p s t ∧
      t = { s with spi := t.spi, evr := t.evr, sbk := t.sbk, dsu := t.dsu, pen := t.pen, svc := t.svc }) ∧
    (s.presence p = .declared → s.svc.part = .service → ∃ t, exec (.park p) s = .next t ∧
      t.svc = { s.svc with part := .parked } ∧ Answers p (.done [3, 2]) t ∧ (∀ q, t.presence q ≠ .declared) ∧
      HoldEvaluated s t ∧
      (∀ tr, (t.train tr).permit ≠ .granted ∧ (t.train tr).permit ≠ .running ∧ (t.train tr).nextOrder = none ∧
        (t.train tr).order.target = 0) ∧
      t.pen.waiting = none ∧ (t.pen.flight.bind Flight.request) = none ∧ OffersEmptied s t ∧
      (p ≠ .t → s.pen.request.isSome = true → Answers .t (.bare .state) t) ∧ t.pen.lastLimit = s.pen.lastLimit ∧
      (∀ q, q ≠ p → q ≠ .t → s.presence q ≠ .declared → t.port q = { s.port q with stream := false }) ∧
      (∀ q, q ≠ p → q ≠ .t → s.presence q = .declared →
        let partial' : Bool := (s.port q).streamed && (s.port q).phase == .command
        t.port q = { s.port q with
          presence := .joined, stream := false
          streamed := if partial' then false else (s.port q).streamed
          phase := if partial' then .idle else (s.port q).phase
          collected := if partial' then [] else (s.port q).collected }) ∧
      (∀ tr, TrainKept tr s t) ∧ EventsOnlyJoin s t ∧ t.sbk = { s.sbk with slots := t.sbk.slots } ∧
      t = { s with spi := t.spi, evr := t.evr, sbk := t.sbk, dsu := t.dsu, pen := t.pen, svc := t.svc }) ∧
    (s.presence p ≠ .declared → AnswersOnly (.withdraw p) p (.bare .state) s) ∧
    (s.presence p ≠ .declared ∨ s.svc.part ≠ .service → AnswersOnly (.park p) p (.bare .state) s)

/-- O25. REQUEST RUN grants a train or queues it (R120, R121, R122, R123, R133, R134, R142). A cavern and a store are
found exactly where one of each meets the checks of the train's kind and its preference, and those found come before
every other that does: the cavern by flow state, then by usable air or room, then CV1, the store by reachable heat
or free capacity, then HS-A. At its ready, DECLARED owner port in SERVICE, a train that is OFF, admitted and able is
granted when a cavern and a store are found, with the attachment in train, cavern and store, report timing from the
grant, every order at the split's target, and the GRANTED answer; that every train's order, whatever its permit,
takes its ramp limit is the model's reading of R134 (log 15); otherwise the train joins the tail of the permit
request queue with its preferences and the answer QUEUED; no mass, heat or clock changes. -/
def Obligations.RequestRunEffect : Prop :=
  (∀ s tr cp sp,
      (chooseResources s tr ⟨cp, sp⟩ = none ↔ (∀ c, ¬CavernFits s tr cp c) ∨ ∀ st, ¬StoreFits s tr sp st) ∧
      ∀ a, chooseResources s tr ⟨cp, sp⟩ = some a →
        CavernFits s tr cp a.cavern ∧ (∀ c, c ≠ a.cavern → CavernFits s tr cp c → CavernBefore s tr a.cavern c) ∧
        StoreFits s tr sp a.store ∧ ∀ st, st ≠ a.store → StoreFits s tr sp st → StoreBefore s tr a.store st) ∧
    ∀ p s b cb sb tr cp sp, Ready p s → trainOf b = some tr → tr.owner = p → cavernPref cb = some cp →
    storePref sb = some sp → s.svc.part = .service → s.presence p = .declared → (s.train tr).permit = .off →
    s.dsu.view.admits tr = true → (s.train tr).able = true →
    (∀ a, chooseResources s tr ⟨cp, sp⟩ = some a → ∃ t, exec (.requestRun p b cb sb) s = .next t ∧
      Answers p { code := .done, granted := true
                  body := [BitVec.ofNat 8 (cavernNumber a.cavern), BitVec.ofNat 8 (storeNumber a.store), 0] } t ∧
      (t.train tr).permit = .granted ∧ (t.train tr).attachment = some a ∧ (t.train tr).prefs = none ∧
      (t.train tr).silence = 0 ∧ (t.train tr).timing = .onTime ∧ (t.train tr).reference = some s.pck.seconds ∧
      tr ∈ (t.cavern a.cavern).attached ∧
      (if tr.expands then tr ∈ (t.store a.store).drawing else (t.store a.store).charging = some tr) ∧
      t.dsu.queue = s.dsu.queue ∧ t.dsu.view = s.dsu.view ∧
      (∀ u, u ≠ tr → (t.train u).permit = (s.train u).permit ∧ (t.train u).attachment = (s.train u).attachment) ∧
      (∀ u, (t.train u).order.target = t.splitPlan.target u ∧ (t.train u).order.ramp = (t.train u).rampLimit) ∧
      (∀ c, CavernKept c s t) ∧ (∀ st, StoreKept st s t) ∧ BookKept s t ∧ (∀ u, TrainKept u s t) ∧
      EventsOnlyJoin s t ∧ OtherPorts p s t ∧
      t = { s with spi := t.spi, evr := t.evr, ciu := t.ciu, hsu := t.hsu, sbk := t.sbk, dsu := t.dsu }) ∧
    (chooseResources s tr ⟨cp, sp⟩ = none → ∃ t, exec (.requestRun p b cb sb) s = .next t ∧
      Answers p { code := .queued, body := [0, 0, BitVec.ofNat 8 (queuePosition (s.dsu.queue ++ [tr]) tr)] } t ∧
      t.dsu.queue = s.dsu.queue ++ [tr] ∧
      t.train tr = { s.train tr with permit := .queued, prefs := some ⟨cp, sp⟩ } ∧
      (∀ u, u ≠ tr → t.train u = s.train u) ∧ t = { s with spi := t.spi, dsu := t.dsu })

/-- O26. The refusals of REQUEST RUN and of RUN REPORT in their order (R120, R144, R145, R154). At a ready port, for
REQUEST RUN an unknown train or preference is RANGE, a foreign port PORT, a part not in SERVICE or a port not
DECLARED or a permit not OFF STATE, a direction not admitted WRONG_DIRECTION, and an unable train STATE, each with
nothing changed but the port's interface. A run report of an unknown train is RANGE and of a foreign port PORT, and
leaves the stream-mode flag clear; from the owner port an unknown condition or outlet validity code is RANGE; with
known codes, of a train that is OFF, QUEUED or TRIPPED, it is answered NOT_RUNNING with permit and cause, and
nothing but the port changes except that air above 0 raises UNPERMITTED FLOW; once train and port have passed a mode
byte 0x5C sets the flag of a refused report too. -/
def Obligations.PermitRefusals : Prop :=
  (∀ p s b cb sb, Ready p s →
    ((trainOf b = none ∨ cavernPref cb = none ∨ storePref sb = none) →
      AnswersOnly (.requestRun p b cb sb) p (.bare .range) s) ∧
    ∀ tr cp sp, trainOf b = some tr → cavernPref cb = some cp → storePref sb = some sp →
      (tr.owner ≠ p → AnswersOnly (.requestRun p b cb sb) p (.bare .port) s) ∧
      (tr.owner = p → (s.svc.part ≠ .service ∨ s.presence p ≠ .declared ∨ (s.train tr).permit ≠ .off) →
        AnswersOnly (.requestRun p b cb sb) p (.bare .state) s) ∧
      (tr.owner = p → s.svc.part = .service → s.presence p = .declared → (s.train tr).permit = .off →
        (s.dsu.view.admits tr = false → AnswersOnly (.requestRun p b cb sb) p (.bare .wrongDirection) s) ∧
        (s.dsu.view.admits tr = true → (s.train tr).able = false →
          AnswersOnly (.requestRun p b cb sb) p (.bare .state) s))) ∧
    ∀ p s b power energy air heat outlet validity condition mode, Ready p s →
    let report := Instr.runReport p b power energy air heat outlet validity condition mode
    (trainOf b = none → ∃ t, exec report s = .next t ∧ Answers p (.bare .range) t ∧ OnlyPort p s t ∧
      (t.port p).stream = false) ∧
    ∀ tr, trainOf b = some tr →
      (tr.owner ≠ p → ∃ t, exec report s = .next t ∧ Answers p (.bare .port) t ∧ OnlyPort p s t ∧
        (t.port p).stream = false) ∧
      (tr.owner = p → (conditionOf condition = none ∨ outletMarkOf validity = none) →
        ∃ t, exec report s = .next t ∧ Answers p (.bare .range) t ∧ OnlyPort p s t ∧
          (t.port p).stream = (mode == 0x5C)) ∧
      ∀ r, tr.owner = p → ReportFields.report ⟨power, energy, air, heat, outlet, validity, condition, mode⟩ = some r →
        (s.train tr).permit.attached = false →
        ∃ t, exec report s = .next t ∧
          Answers p { code := .notRunning, body := [BitVec.ofNat 8 (s.train tr).permit.code,
            BitVec.ofNat 8 (((s.train tr).cause.map TripCause.code).getD 0)] } t ∧
          t = { s with spi := t.spi, evr := t.evr } ∧ OtherPorts p s t ∧
          (t.port p).stream = (mode == 0x5C) ∧
          t.evr = (if air.toNat = 0 then s.evr
            else (emit .unpermittedFlow .alert (.train tr) air.toNat (s.train tr).permit.code s).evr)

/-- O27. RELEASE acts by the permit (R127, R123, R133, R134). At a ready port RELEASE of an unknown train is refused
RANGE and of a foreign port's train PORT. At its owner port, in a state whose permit queue matches its permits,
RELEASE makes a QUEUED train OFF, takes it out of the queue and runs the split, so that every order has the split's
target; it makes a GRANTED train OFF without an attachment, and a RUNNING train STOPPING with target 0 and no next
order and its attachment kept; any other permit is refused STATE and nothing changes. That the split gives every
train its ramp limit, whatever its permit, is the model's reading of R134 (log 15). -/
def Obligations.ReleaseEffect : Prop :=
  ∀ p s b, Ready p s →
    (trainOf b = none → AnswersOnly (.release p b) p (.bare .range) s) ∧
    ∀ tr, trainOf b = some tr →
      (tr.owner ≠ p → AnswersOnly (.release p b) p (.bare .port) s) ∧
      (tr.owner = p → QueueMatchesPermits s →
        ((s.train tr).permit = .queued → ∃ t, exec (.release p b) s = .next t ∧ Answers p (.bare .done) t ∧
          (t.train tr).permit = .off ∧ (t.train tr).prefs = none ∧
          t.dsu.queue = s.dsu.queue.filter (fun x => x ≠ tr) ∧ t.dsu.view = s.dsu.view ∧
          (∀ u, u ≠ tr → (t.train u).permit = (s.train u).permit ∧ (t.train u).prefs = (s.train u).prefs) ∧
          (∀ u, (t.train u).attachment = (s.train u).attachment ∧
            (t.train u).order.target = t.splitPlan.target u ∧ (t.train u).order.ramp = (t.train u).rampLimit) ∧
          (∀ u, TrainKept u s t) ∧ BookKept s t ∧ EventsOnlyJoin s t ∧ OtherPorts p s t ∧
          t = { s with spi := t.spi, evr := t.evr, sbk := t.sbk, dsu := t.dsu }) ∧
        ((s.train tr).permit = .granted → ∃ t, exec (.release p b) s = .next t ∧ Answers p (.bare .done) t ∧
          (t.train tr).permit = .off ∧ (t.train tr).attachment = none ∧ (t.train tr).order.target = 0 ∧
          (∀ c, (t.cavern c).mass = (s.cavern c).mass) ∧ (∀ u, TrainKept u s t) ∧ EventsOnlyJoin s t ∧
          OtherPorts p s t ∧
          t = { s with
              spi := t.spi, evr := t.evr, ciu := t.ciu, hsu := t.hsu, sbk := t.sbk, dsu := t.dsu, pen := t.pen }) ∧
        ((s.train tr).permit = .running → ∃ t, exec (.release p b) s = .next t ∧ Answers p (.bare .done) t ∧
          (t.train tr).permit = .stopping ∧ (t.train tr).order.target = 0 ∧ (t.train tr).order.held = false ∧
          (t.train tr).nextOrder = none ∧ (t.train tr).attachment = (s.train tr).attachment ∧
          t.dsu.queue = s.dsu.queue ∧
          (∀ u, u ≠ tr → (t.train u).permit = (s.train u).permit) ∧ (∀ u, TrainKept u s t) ∧ BookKept s t ∧
          EventsOnlyJoin s t ∧ OtherPorts p s t ∧
          t = { s with spi := t.spi, evr := t.evr, sbk := t.sbk, dsu := t.dsu }) ∧
        (((s.train tr).permit = .off ∨ (s.train tr).permit = .stopping ∨ (s.train tr).permit = .tripped) →
          AnswersOnly (.release p b) p (.bare .state) s))

/-- O28. An accepted run report is applied to cavern, store, book and dispatch unit in turn (R144, R147, R148, R32, R38,
R52, R53, R57, R58, R85, R126, R138). At its ready owner port, in a state whose permit queue matches its permits, a
report with known codes, of a train whose permit is attached to a cavern and a store, is accepted: the silence count
is 0, the timing ON_TIME, the reference moment the plant seconds; the interval totals and the last report take the
clamped figures; the attached cavern's mass moves by the clamped air, saturated, and its budget spent takes the air;
the attached store takes a charging train's heat (deposited, its excess written off, a parcel opened over a merge,
FULL) or a drawing train's air as a draw (with SHORT, or abandoned at an UNKNOWN parcel under the trap); the other
cavern and store differ at most in attached trains; an ACTIVE current slot takes the signed clamped energy and
closes its integration; the Dispatch Unit then takes the report (totals and last report, a trip on NOT_READY or
TRIPPED, PERMIT ENDED of a STOPPING train without flow, RUNNING at the first flow, and the settle check with its
derate); the answer is DONE with CLAMPED where a figure was clamped; a mode byte 0x5C sets the stream-mode flag.
What a deposit capped to nothing does to a parcel at a valid outlet temperature is the model's reading (log 17). -/
def Obligations.RunReportEffect : Prop :=
  (∀ tr y u, QueueMatchesPermits u → (u.train tr).permit.attached = true →
      ReportDispatched tr y u (reportDispatch tr y u)) ∧
    ∀ p s b tr a r power energy air heat outlet validity condition mode, Ready p s → QueueMatchesPermits s →
    trainOf b = some tr → tr.owner = p → (s.train tr).permit.attached = true → (s.train tr).attachment = some a →
    ReportFields.report ⟨power, energy, air, heat, outlet, validity, condition, mode⟩ = some r →
    let l := reportLimits (s.train tr) s.svc.figures.qc r.air
    let y := r.clamped tr l
    let signed : Int := if tr.expands then y.energy else -(y.energy : Int)
    ∃ t, exec (.runReport p b power energy air heat outlet validity condition mode) s = .next t ∧
      Answers p { code := .done, clamped := r.clampBits tr l != 0, body := reportBody (t.train tr) } t ∧
      (t.train tr).silence = 0 ∧ (t.train tr).timing = .onTime ∧ (t.train tr).reference = some s.pck.seconds ∧
      (t.train tr).last = some ⟨y.power, y.condition⟩ ∧
      (t.train tr).totalAir = min 4294967295 ((s.train tr).totalAir + y.air) ∧
      (t.train tr).totalHeat = min 4294967295 ((s.train tr).totalHeat + y.heat) ∧
      (t.train tr).totalEnergy = min 4294967295 ((s.train tr).totalEnergy + y.energy) ∧
      (t.cavern a.cavern).mass = (if y.air = 0 then (s.cavern a.cavern).mass
        else min 100000000 (if tr.expands then (s.cavern a.cavern).mass - y.air
          else (s.cavern a.cavern).mass + y.air)) ∧
      (t.cavern a.cavern).spent = (if y.air = 0 then (s.cavern a.cavern).spent
        else min 2147483647 ((s.cavern a.cavern).spent + y.air)) ∧
      (∀ c, c ≠ a.cavern → CavernKept c s t) ∧ (∀ st, st ≠ a.store → StoreKept st s t) ∧
      (∃ u, ReportBooked tr a y s u ∧ t = { reportDispatch tr y u with spi := t.spi }) ∧
      (∀ v, s.sbk.slots.length = 96 → (s.slot s.sbk.current).state = .active →
        (s.slot s.sbk.current).activity = some v →
        (t.slot s.sbk.current).activity = some ⟨v.reserve,
          (saturateEnergy (v.energy + reserveEnergy v.reserve (s.pck.seconds - v.mark))).val,
          (saturateEnergy (v.delivered + signed)).val, s.pck.seconds⟩) ∧
      t.sbk.ring = s.sbk.ring ∧ t.sbk.current = s.sbk.current ∧ EngineKept s t ∧ ArithKept s t ∧ EventsOnlyJoin s t ∧
      (∀ u, u ≠ tr → TrainKept u s t) ∧ (t.port p).stream = (mode == 0x5C) ∧ OtherPorts p s t ∧
      t = { s with spi := t.spi, evr := t.evr, ciu := t.ciu, hsu := t.hsu, sbk := t.sbk, dsu := t.dsu
                   arith := t.arith, pen := t.pen }

/-- O29. A streamed report is applied as a run report and answered with one byte (R155, R156, R144, R145, R148, R32,
R38, R57, R85, R86, R126). At a streaming port, in a state whose permit queue matches its permits, a streamed report
with known codes, of a train the port owns whose permit is attached to a cavern and a store, is applied: silence
count 0, ON_TIME, last report clamped, interval totals, the cavern's mass and budget spent, the energy of an ACTIVE
current slot or of the unscheduled delivery, and the store, the book and the dispatch unit as for a run report; the
answer is the one byte of DONE with CLAMPED in bit 7; a mode byte 0xC5 clears the flag and any other leaves it set.
With an unknown condition or validity code the answer is the one byte of RANGE and only the port changes; of a train
that is OFF, QUEUED or TRIPPED it is the one byte of NOT_RUNNING, and only UNPERMITTED FLOW joins the queues where
the report states air; the mode byte acts as before. What a deposit capped to nothing does to a parcel at a valid
outlet temperature is the model's reading (log 17). -/
def Obligations.StreamedReportEffect : Prop :=
  (∀ p s b tr a r power energy air heat outlet validity condition mode, Streaming p s → QueueMatchesPermits s →
    trainOf b = some tr → tr.owner = p → (s.train tr).permit.attached = true → (s.train tr).attachment = some a →
    ReportFields.report ⟨power, energy, air, heat, outlet, validity, condition, mode⟩ = some r →
    let l := reportLimits (s.train tr) s.svc.figures.qc r.air
    let y := r.clamped tr l
    ∃ t, exec (.streamedReport p b power energy air heat outlet validity condition mode) s = .next t ∧
      (t.port p).phase = .result ∧ (t.port p).result = [if r.clampBits tr l = 0 then 0x00 else 0x80] ∧
      (t.train tr).silence = 0 ∧ (t.train tr).timing = .onTime ∧ (t.train tr).reference = some s.pck.seconds ∧
      (t.train tr).last = some ⟨y.power, y.condition⟩ ∧
      (t.cavern a.cavern).mass = (if y.air = 0 then (s.cavern a.cavern).mass
        else min 100000000 (if tr.expands then (s.cavern a.cavern).mass - y.air
          else (s.cavern a.cavern).mass + y.air)) ∧
      (t.cavern a.cavern).spent = (if y.air = 0 then (s.cavern a.cavern).spent
        else min 2147483647 ((s.cavern a.cavern).spent + y.air)) ∧
      (t.train tr).totalAir = min 4294967295 ((s.train tr).totalAir + y.air) ∧
      (t.train tr).totalHeat = min 4294967295 ((s.train tr).totalHeat + y.heat) ∧
      (t.train tr).totalEnergy = min 4294967295 ((s.train tr).totalEnergy + y.energy) ∧
      EnergyTaken (if tr.expands then (y.energy : Int) else -(y.energy : Int)) s t ∧
      (∀ c, c ≠ a.cavern → CavernKept c s t) ∧ (∀ st, st ≠ a.store → StoreKept st s t) ∧
      (∃ u, ReportBooked tr a y s u ∧ t = { reportDispatch tr y u with spi := t.spi }) ∧
      (t.port p).stream = (mode != 0xC5) ∧ EngineKept s t ∧ ArithKept s t ∧ EventsOnlyJoin s t ∧
      (∀ u, u ≠ tr → TrainKept u s t) ∧ OtherPorts p s t ∧
      t = { s with spi := t.spi, evr := t.evr, ciu := t.ciu, hsu := t.hsu, sbk := t.sbk, dsu := t.dsu
                   arith := t.arith, pen := t.pen }) ∧
    ∀ p s b tr power energy air heat outlet validity condition mode, Streaming p s → trainOf b = some tr →
    tr.owner = p →
    let report := Instr.streamedReport p b power energy air heat outlet validity condition mode
    ((conditionOf condition = none ∨ outletMarkOf validity = none) → ∃ t, exec report s = .next t ∧
      (t.port p).phase = .result ∧ (t.port p).result = [5] ∧ (t.port p).read = 0 ∧
      (t.port p).stream = (mode != 0xC5) ∧ OnlyPort p s t) ∧
    ∀ r, ReportFields.report ⟨power, energy, air, heat, outlet, validity, condition, mode⟩ = some r →
      (s.train tr).permit.attached = false → ∃ t, exec report s = .next t ∧
      (t.port p).phase = .result ∧ (t.port p).result = [16] ∧ (t.port p).read = 0 ∧
      (t.port p).stream = (mode != 0xC5) ∧ OtherPorts p s t ∧ t = { s with spi := t.spi, evr := t.evr } ∧
      t.evr = (if air.toNat = 0 then s.evr
        else (emit .unpermittedFlow .alert (.train tr) air.toNat (s.train tr).permit.code s).evr)

/-- O30. CLEAR TRIP makes a TRIPPED train OFF, and CLEAR DERATE restores the rated capability (R129, R139, R94, R95,
R133). At its ready owner port CLEAR TRIP of a TRIPPED train makes it OFF with its cause absent, and CLEAR DERATE of
a derated train sets its capability to the rated figure, clears the flag and runs the split; each moves the
generation number by one, posts a recheck outside CONFIG and answers DONE; otherwise they are refused STATE and
change nothing; an unknown train is RANGE and a foreign port PORT. -/
def Obligations.ClearTripAndDerate : Prop :=
  ∀ p s b, Ready p s →
    (trainOf b = none → AnswersOnly (.clearTrip p b) p (.bare .range) s ∧
      AnswersOnly (.clearDerate p b) p (.bare .range) s) ∧
    ∀ tr, trainOf b = some tr →
      (tr.owner ≠ p → AnswersOnly (.clearTrip p b) p (.bare .port) s ∧
        AnswersOnly (.clearDerate p b) p (.bare .port) s) ∧
      (tr.owner = p →
        ((s.train tr).permit = .tripped → ∃ t, exec (.clearTrip p b) s = .next t ∧ Answers p (.bare .done) t ∧
          t.train tr = { s.train tr with permit := .off, cause := none } ∧ (∀ u, u ≠ tr → t.train u = s.train u) ∧
          t.pen.generation = s.pen.generation + 1 ∧ EngineKept s t ∧ (s.svc.part ≠ .config → RecheckPosted s t) ∧
          (s.svc.part = .config → t.pen = { s.pen with generation := t.pen.generation }) ∧
          t.pen.genHold = s.pen.genHold ∧
          t.pen.chgHold = s.pen.chgHold ∧
          t = { s with spi := t.spi, dsu := t.dsu, pen := t.pen }) ∧
        ((s.train tr).permit ≠ .tripped → AnswersOnly (.clearTrip p b) p (.bare .state) s) ∧
        ((s.train tr).derated = true → ∃ t, exec (.clearDerate p b) s = .next t ∧ Answers p (.bare .done) t ∧
          (t.train tr).cap = (s.train tr).rated ∧ (t.train tr).derated = false ∧
          t.pen.generation = s.pen.generation + 1 ∧ EngineKept s t ∧ (s.svc.part ≠ .config → RecheckPosted s t) ∧
          (s.svc.part = .config → t.pen = { s.pen with generation := t.pen.generation }) ∧
          t.pen.genHold = s.pen.genHold ∧
          t.pen.chgHold = s.pen.chgHold ∧
          (∀ u, (t.train u).permit = (s.train u).permit ∧ (t.train u).attachment = (s.train u).attachment ∧
            (t.train u).order.target = t.splitPlan.target u) ∧ (∀ u, u ≠ tr → TrainKept u s t) ∧ BookKept s t ∧
          EventsOnlyJoin s t ∧ OtherPorts p s t ∧
          t = { s with spi := t.spi, evr := t.evr, sbk := t.sbk, dsu := t.dsu, pen := t.pen }) ∧
        ((s.train tr).derated = false → AnswersOnly (.clearDerate p b) p (.bare .state) s))

/-- O31. DISCARD TOP removes parcel 0 and writes its heat off (R65, R66, R56, R94). At a ready C-port or E-port DISCARD
TOP of a configured IDLE store with parcels removes parcel 0, adds its heat to written-off, posts a recheck request
outside CONFIG, and answers DONE; of that store only reachable heat, FULL and attached trains may follow, the
reachable heat being that of the run left where the trap is disabled, and the other store and the caverns differ at
most in attached trains; otherwise it is refused STATE or RANGE and nothing changes. -/
def Obligations.DiscardTopEffect : Prop :=
  ∀ p s b, Ready p s → p ≠ .t →
    (storeOf b = none → AnswersOnly (.discardTop p b) p (.bare .range) s) ∧
    ∀ st, storeOf b = some st →
      (((s.store st).configured = false ∨ (s.store st).flow ≠ .idle ∨ (s.store st).stack = []) →
        AnswersOnly (.discardTop p b) p (.bare .state) s) ∧
      ∀ x rest, (s.store st).configured = true → (s.store st).flow = .idle → (s.store st).stack = x :: rest →
        ∃ t, exec (.discardTop p b) s = .next t ∧ Answers p (.bare .done) t ∧ (let y := t.store st
           y = { s.store st with
             stack := rest, writtenOff := (saturateCounter ((s.store st).writtenOff + x.heat)).val
             reachable := y.reachable, full := y.full, charging := y.charging, drawing := y.drawing } ∧
           (s.arith.trap = false → y.reachable = (reachableRun y.tUse rest).1)) ∧
          (∀ d, d ≠ st → StoreKept d s t) ∧ (∀ c, CavernKept c s t) ∧ BookKept s t ∧
          (s.svc.part ≠ .config → RecheckPosted s t) ∧ PlantFrame p s t

/-- O32. OFFER and CONFIRM are refused in order, or wait for the engine or start their walk (R104, R106, R94, R114,
R176, spec/95_what_each_step_holds.md). At a ready T-port OFFER is refused STATE outside SERVICE or at a port not
DECLARED, RANGE for an interval or a figure out of range, STATE for a slot that is not EMPTY and HELD in a held
direction; CONFIRM of an identified slot is refused STATE outside SERVICE or where the slot is not OFFERED, MISMATCH
where the value is not the held ability, and HELD in a held direction; nothing but the port changes. One that passes
puts the port to EXECUTING with its answer to come: at a busy engine it waits; at a free engine it starts its walk
at once, behind a recheck whose flag is set; nothing else changes. That the base of a started walk is captured at
its WALK_START row is the model's choice (log 7, the WALK_START row of spec/95). -/
def Obligations.OfferAndConfirmWait : Prop :=
  ∀ s, Ready .t s →
    (∀ i n up down ref,
      let served := s.svc.part = .service ∧ s.presence .t = .declared
      let ranged := s.inWindow i.toNat = true ∧ s.sbk.current < i.toNat ∧ -2000000 ≤ n.toInt ∧ n.toInt ≤ 2000000 ∧
        up.toNat ≤ 1000000 ∧ down.toNat ≤ 1000000
      (¬served → AnswersOnly (.offer .t i n up down ref) .t (.bare .state) s) ∧
      (served → ¬ranged → AnswersOnly (.offer .t i n up down ref) .t (.bare .range) s) ∧
      (served → ranged → (s.slot i.toNat).state ≠ .empty →
        AnswersOnly (.offer .t i n up down ref) .t (.bare .state) s) ∧
      (served → ranged → (s.slot i.toNat).state = .empty →
        (heldFor s n.toInt up.toNat down.toNat = true →
          AnswersOnly (.offer .t i n up down ref) .t (.bare .held) s) ∧
        (heldFor s n.toInt up.toNat down.toNat = false →
          ∃ t, exec (.offer .t i n up down ref) s = .next t ∧
          RequestTaken (.offer i.toNat n.toInt up.toNat down.toNat ref) s t))) ∧
    ∀ i seq v, identify i.toNat seq s = .fits →
      let x := s.slot i.toNat
      (s.svc.part ≠ .service ∨ x.state ≠ .offered → AnswersOnly (.confirm .t i seq v) .t (.bare .state) s) ∧
      (s.svc.part = .service → x.state = .offered →
        (x.offer.map Offered.held ≠ some v.toInt → AnswersOnly (.confirm .t i seq v) .t (.bare .mismatch) s) ∧
        (x.offer.map Offered.held = some v.toInt →
          (heldFor s x.power x.up x.down = true → AnswersOnly (.confirm .t i seq v) .t (.bare .held) s) ∧
          (heldFor s x.power x.up x.down = false →
          ∃ t, exec (.confirm .t i seq v) s = .next t ∧ RequestTaken (.confirm i.toNat seq v.toInt) s t)))

/-- O33. A command that names a slot is judged by its window and its sequence first (R80). At a ready T-port CONFIRM,
WITHDRAW OFFER, VOID SLOT and ACTIVATE RESERVE on an interval outside the window k to k+95 are refused RANGE, and on
a slot whose sequence differs from the one carried STALE_SEQUENCE; nothing changes but the port's interface. -/
def Obligations.SlotIdentity : Prop :=
  ∀ s (i v : BitVec 32) (seq : Byte), Ready .t s →
    ((i.toNat < s.sbk.current ∨ s.sbk.current + 96 ≤ i.toNat) →
      AnswersOnly (.confirm .t i seq v) .t (.bare .range) s ∧
      AnswersOnly (.withdrawOffer .t i seq) .t (.bare .range) s ∧
      AnswersOnly (.voidSlot .t i seq) .t (.bare .range) s ∧
      AnswersOnly (.activateReserve .t i seq v) .t (.bare .range) s) ∧
    (s.sbk.current ≤ i.toNat → i.toNat < s.sbk.current + 96 → (s.slot i.toNat).seq ≠ seq →
      AnswersOnly (.confirm .t i seq v) .t (.bare .staleSequence) s ∧
      AnswersOnly (.withdrawOffer .t i seq) .t (.bare .staleSequence) s ∧
      AnswersOnly (.voidSlot .t i seq) .t (.bare .staleSequence) s ∧
      AnswersOnly (.activateReserve .t i seq v) .t (.bare .staleSequence) s)

/-- O34. WITHDRAW OFFER empties an OFFERED slot, and VOID SLOT voids a COMMITTED one (R108, R84, R79, R94, R95). At a
ready T-port, in a book of 96 records, WITHDRAW OFFER of an OFFERED slot makes it EMPTY with its defaults, and VOID
SLOT of a COMMITTED slot makes it VOIDED with AT_RISK clear and N, band and reference kept; the sequence moves by
one and is answered with DONE, the generation number moves by one, every other slot stays, and no inventory changes;
a slot in another state is refused STATE. -/
def Obligations.WithdrawAndVoid : Prop :=
  ∀ s i seq, Ready .t s → s.sbk.slots.length = 96 → identify i.toNat seq s = .fits →
    ((s.slot i.toNat).state = .offered → ∃ t, exec (.withdrawOffer .t i seq) s = .next t ∧
      Answers .t (.done [seq + 1]) t ∧
      t.slot i.toNat = { s.slot i.toNat with
        state := .empty, seq := seq + 1, power := 0, band := none, ref := 0, offer := none } ∧
      (∀ n, n % 96 ≠ i.toNat % 96 → t.slot n = s.slot n) ∧ t.pen.generation = s.pen.generation + 1 ∧
      EngineKept s t ∧ EventsOnlyJoin s t ∧ (∀ tr, TrainKept tr s t) ∧ OtherPorts .t s t ∧
      t.sbk = { s.sbk with slots := t.sbk.slots } ∧
      t = { s with spi := t.spi, evr := t.evr, sbk := t.sbk, dsu := t.dsu, pen := t.pen }) ∧
    ((s.slot i.toNat).state ≠ .offered → AnswersOnly (.withdrawOffer .t i seq) .t (.bare .state) s) ∧
    ((s.slot i.toNat).state = .committed → ∃ t, exec (.voidSlot .t i seq) s = .next t ∧
      Answers .t (.done [seq + 1]) t ∧
      t.slot i.toNat = { s.slot i.toNat with state := .voided, seq := seq + 1, atRisk := false } ∧
      (∀ n, n % 96 ≠ i.toNat % 96 → t.slot n = s.slot n) ∧ t.pen.generation = s.pen.generation + 1 ∧
      (s.svc.part ≠ .config → RecheckPosted s t) ∧ EngineKept s t ∧ EventsOnlyJoin s t ∧ (∀ tr, TrainKept tr s t) ∧
      OtherPorts .t s t ∧
      t.sbk = { s.sbk with slots := t.sbk.slots } ∧
      t = { s with spi := t.spi, evr := t.evr, sbk := t.sbk, dsu := t.dsu, pen := t.pen }) ∧
    ((s.slot i.toNat).state ≠ .committed → AnswersOnly (.voidSlot .t i seq) .t (.bare .state) s)

/-- O35. ACTIVATE RESERVE stores the clamped amount and closes the integration (R115, R86, R134, R94, R95). At a ready
T-port, an identified slot that is not ACTIVE is refused STATE and nothing changes. For the ACTIVE current slot, the
amount clamped to the band and to the slot's direction replaces the activated reserve, the integration is closed at
the plant seconds at the old value, the view's net power becomes N + a, the generation number moves by one, a
recheck request is posted outside CONFIG, and the answer is DONE with the stored amount and CLAMPED where it
differs; every slot keeps all else but the SHORT marks that a split writes, and each mass and each stack stay. -/
def Obligations.ActivateReserveEffect : Prop :=
  ∀ s i seq v, Ready .t s → identify i.toNat seq s = .fits →
    ((s.slot i.toNat).state ≠ .active → AnswersOnly (.activateReserve .t i seq v) .t (.bare .state) s) ∧
    ∀ y, s.sbk.slots.length = 96 → i.toNat = s.sbk.current → (s.slot i.toNat).state = .active →
      (s.slot i.toNat).activity = some y →
    let x := s.slot i.toNat
    let a := clampReserve x.power x.up x.down v.toInt;
    -(x.down : Int) ≤ a ∧ a ≤ x.up ∧ (0 < x.power → 0 ≤ x.power + a) ∧ (x.power < 0 → x.power + a ≤ 0) ∧
    ∃ t, exec (.activateReserve .t i seq v) s = .next t ∧
      Answers .t { code := .done, clamped := a != v.toInt, body := putSigned 4 a } t ∧
      t.slot i.toNat = { x with
        short := (t.slot i.toNat).short, shortSeen := (t.slot i.toNat).shortSeen
        activity := some ⟨a, (saturateEnergy (y.energy + reserveEnergy y.reserve (s.pck.seconds - y.mark))).val,
          y.delivered, s.pck.seconds⟩ } ∧
      (∀ n, n % 96 ≠ i.toNat % 96 → t.slot n = { s.slot n with
        short := (t.slot n).short, shortSeen := (t.slot n).shortSeen }) ∧
      t.dsu.view.active = some (x.power + a) ∧ (s.svc.part ≠ .config → RecheckPosted s t) ∧
      t.pen.generation = s.pen.generation + 1 ∧
      t.sbk = { s.sbk with slots := t.sbk.slots } ∧ (∀ c, CavernKept c s t) ∧ (∀ st, StoreKept st s t) ∧
      PlantFrame .t s t

/-- O36. Select falls and rises, unknown first bytes and the escape byte change only the port's interface, and what a
slot shifts out (R155, R174, R175, R176, R181). A select fall at a port that is not ABSENT begins a taken frame and
latches the status byte bit by bit, and at an ABSENT port a frame that is not taken; a frame end with no further
slots closes the frame, discards a partial command, and returns a port whose result has been read to IDLE, while an
unread result stays; the further slots of a frame in RESULT read as many result bytes (a frame's slots are carried
by its end, log 9). The first slot of a taken frame shifts out the status byte; later slots shift out the unread
result bytes in order and then 0x00, or 0x00 while EXECUTING and in the frame during which the result was placed; a
frame that is not taken shifts out 0x00. At a ready port a byte that is no catalogue code, and at a streaming port a
byte that is neither an owned train number nor 0xE7, are answered with the one byte 2; at a streaming port 0xE7
clears the flag and the port stays IDLE. That a select fall inside an open frame begins a new frame is the model's
choice (log 31). -/
def Obligations.FramesBeginAndEnd : Prop :=
  ∀ p s, s.pins.resetLow = false →
    (∀ b, Ready p s → catalogueLength b.toNat = none → ∃ t, exec (.unknownCommandCode p b) s = .next t ∧
      (t.port p).phase = .result ∧ (t.port p).result = [2] ∧ (t.port p).read = 0 ∧ OnlyPort p s t) ∧
    (∀ b, Streaming p s → p.owns b.toNat = false → b ≠ 0xE7 → ∃ t, exec (.unknownCommandCode p b) s = .next t ∧
      (t.port p).phase = .result ∧ (t.port p).result = [2] ∧ (t.port p).stream = true ∧ OnlyPort p s t) ∧
    (Streaming p s → ∃ t, exec (.escapeByte p) s = .next t ∧ (t.port p).phase = .idle ∧ (t.port p).stream = false ∧
      OnlyPort p s t) ∧
    (s.presence p ≠ .absent → ∃ t, exec (.selectFall p) s = .next t ∧ (t.port p).frame = .taken 0 ∧
      (t.port p).status = BitVec.ofNat 8 (
        (if (s.port p).phase = .idle ∨ (s.port p).phase = .command then 128 else 0) +
        (if (s.port p).phase = .result then 64 else 0) + (if (s.port p).phase = .executing then 32 else 0) +
        (if (s.events p).queue ≠ [] then 16 else 0) + (if (s.port p).stream then 8 else 0) +
        (if s.presence p = .declared then 4 else 0) + (if (s.events p).missed then 2 else 0) + 1) ∧
      (t.port p).phase = (s.port p).phase ∧ (t.port p).result = (s.port p).result ∧ OnlyPort p s t) ∧
    (s.presence p = .absent → ∃ t, exec (.selectFall p) s = .next t ∧ (t.port p).frame = .refused ∧
      (t.port p).status = 0 ∧ OnlyPort p s t) ∧
    (∃ t, exec (.frameEnd p []) s = .next t ∧ (t.port p).frame = .closed ∧ OnlyPort p s t ∧
      (∀ n, (s.port p).frame = .taken n →
        ((s.port p).phase = .command → (t.port p).phase = .idle ∧ (t.port p).collected = []) ∧
        ((s.port p).phase = .result → (s.port p).result.length ≤ (s.port p).read → (t.port p).phase = .idle) ∧
        ((s.port p).phase = .result → (s.port p).read < (s.port p).result.length →
          (t.port p).phase = .result ∧ (t.port p).result = (s.port p).result ∧ (t.port p).read = (s.port p).read))) ∧
    (∀ bytes : List Byte,
      let zeros : List Byte := List.replicate bytes.length 0
      let unread := (((s.port p).result.drop (s.port p).read) ++ zeros).take bytes.length
      ((s.port p).frame = .refused ∨ (s.port p).frame = .closed → shiftedOut p bytes s = zeros) ∧
      (∀ b rest, bytes = b :: rest → (s.port p).frame = .taken 0 →
        (shiftedOut p bytes s).head? = some (s.port p).status) ∧
      (∀ b, b ≠ 0x3F → (s.port p).frame = .taken 0 → (s.port p).phase = .result → (s.port p).deferred = false →
        shiftedOut p (b :: bytes) s = (s.port p).status :: unread) ∧
      ∀ n, (s.port p).frame = .taken (n + 1) →
        ((s.port p).phase = .result → (s.port p).deferred = false → shiftedOut p bytes s = unread) ∧
        ((s.port p).phase = .executing ∨ ((s.port p).phase = .result ∧ (s.port p).deferred = true) →
          shiftedOut p bytes s = zeros)) ∧
    ∀ n bytes, (s.port p).frame = .taken (n + 1) → (s.port p).phase = .result → (s.port p).deferred = false →
      (s.port p).read + bytes.length < (s.port p).result.length →
      ∃ t, exec (.frameEnd p bytes) s = .next t ∧ (t.port p).phase = .result ∧
        (t.port p).read = (s.port p).read + bytes.length ∧ OnlyPort p s t

/-- O37. PRESENT falling makes a port ABSENT with nothing held, and PRESENT rising makes it JOINED, or DECLARED in
SERVICE (R178, R189, R111, R79, R114). On a released part whose permit queue matches its permits, a fall of a high
PRESENT makes the port ABSENT, IDLE, out of stream mode, with no frame, no partial command, no result and no GRANTED
or RUNNING train, and keeps its event mask and latches and every mass; a fall at the T-port abandons its walk with
no answer and makes every OFFERED slot EMPTY with its next sequence and its defaults, every other slot keeping its
record; the current interval, the unscheduled delivery, the ring, the limit code and the other ports' interfaces
stay; the part becomes PARKED when the last DECLARED port falls in SERVICE and otherwise keeps its state, and a fall
from DECLARED evaluates the hold monitor; a rise of a low PRESENT makes it JOINED, or DECLARED with an evaluation of
the hold monitor where the part is in SERVICE; the other ports' presences stay. -/
def Obligations.PresencePins : Prop :=
  ∀ p s, s.pins.resetLow = false → QueueMatchesPermits s →
    (s.pins.present p = true → ∃ t, exec (.presentFall p) s = .next t ∧ t.pins = s.pins.setPresent p false ∧
      t.presence p = .absent ∧ (t.port p).phase = .idle ∧ (t.port p).frame = .closed ∧ (t.port p).stream = false ∧
      (t.port p).collected = [] ∧ (t.port p).result = [] ∧ (t.events p).mask = (s.events p).mask ∧
      (t.events p).latch1 = (s.events p).latch1 ∧ (t.events p).latch2 = (s.events p).latch2 ∧
      (∀ q, q ≠ p → t.presence q = s.presence q) ∧ (∀ c, (t.cavern c).mass = (s.cavern c).mass) ∧
      (∀ tr, tr.owner = p → (t.train tr).permit ≠ .granted ∧ (t.train tr).permit ≠ .running) ∧
      (p = .t → t.pen.waiting = none ∧ (t.pen.flight.bind Flight.request) = none ∧ OffersEmptied s t) ∧
      ((s.svc.part = .service ∧ s.presence p = .declared ∧ ∀ q, q ≠ p → s.presence q ≠ .declared) →
        t.svc = { s.svc with part := .parked }) ∧
      (¬(s.svc.part = .service ∧ s.presence p = .declared ∧ ∀ q, q ≠ p → s.presence q ≠ .declared) →
        t.svc = s.svc) ∧ (s.presence p = .declared → HoldEvaluated s t) ∧
      (s.presence p ≠ .declared → (∀ tr, tr.owner = p → (s.train tr).permit ≠ .granted) →
        t.pen.genHold = s.pen.genHold ∧ t.pen.chgHold = s.pen.chgHold) ∧
      (p ≠ .t → SlotsKept s t ∧ EngineKept s t) ∧ t.pen.lastLimit = s.pen.lastLimit ∧ OtherPorts p s t ∧
      t.sbk = { s.sbk with slots := t.sbk.slots } ∧ EventsOnlyJoin s t ∧ t.ilr = s.ilr ∧ t.pck = s.pck) ∧
    (s.pins.present p = false → ∃ t, exec (.presentRise p) s = .next t ∧ t.pins = s.pins.setPresent p true ∧
      t.presence p = (if s.svc.part = .service then .declared else .joined) ∧
      (t.port p).phase = (s.port p).phase ∧ (∀ q, q ≠ p → t.port q = s.port q) ∧
      EngineKept s t ∧ EventsOnlyJoin s t ∧ t.pen.generation = s.pen.generation ∧
      (s.svc.part = .service → HoldEvaluated s t) ∧ (s.svc.part ≠ .service → t.pen = s.pen) ∧
      t = { s with pins := t.pins, spi := t.spi, evr := t.evr, pen := t.pen })

/-- O38. A pin change becomes the hardware band in force, and ENVLOCK shows its level (R29, R31, R6, R30, R37, R94). On
a released part a sample of RSV2..RSV0 and RSVTB becomes the hardware code and side in force; raw masses, masses and
budgets keep their values, and a sample that differs from the band in force gives each configured cavern with limits
the bands, effective limits, IN_RESERVE and AT_CEILING of the new band, and outside CONFIG posts a recheck request;
a sample equal to the band in force changes only the pins; ENVLOCK changes only its pin. -/
def Obligations.BandAndLockPins : Prop :=
  ∀ s code tb, s.pins.resetLow = false →
    (∃ t, exec (.pinChange code tb) s = .next t ∧ t.ciu.hwCode = code ∧
      t.ciu.hwSide = (if tb then .bottom else .top) ∧ t.pins = { s.pins with rsv := code, rsvtb := tb } ∧
      (∀ st, StoreKept st s t) ∧ BookKept s t ∧ (∀ tr, TrainKept tr s t) ∧ EngineKept s t ∧ EventsOnlyJoin s t ∧
      t = { s with pins := t.pins, evr := t.evr, ciu := t.ciu, hsu := t.hsu, sbk := t.sbk, dsu := t.dsu
                   pen := t.pen } ∧
      (∀ c, (let x := t.cavern c
          x = { s.cavern c with
            limits := x.limits, attached := x.attached, inReserve := x.inReserve, atCeiling := x.atCeiling }) ∧
        (∀ l, (s.cavern c).configured = true → (s.cavern c).limits = some l →
          (s.ciu.hwCode ≠ code ∨ s.ciu.hwSide ≠ (if tb then .bottom else .top)) →
          let side : BandSide := if tb then .bottom else .top
          let range := l.rawCeiling - l.rawFloor
          let x := t.cavern c
          let y := effectiveLimits l.rawFloor l.rawCeiling
            (sideBand s.arith.mode range .bottom side code (s.cavern c).swSide (s.cavern c).swCode)
            (sideBand s.arith.mode range .top side code (s.cavern c).swSide (s.cavern c).swCode)
          x.limits = some y ∧ x.inReserve = decide (x.mass ≤ y.effFloor) ∧
            x.atCeiling = decide (y.effCeiling ≤ x.mass)) ∧
        (t.cavern c).limits.map Limits.rawFloor = (s.cavern c).limits.map Limits.rawFloor ∧
        (t.cavern c).limits.map Limits.rawCeiling = (s.cavern c).limits.map Limits.rawCeiling) ∧
      (s.svc.part ≠ .config → (s.ciu.hwCode ≠ code ∨ s.ciu.hwSide ≠ (if tb then .bottom else .top)) →
        RecheckPosted s t) ∧
      (s.ciu.hwCode = code → s.ciu.hwSide = (if tb then .bottom else .top) → t = { s with pins := t.pins })) ∧
    ∀ high, exec (.envlockChange high) s = .next { s with pins := { s.pins with envlock := high } }

/-- O39. A TPULSE edge, the 1.5 s watch and each holdover second make one advance (R72, R73, R36). On a released part
below the top of plant seconds: an edge at least half a second after the last advance makes one advance at its
moment and an earlier one makes none, and both end holdover; the watch, 1.5 s after the last advance outside
holdover, enters holdover with count 0 and TIME HOLDOVER and makes one advance; a second of holdover makes one
advance and adds one to the count; before their time the last two change nothing but the moment shown. The advance
is the one of AdvanceCounts on the state in which the work that earlier advances left due has been taken (log 6),
and that state is the state itself where nothing is due. Moments are the model's, in ticks of the 25 MHz reference
(log 5). -/
def Obligations.EdgesAndHoldover : Prop :=
  (∀ s, NothingDue s → drain s = s) ∧ ∀ s now, s.pins.resetLow = false → s.pck.seconds < 4294967295 →
    let m := max s.pck.moment now
    let shown : State := { s with pck := { s.pck with moment := m } }
    (s.pck.lastAdvance + 12500000 ≤ m → ∃ t, exec (.tpulseEdge now) s = .next t ∧
      t.pck.seconds = s.pck.seconds + 1 ∧ t.pck.lastAdvance = m ∧
      (let u := countAdvance (drain shown)
       t = { u with pck := { u.pck with holdover := false }, evr := t.evr } ∧ EventsOnlyJoin u t ∧
        (u.pck.holdover = false → t = u))) ∧
    (m < s.pck.lastAdvance + 12500000 → ∃ t, exec (.tpulseEdge now) s = .next t ∧
      t.pck = { s.pck with moment := m, holdover := false } ∧ t = { s with pck := t.pck, evr := t.evr } ∧
      EventsOnlyJoin s t ∧ (s.pck.holdover = false → t.evr = s.evr)) ∧
    (s.pck.holdover = false → s.pck.lastAdvance + 37500000 ≤ m → ∃ t, exec (.holdoverEntry now) s = .next t ∧
      t.pck.seconds = s.pck.seconds + 1 ∧ t.pck.lastAdvance = m ∧ t.pck.holdover = true ∧ t.pck.holdCount = 0 ∧
      ∃ u, t = countAdvance (drain u) ∧
        u = { s with pck := { s.pck with moment := m, holdover := true, holdCount := 0 }, evr := u.evr } ∧
        EventsOnlyJoin s u ∧
        ∀ p, s.presence p ≠ .absent → Told p .timeHoldover .notice .nothing s.pck.seconds 0 s u) ∧
    (s.pck.holdover = true ∨ m < s.pck.lastAdvance + 37500000 → exec (.holdoverEntry now) s = .next shown) ∧
    (s.pck.holdover = true → s.pck.lastAdvance + 25000000 ≤ m → s.pck.holdCount < 4294967295 →
      ∃ t, exec (.holdoverAdvance now) s = .next t ∧ t.pck.seconds = s.pck.seconds + 1 ∧ t.pck.lastAdvance = m ∧
      t.pck.holdover = true ∧ t.pck.holdCount = s.pck.holdCount + 1 ∧
      (let u := countAdvance (drain shown)
       t = { u with pck := { u.pck with holdCount := u.pck.holdCount + 1 } })) ∧
    (s.pck.holdover = false ∨ m < s.pck.lastAdvance + 25000000 → exec (.holdoverAdvance now) s = .next shown)

/-- O40. The staging-lead event stages the next slot, and the boundary advances the book and the view by one interval
(R76, R77, R81, R82, R85, R87, R88, R92, R110, R119, R133, R137). On a released part a due staging-lead event sets
the staging mark and puts the slot of k + 1 into the dispatch view, and changes no figure of a cavern or store; a
due boundary makes k + 1 current in the book and in the view, clears the staging flag, sets the unscheduled delivery
to 0, clears every HELD mark, interval total and budget spent, keeps masses and stacks, and outside CONFIG places
one settlement record of interval k last in the ring, behind the records that stood, the oldest of a full ring
discarded and OVERRUN marked then; the record holds the figures of an ACTIVE slot closed at the boundary, of a
VOIDED slot, or of no slot; a COMMITTED slot k + 1 becomes ACTIVE and an OFFERED one EMPTY, the record of k becomes
that of k + 96 with its next sequence, and every other slot keeps all but SHORT marks; the generation number takes
one increment for the boundary, one for a changed rate budget, and one each for a slot k and a slot k + 1 that
change state, that one event counts one being the model's reading (log 20); no next order is left and every target
is the split's; a walk for k + 1 is answered LAPSED, and without a walk a recheck request is posted outside CONFIG;
plant seconds stay. An event is due in the model from the advance that raises it (log 6, log 8). -/
def Obligations.StagingAndBoundary : Prop :=
  ∀ s, s.pins.resetLow = false →
    (∀ j, s.pck.stagingDue = some j → ∃ t, exec .stagingLeadEvent s = .next t ∧ t.pck.stagingMark = some j ∧
      t.pck.stagingDue = none ∧ t.pck.seconds = s.pck.seconds ∧ t.sbk.current = s.sbk.current ∧
      t.dsu.view.next.map NextSlot.interval = some (s.sbk.current + 1) ∧
      t.dsu.view.next.map NextSlot.state = some (s.slot (s.sbk.current + 1)).state ∧
      t.dsu.view.next.map NextSlot.power = some (s.slot (s.sbk.current + 1)).power ∧
      (∀ c, CavernKept c s t) ∧ (∀ st, StoreKept st s t) ∧ BookKept s t ∧ (∀ tr, TrainKept tr s t) ∧
      EventsOnlyJoin s t ∧
      t = { s with evr := t.evr, pck := t.pck, ciu := t.ciu, hsu := t.hsu, sbk := t.sbk, dsu := t.dsu }) ∧
    (s.pck.boundaryDue = true → ∃ t, exec .boundary s = .next t ∧ t.pck.boundaryDue = false ∧
      t.pck.seconds = s.pck.seconds ∧ t.sbk.current = s.sbk.current + 1 ∧ t.dsu.view.current = s.sbk.current + 1 ∧
      t.dsu.view.next = none ∧ t.sbk.unscheduled = 0 ∧
      (∀ tr, (t.train tr).order.held = false ∧ (t.train tr).totalAir = 0 ∧ (t.train tr).totalHeat = 0 ∧
        (t.train tr).totalEnergy = 0) ∧
      (∀ c, (t.cavern c).mass = (s.cavern c).mass ∧ (t.cavern c).spent = 0) ∧
      (s.svc.part ≠ .config → s.sbk.slots.length = 96 → ∃ r,
        t.sbk.ring = (if s.sbk.ring.length < 32 then s.sbk.ring else s.sbk.ring.drop 1) ++ [r] ∧
        r.overrun = decide (32 ≤ s.sbk.ring.length) ∧ (BookIndexed s →
          let k := s.sbk.current
          let x := s.slot k
          let d := s.sbk.unscheduled
          (∀ v, x.state = .active → x.activity = some v →
            let e := (saturateEnergy (v.energy + reserveEnergy v.reserve ((k + 1) * 900 - v.mark))).val
            r = ⟨k, x.ref, x.power, ⟨x.up, x.down⟩, x.power * 250, e, v.delivered,
              (saturateEnergy (v.delivered - x.power * 250 - e)).val, false, false, x.atRiskSeen, r.shortSeen,
              r.overrun, x.seq⟩) ∧
          (x.state = .voided → r = ⟨k, x.ref, x.power, ⟨x.up, x.down⟩, 0, 0, d, d, false, true, x.atRiskSeen,
            r.shortSeen, r.overrun, x.seq⟩) ∧
          (x.state ≠ .active → x.state ≠ .voided →
            r = ⟨k, 0, 0, ⟨0, 0⟩, 0, 0, d, d, true, false, false, false, r.overrun, x.seq⟩))) ∧
      (BookIndexed s →
        let k := s.sbk.current
        let x := s.slot (k + 1)
        let y := t.slot (k + 1)
        t.slot (k + 96) = Slot.blank (k + 96) ((s.slot k).seq + 1) ∧
        (x.state = .committed → y = { x with
          state := .active, seq := x.seq + 1, activity := some ⟨0, 0, 0, (k + 1) * 900⟩, short := y.short
          shortSeen := y.shortSeen } ∧ t.dsu.view.active = some x.power) ∧
        (x.state = .offered → y = { x with
          state := .empty, seq := x.seq + 1, power := 0, band := none, ref := 0, offer := none, short := y.short
          shortSeen := y.shortSeen }) ∧
        (x.state ≠ .committed → x.state ≠ .offered →
          y = { x with short := y.short, shortSeen := y.shortSeen }) ∧
        (let counts (b : Prop) [Decidable b] : BitVec 32 := if b then 1 else 0
         t.pen.generation = s.pen.generation + 1 +
          counts ((t.cavern .cv1).budget ≠ (s.cavern .cv1).budget ∨ (t.cavern .cv2).budget ≠ (s.cavern .cv2).budget) +
          counts ((s.slot k).state ≠ .empty) + counts (x.state = .committed ∨ x.state = .offered)) ∧
        ∀ n, n % 96 ≠ k % 96 → n % 96 ≠ (k + 1) % 96 →
          t.slot n = { s.slot n with short := (t.slot n).short, shortSeen := (t.slot n).shortSeen }) ∧
      (∀ tr, (t.train tr).nextOrder = none ∧ (t.train tr).order.target = t.splitPlan.target tr) ∧
      (∀ r, s.pen.request = some r → r.interval = s.sbk.current + 1 → Answers .t (.bare .lapsed) t ∧
        t.pen.waiting = none ∧ (t.pen.flight.bind Flight.request) = none) ∧
      (s.pen.request = none → s.svc.part ≠ .config → RecheckPosted s t) ∧
      t.svc = s.svc ∧ t.ilr = s.ilr ∧ t.pins = s.pins ∧ OtherPorts .t s t ∧ EventsOnlyJoin s t ∧
      (∀ st, (t.store st).stack = (s.store st).stack) ∧
      (s.svc.part = .config → t.sbk.ring = s.sbk.ring))

/-- O41. A due aging pass resets the timer, and a due expiry empties the OFFERED slot (R61, R62, R16, R66, R56, R109,
R79, R94). On a released part a due aging pass sets the timer to 0 and posts a recheck request outside CONFIG; in
each configured store with parcels every CLOSED parcel decays in heat and in temperature excess, CLOSED parcels
below T_spent or of heat 0 are removed, all the heat that leaves goes to written-off, and the reachable heat is that
of the run left where the trap is disabled; the OPEN parcel stays, and so do the other counters and every cavern
figure; an OFFERED slot of the window whose expiry lies at or before the second of the last advance becomes EMPTY
with its sequence moved by one and its defaults, the generation number moves by one, and every other slot stays.
Both are due in the model from the advance that finds them so (log 6). -/
def Obligations.AgingAndExpiry : Prop :=
  ∀ s, s.pins.resetLow = false →
    (s.hsu.agingDue = true → ∃ t, exec .agingPass s = .next t ∧ t.hsu.agingTimer = 0 ∧ t.hsu.agingDue = false ∧
      (s.svc.part ≠ .config → RecheckPosted s t) ∧
      (∀ st, let r := s.store st
        let x := t.store st
        let left := (r.stack.map (decayParcel s.arith.mode r.tBase r.decay)).filter (fun p => !spentParcel r.tSpent p)
        (r.configured = true → r.stack ≠ [] → x = { r with
          stack := left, reachable := x.reachable, full := x.full, charging := x.charging, drawing := x.drawing
          writtenOff := (saturateCounter (r.writtenOff + ((heatOf r.stack - heatOf left : Nat) : Int))).val } ∧
          heatOf left ≤ heatOf r.stack ∧ (s.arith.trap = false → x.reachable = (reachableRun r.tUse left).1)) ∧
        (r.configured = false ∨ r.stack = [] → StoreKept st s t)) ∧
      (∀ mode tBase d tSpent (p : Parcel), (p.opened = true →
          decayParcel mode tBase d p = p ∧ spentParcel tSpent p = false) ∧
        (p.opened = false → (decayParcel mode tBase d p).heat = decayed mode d p.heat ∧
          (decayParcel mode tBase d p).temp = p.temp.map (fun v => tBase + decayed mode d (v - tBase)) ∧
          (spentParcel tSpent p = true ↔ p.heat = 0 ∨ ∃ v, p.temp = some v ∧ v < tSpent))) ∧
          (∀ c, CavernKept c s t) ∧ BookKept s t ∧
      (∀ tr, TrainKept tr s t) ∧ EngineKept s t ∧ ArithKept s t ∧ EventsOnlyJoin s t ∧
      t = { s with evr := t.evr, ciu := t.ciu, hsu := t.hsu, sbk := t.sbk, dsu := t.dsu, arith := t.arith
                   pen := t.pen }) ∧
    ∀ j o m, s.sbk.slots.length = 96 → s.inWindow j = true → (s.slot j).state = .offered → (s.slot j).offer = some o →
      s.pck.expiryMark = some m → o.expiry ≤ m → ∃ t, exec (.offerExpiry j) s = .next t ∧
      t.slot j = { s.slot j with
        state := .empty, seq := (s.slot j).seq + 1, power := 0, band := none, ref := 0, offer := none } ∧
      (∀ n, n % 96 ≠ j % 96 → t.slot n = s.slot n) ∧ t.pen.generation = s.pen.generation + 1 ∧ EngineKept s t ∧
      EventsOnlyJoin s t ∧ (∀ tr, TrainKept tr s t) ∧ t.sbk = { s.sbk with slots := t.sbk.slots } ∧
      t = { s with evr := t.evr, sbk := t.sbk, dsu := t.dsu, pen := t.pen }

/-- O42. The three rungs of the silence ladder (R151, R152, R128, R34, R67). On a released part, for a train whose rung
was found reached (the rung waits in the model from the advance that reaches it, log 6): LATE makes the timing LATE
and changes nothing else but event queues; OVERDUE makes it OVERDUE, takes a GRANTED or RUNNING permit to STOPPING
with target 0 and no next order and keeps the attachment; LOST trips the train with cause LOST, releases the
attachment, sets target 0 and makes cavern and store ESTIMATED, in a state whose permit queue matches its permits;
no mass changes. -/
def Obligations.SilenceLadder : Prop :=
  ∀ s tr, s.pins.resetLow = false → (s.train tr).permit.attached = true →
    (1 ≤ (s.train tr).rungs → (s.train tr).timing = .onTime → ∃ t, exec (.lateRung tr) s = .next t ∧
      t.train tr = { s.train tr with timing := .late } ∧ (∀ u, u ≠ tr → t.train u = s.train u) ∧
      t = { s with dsu := t.dsu, evr := t.evr }) ∧
    (2 ≤ (s.train tr).rungs → (s.train tr).timing = .late → ∃ t, exec (.overdueRung tr) s = .next t ∧
      (t.train tr).timing = .overdue ∧ (t.train tr).permit = .stopping ∧
      (t.train tr).attachment = (s.train tr).attachment ∧
      ((s.train tr).permit ≠ .stopping → (t.train tr).order.target = 0 ∧ (t.train tr).nextOrder = none) ∧
      (∀ u, u ≠ tr → (t.train u).permit = (s.train u).permit) ∧ (∀ u, TrainKept u s t) ∧ BookKept s t ∧
      EventsOnlyJoin s t ∧ t = { s with evr := t.evr, sbk := t.sbk, dsu := t.dsu }) ∧
    (3 ≤ (s.train tr).rungs → (s.train tr).timing = .overdue → QueueMatchesPermits s →
      ∀ a, (s.train tr).attachment = some a → ∃ t, exec (.lostRung tr) s = .next t ∧
      (t.train tr).permit = .tripped ∧ (t.train tr).cause = some .lost ∧ (t.train tr).attachment = none ∧
      (t.train tr).order.target = 0 ∧ (t.train tr).nextOrder = none ∧ (t.train tr).timing = .overdue ∧
      (t.train tr).silence = (s.train tr).silence ∧ (t.cavern a.cavern).quality = .estimated ∧
      (t.store a.store).quality = .estimated ∧ tr ∉ (t.cavern a.cavern).attached ∧
      (∀ c, (t.cavern c).mass = (s.cavern c).mass) ∧ (s.svc.part ≠ .config → RecheckPosted s t) ∧ EngineKept s t ∧
      EventsOnlyJoin s t ∧ BookKept s t ∧
      (∀ u, u ≠ tr → TrainKept u s t) ∧
      t = { s with evr := t.evr, ciu := t.ciu, hsu := t.hsu, sbk := t.sbk, dsu := t.dsu, pen := t.pen })

/-- O43. An instrument frame is discarded or becomes the source's record; gaps, framing errors and staleness (R157,
R158, R159, R161, R162, R163, R39, R41, R42, R63, R64, R172). On a released part whose line is armed and empty,
eight characters whose sum is a multiple of 256, with a known source and a sequence other than the last, make the
record of that source the held value, its validity by status and range, the sequence and age 0 (the eight characters
come in one step, log 10), and hand value and validity to the owning copy: a pressure decides the breach conditions
with their latches and reconciles the mass, a temperature at a new GOOD value moves the raw masses and the estimate,
a top temperature examines parcel 0; the other cavern and store keep every figure. Eight characters that fail a test
change nothing but the line, which waits for the next gap. An idle gap arms the line and a framing error makes it
wait for one. A source that the last advance found due becomes STALE with value, sequence and age kept, after the
due sources before it in source order; each owning copy takes STALE and keeps its value, masses and stacks stay, and
the records join the queues in source order; of a source that is not due nothing changes, and a frame of a due
source takes the same changes first. A source is due in the model from the advance that finds it so (log 6). -/
def Obligations.InstrumentFrames : Prop :=
  (∀ s (c0 c1 c2 c3 c4 c5 c6 c7 : Byte), s.pins.resetLow = false → s.ilr.line = .collecting [] →
    let chars := [c0, c1, c2, c3, c4, c5, c6, c7]
    let raw := c1.toNat * 256 + c2.toNat
    (∀ src, (chars.map BitVec.toNat).sum % 256 = 0 → sourceOf c0 = some src → (s.ilr.get src).lastSeq ≠ some c4 →
      let v := max (sourceBottom src) (min raw (sourceTop src))
      let valid : Validity := if sourceBottom src ≤ raw ∧ raw ≤ sourceTop src then
        (if c3 = 1 then .good else if c3 = 2 then .suspect else .fault) else .fault
      ∃ t, exec (.instrumentFrame chars) s = .next t ∧ t.ilr.get src = ⟨some v, valid, some c4, 0, false⟩ ∧
        (∀ other, other ≠ src → t.ilr.get other = sourceAfter s src other) ∧ t.ilr.line = .waitIdle ∧
        (∀ c, src = pressureSource c → PressureTaken c v valid s t) ∧
        (∀ c, src = temperatureSource c → TemperatureTaken c v valid s t) ∧
        (∀ st, src = topSource st → TopTaken st v valid s t) ∧
        (∀ d, sourceSubject src ≠ .cavern d → CavernAside src d s t ∧
          ∀ q, (t.events q).latch d = (s.events q).latch d) ∧
        (∀ st, sourceSubject src ≠ .store st → StoreAside src st s t) ∧
        t.ciu.hwCode = s.ciu.hwCode ∧ t.ciu.hwSide = s.ciu.hwSide ∧ t.ciu.lockEnable = s.ciu.lockEnable ∧
        t.hsu.agingTimer = s.hsu.agingTimer ∧ t.hsu.agingDue = s.hsu.agingDue ∧
        BookKept s t ∧ (∀ tr, TrainKept tr s t) ∧ EngineKept s t ∧ ArithKept s t ∧ EventsOnlyJoin s t ∧
        t = { s with evr := t.evr, ilr := t.ilr, ciu := t.ciu, hsu := t.hsu, sbk := t.sbk, dsu := t.dsu
                     arith := t.arith, pen := t.pen }) ∧
    (((chars.map BitVec.toNat).sum % 256 ≠ 0 ∨ sourceOf c0 = none ∨
      (∃ src, sourceOf c0 = some src ∧ (s.ilr.get src).lastSeq = some c4)) →
      exec (.instrumentFrame chars) s = .next { s with ilr := { s.ilr with line := .waitIdle } })) ∧
    ∀ s, s.pins.resetLow = false →
    exec .lineIdleGap s = .next { s with ilr := { s.ilr with line := .collecting [] } } ∧
    exec .framingError s = .next { s with ilr := { s.ilr with line := .waitIdle } } ∧
    ∀ src, ((s.ilr.get src).due = false → exec (.sourceStale src) s = .next s) ∧
      ((s.ilr.get src).due = true → ∃ t, exec (.sourceStale src) s = .next t ∧
        (t.ilr.get src).validity = .stale ∧ (∀ other, t.ilr.get other = sourceAfter s src other) ∧
        t.ilr.line = s.ilr.line ∧
        (∀ d, CavernAside src d s t ∧ (t.cavern d).attached = (s.cavern d).attached) ∧
        (∀ st, StoreAside src st s t ∧ (t.store st).charging = (s.store st).charging ∧
          (t.store st).drawing = (s.store st).drawing) ∧
        t.ciu.hwCode = s.ciu.hwCode ∧ t.ciu.hwSide = s.ciu.hwSide ∧ t.ciu.lockEnable = s.ciu.lockEnable ∧
        t.hsu.agingTimer = s.hsu.agingTimer ∧ t.hsu.agingDue = s.hsu.agingDue ∧ EventsOnlyJoin s t ∧
        (∀ q, s.presence q ≠ .absent → (s.events q).queue.length + (staleRecords s src).length ≤ 16 →
          t.events q = { s.events q with queue := (s.events q).queue ++ staleRecords s src }) ∧
        t = { s with ilr := t.ilr, evr := t.evr, ciu := t.ciu, hsu := t.hsu })

/-- O44. A free engine takes up the waiting recheck first, otherwise the waiting walk, and WALK_START captures its base
(R94, R96, R104, R20, R22, spec/95_what_each_step_holds.md). A free engine takes up the recheck whose flag is set,
clearing it, and otherwise the walk that waits; a busy one, or one with nothing waiting, stays as it is. On a
released part WALK_START captures the base of the walk taken up: an OFFER whose interval is no longer later than the
current one ends LAPSED; a figure that raises UNDEFINED is captured with source WALK and ends the walk, a request
with ARITH; otherwise the walk flies on the base as it stands and nothing but the engine changes; a walk that has
its base, or a free engine with nothing waiting, changes nothing. That the capture stands at the WALK_START row is
the model's choice (log 7). That a capture with several absent figures names only the first of CV1, CV2, HS-A and
HS-B is its choice too (log 36). -/
def Obligations.WalkStarts : Prop :=
  (∀ (x : Pen),
      (x.flight.isSome = true → x.takeUp = x) ∧
      (x.flight = none → x.recheckFlag = true →
        x.takeUp = { x with recheckFlag := false, flight := some ⟨none, none, false⟩ }) ∧
      (∀ r, x.flight = none → x.recheckFlag = false → x.waiting = some r →
        x.takeUp = { x with waiting := none, flight := some ⟨some r, none, false⟩ }) ∧
      (x.flight = none → x.recheckFlag = false → x.waiting = none → x.takeUp = x)) ∧
    ∀ s, s.pins.resetLow = false →
      (∀ request restart, s.pen.flight = some ⟨request, none, restart⟩ → ∃ t, exec .walkStart s = .next t ∧
        BaseCaptured request restart s t ∧
        (undefinedAt s = none ∨ Request.overtaken s.sbk.current request = true → t.evr = s.evr ∧ t.arith = s.arith)) ∧
      (∀ request b restart, s.pen.flight = some ⟨request, some b, restart⟩ → exec .walkStart s = .next s) ∧
      (s.pen.flight = none → exec .walkStart s = exec .walkStart { s with pen := s.pen.takeUp }) ∧
      (s.pen.flight = none → s.pen.recheckFlag = false → s.pen.waiting = none → exec .walkStart s = .next s) ∧
      (s.pen.flight = none → undefinedAt s = none →
        (s.pen.recheckFlag = true → exec .walkStart s =
          .next { s with pen := { s.pen with
              recheckFlag := false, flight := some ⟨none, some (readBase s), false⟩ } }) ∧
        (s.pen.recheckFlag = false → ∀ r, s.pen.waiting = some r → Request.overtaken s.sbk.current (some r) = false →
          exec .walkStart s = .next { s with pen := { s.pen with
            waiting := none, flight := some ⟨some r, some (readBase s), false⟩ } }))

/-- O45. A completed OFFER walk is restarted once on a moved base, and otherwise makes the slot OFFERED at its ability
(R105, R25, R103, R104, R96, R94). On a released part with 96 slot records, when an OFFER walk completes: where the
generation number has moved and the walk has not been restarted, it is restarted on a new base (ending LAPSED for an
interval no longer later than the current one, ARITH with STALE at an UNDEFINED); otherwise its result stands, STALE
where the number moved again, with a recheck then; the last limit code is the ability's and nothing waits; where the
ability is carried and is not 0 for an N other than 0, the slot becomes OFFERED with N and held ability equal to the
ability, the requested band and reference, the expiry ahead by the hold time and its sequence moved by one, the
generation number moves by one and the T-port's answer is DONE; otherwise the slot stays and the answer is
NO_ABILITY; every other slot stays. Which endings carry STALE is the model's reading (log 22). That the restart's
capture names only the first absent figure is the model's choice (log 36), and so is an expiry past the top of plant
seconds (log 35). -/
def Obligations.OfferCompletes : Prop :=
  ∀ s j n up down ref b re, s.pins.resetLow = false → s.sbk.slots.length = 96 →
    s.pen.flight = some ⟨some (.offer j n up down ref), some b, re⟩ →
    let a := (requestAbility (.offer j n up down ref) b).1
    let stale := b.generation != s.pen.generation
    (stale = true → re = false → ∃ t, exec .offerWalkCompletion s = .next t ∧
      BaseCaptured (some (.offer j n up down ref)) true s t) ∧
    (stale = false ∨ re = true →
      ∃ t, exec .offerWalkCompletion s = .next t ∧ t.pen.lastLimit = a.limit ∧ RequestDone stale s t ∧
      (a.carried = true → (a.amount = 0 → n = 0) →
        t.slot j = { s.slot j with
          state := .offered, power := a.amount, offer := some ⟨a.amount, s.pck.seconds + s.svc.times.hold⟩
          band := bandOf up down, ref := ref, seq := (s.slot j).seq + 1 } ∧
        t.pen.generation = s.pen.generation + 1 ∧
        Answers .t { code := .done, stale := stale
                     body := putSigned 4 a.amount ++ [BitVec.ofNat 8 a.limit.code, (s.slot j).seq + 1] } t) ∧
      ((a.carried = false ∨ (a.amount = 0 ∧ n ≠ 0)) → t.slot j = s.slot j ∧ t.pen.generation = s.pen.generation ∧
        Answers .t { code := .noAbility, stale := stale
                     body := putSigned 4 0 ++ [BitVec.ofNat 8 a.limit.code, (s.slot j).seq] } t) ∧
      (∀ m, m % 96 ≠ j % 96 → t.slot m = s.slot m) ∧ OtherPorts .t s t ∧ (∀ tr, TrainKept tr s t) ∧ ArithKept s t ∧
      EventsOnlyJoin s t ∧ t.sbk = { s.sbk with slots := t.sbk.slots } ∧
      t.pen.genHold = s.pen.genHold ∧ t.pen.chgHold = s.pen.chgHold ∧
      t = { s with spi := t.spi, evr := t.evr, sbk := t.sbk, dsu := t.dsu, arith := t.arith, pen := t.pen })

/-- O46. A completed CONFIRM walk is restarted once on a moved base, lapses, or commits the slot exactly when its power
limit covers the value (R107, R25, R103, R96, R94, R119, R124, R134). On a released part with 96 slot records, when
a CONFIRM walk completes: where the generation number has moved and the walk has not been restarted, it is restarted
on a new base (ending ARITH with STALE at an UNDEFINED); otherwise its result stands, STALE where the number moved
again, with a recheck then, and nothing waits. Where the slot no longer stands as the CONFIRM named it the answer is
LAPSED and book and limit code stay. Where it stands: with the band carried and P_max at least the value's magnitude
(or an IDLE value) the slot becomes COMMITTED with no offer and the answer is DONE; with a smaller P_max above 0 it
stays OFFERED at P_max with SHORTFALL; otherwise it becomes EMPTY with NO_ABILITY; the sequence and the generation
number move by one each time; a newly admitted direction may grant queued trains, so caverns and stores differ at
most in attached trains and the slots, this one too, in the SHORT marks that a split writes. Which endings carry
STALE is the model's reading (log 22). That the restart's capture names only the first absent figure is the model's
choice (log 36), and so is an expiry past the top of plant seconds (log 35). -/
def Obligations.ConfirmCompletes : Prop :=
  ∀ s j seq v b re, s.pins.resetLow = false → s.sbk.slots.length = 96 →
    s.pen.flight = some ⟨some (.confirm j seq v), some b, re⟩ →
    let a := (requestAbility (.confirm j seq v) b).1
    let tail := [BitVec.ofNat 8 a.limit.code, seq + 1]
    let stale := b.generation != s.pen.generation
    (stale = true → re = false → ∃ t, exec .confirmWalkCompletion s = .next t ∧
      BaseCaptured (some (.confirm j seq v)) true s t) ∧
    (stale = false ∨ re = true → confirmStands j seq s = false → ∃ t, exec .confirmWalkCompletion s = .next t ∧
      Answers .t { code := .lapsed, stale := stale } t ∧ RequestDone stale s t ∧
      t.pen.lastLimit = s.pen.lastLimit ∧ t.pen.generation = s.pen.generation ∧ OtherPorts .t s t ∧ ArithKept s t ∧
      EventsOnlyJoin s t ∧ t = { s with spi := t.spi, evr := t.evr, arith := t.arith, pen := t.pen }) ∧
    (stale = false ∨ re = true → confirmStands j seq s = true →
      ∃ t, exec .confirmWalkCompletion s = .next t ∧ RequestDone stale s t ∧ t.pen.lastLimit = a.limit ∧
      t.pen.generation = s.pen.generation + 1 ∧ (let x := s.slot j
        let y := t.slot j
        (a.carried = true → (v = 0 ∨ v.natAbs ≤ a.pMax) →
          y = { x with
            state := .committed, seq := seq + 1, offer := none, short := y.short, shortSeen := y.shortSeen } ∧
          Answers .t { code := .done, stale := stale, body := putSigned 4 v ++ tail } t) ∧
        (a.carried = true → v ≠ 0 → a.pMax < v.natAbs → 0 < a.pMax →
          y = { x with
            seq := seq + 1, power := a.amount, offer := some ⟨a.amount, s.pck.seconds + s.svc.times.hold⟩
            short := y.short, shortSeen := y.shortSeen } ∧
          Answers .t { code := .shortfall, stale := stale, body := putSigned 4 a.amount ++ tail } t) ∧
        ((a.carried = false ∨ (v ≠ 0 ∧ a.pMax = 0)) →
          y = { x with
            state := .empty, seq := seq + 1, power := 0, band := none, ref := 0, offer := none, short := y.short
            shortSeen := y.shortSeen } ∧
          Answers .t { code := .noAbility, stale := stale, body := putSigned 4 0 ++ tail } t)) ∧
      (∀ m, m % 96 ≠ j % 96 →
        t.slot m = { s.slot m with short := (t.slot m).short, shortSeen := (t.slot m).shortSeen }) ∧
      OtherPorts .t s t ∧ ArithKept s t ∧ EventsOnlyJoin s t ∧ (∀ tr, TrainKept tr s t) ∧
      (∀ c, CavernKept c s t) ∧ (∀ st, StoreKept st s t) ∧ t.sbk = { s.sbk with slots := t.sbk.slots } ∧
      t.pen.genHold = s.pen.genHold ∧ t.pen.chgHold = s.pen.chgHold ∧
      t = { s with spi := t.spi, evr := t.evr, ciu := t.ciu, hsu := t.hsu, sbk := t.sbk, dsu := t.dsu
                   arith := t.arith, pen := t.pen })

/-- O47. A completed recheck writes margins and AT_RISK of the slots it examined, and no sequence, state or limit code
(R113, R94). On a released part a recheck walk completes and the engine looks at what waits. Each examined slot (the
ACTIVE remainder and every COMMITTED slot of the base) that is still in the window with the sequence of the base
takes its margin, the smallest slack of its checks or 0 where one fails, is AT_RISK exactly when a check fails, and
is marked AT_RISK_SEEN when it becomes so; every other slot stays, and no slot's sequence, state, power, band, offer
or activity, no inventory, no train, no generation number and no limit code changes. -/
def Obligations.RecheckWritesMarksOnly : Prop :=
  ∀ s b re, s.pins.resetLow = false → s.pen.flight = some ⟨none, some b, re⟩ →
    ∃ t, exec .recheckWalkCompletion s = .next t ∧ t.pen = Pen.takeUp { s.pen with flight := none } ∧
      (let xs := (examined b (walk b none)).filter (fun e => s.inWindow e.1.interval &&
          (s.slot e.1.interval).interval == e.1.interval && (s.slot e.1.interval).seq == e.1.seq)
       (s.sbk.slots.length = 96 → (b.slots.map Slot.interval).Nodup → ∀ e, e ∈ xs →
        let x := s.slot e.1.interval
        let fails := !e.2.checks.all Check.passes
        t.slot e.1.interval = { x with
          margin := some (if fails then 0 else (e.2.checks.map Check.slack).foldl min 2000000)
          atRisk := fails, atRiskSeen := x.atRiskSeen || (fails && !x.atRisk) }) ∧
       ∀ n : Nat, (∀ e, e ∈ xs → e.1.interval % 96 ≠ n % 96) → t.slot n = s.slot n) ∧
      (∀ n : Nat, (t.slot n).seq = (s.slot n).seq ∧ (t.slot n).state = (s.slot n).state ∧
        (t.slot n).power = (s.slot n).power ∧ (t.slot n).band = (s.slot n).band ∧
        (t.slot n).offer = (s.slot n).offer ∧ (t.slot n).activity = (s.slot n).activity) ∧
      t.sbk = { s.sbk with slots := t.sbk.slots } ∧ ArithKept s t ∧ EventsOnlyJoin s t ∧
      t = { s with evr := t.evr, arith := t.arith, sbk := t.sbk, pen := t.pen }

/-- O48. An advance is counted once by every block that counts, and leaves due what it finds reached (R36, R61, R72,
R76, R77, R109, R142, R150, R162). One advance, handed on to the blocks: plant seconds move by one; each source's
age moves by one, stopping at 4,294,967,295, and keeps value, validity and sequence; the stable timer of a cavern
moves by one exactly when it is IDLE; the aging timer moves by one where the period is not 0; a train's silence
count moves by one exactly when its permit is attached; no mass, stack, slot, order or queue changes. The advance
leaves due an aging pass where the timer reaches a period other than 0, the change to STALE of each source that is
not STALE and whose age reaches the stale time, the rungs that a silence count reaches at one, two and three
deadlines, the offers that expire at or before the new second, the staging-lead event at 900 minus the lead where
the mark does not show the interval, and at a multiple of 900 the boundary with the staging-lead event of the
interval being left where it was not raised. That this work waits for its rows is the model's choice (log 6). -/
def Obligations.AdvanceCounts : Prop :=
  ∀ s, let t := countAdvance s
    let up := fun n => if n < 4294967295 then n + 1 else n
    t.pck.seconds = s.pck.seconds + 1 ∧ t.pck.lastAdvance = s.pck.moment ∧ t.pck.timeSet = s.pck.timeSet ∧
    t.pck.holdover = s.pck.holdover ∧ t.pck.holdCount = s.pck.holdCount ∧ t.pck.stagingMark = s.pck.stagingMark ∧
    (∀ src, t.ilr.get src = { s.ilr.get src with
      age := up (s.ilr.get src).age
      staleDue := decide (s.svc.times.stale ≤ up (s.ilr.get src).age ∧ (s.ilr.get src).validity ≠ .stale) }) ∧
    (∀ c, t.cavern c = { s.cavern c with
      stableTimer := if (s.cavern c).attached = [] then up (s.cavern c).stableTimer
        else (s.cavern c).stableTimer }) ∧
    t.hsu.agingTimer = (if s.svc.times.aging = 0 then s.hsu.agingTimer else up s.hsu.agingTimer) ∧
    t.hsu.agingDue = (if s.svc.times.aging = 0 then s.hsu.agingDue
      else decide (s.svc.times.aging ≤ up s.hsu.agingTimer)) ∧
    (let n := s.pck.seconds + 1
     let k := n / 900
     t.pck.expiryMark = some n ∧ (t.pck.boundaryDue = true ↔ n % 900 = 0) ∧
      (n % 900 = 0 → t.pck.stagingDue = if s.pck.stagingMark = some (k - 1) then none else some (k - 1)) ∧
      (n % 900 ≠ 0 → t.pck.stagingDue =
        if 900 - s.svc.times.lead ≤ n % 900 ∧ s.pck.stagingMark ≠ some k then some k else none)) ∧
    (∀ st, t.store st = s.store st) ∧
    (∀ tr, t.train tr = { s.train tr with
      silence := if (s.train tr).permit.attached then up (s.train tr).silence else (s.train tr).silence
      rungs :=
        let n := up (s.train tr).silence
        let d := s.svc.times.deadline
        if (s.train tr).permit.attached = false then (s.train tr).rungs
        else if 3 * d ≤ n then 3 else if 2 * d ≤ n then 2 else if d ≤ n then 1 else 0 }) ∧
        t.dsu.queue = s.dsu.queue ∧ t.dsu.view = s.dsu.view ∧
    t.ilr.line = s.ilr.line ∧ t.ciu.hwCode = s.ciu.hwCode ∧ t.ciu.hwSide = s.ciu.hwSide ∧
    t.ciu.lockEnable = s.ciu.lockEnable ∧
    t = { s with pck := t.pck, ciu := t.ciu, hsu := t.hsu, ilr := t.ilr, dsu := t.dsu }

/-- O49. A record takes its route, joins each routed queue that has room, sets MISSED at a full one, and is dropped by
the INFO mask (R166, R167, R168). The kinds 1 to 12 of the gathering table go to the owner port of the train that is
their subject, 13 to 20 to the T-port, and 21 to 36 to every port that is not ABSENT. For every record and state,
routing leaves a port's queue as it was where the record is not routed to it or is an INFO record under the mask;
otherwise the record joins after the newest of fewer than 16, and at 16 or more only MISSED is set; nothing but the
Event Router changes. -/
def Obligations.RouterOffers : Prop :=
  ∀ (r : EventRecord) (s : State) p,
    ((r.kind.route = .owner ↔ r.kind.code ≤ 12) ∧ (r.kind.route = .schedule ↔ 13 ≤ r.kind.code ∧ r.kind.code ≤ 20) ∧
      (r.kind.route = .plantWide ↔ 21 ≤ r.kind.code)) ∧
    (∀ tr, r.kind.route = .owner → r.subject = .train tr → (routedTo (s.presence p) r p = true ↔ tr.owner = p)) ∧
    (r.kind.route = .schedule → (routedTo (s.presence p) r p = true ↔ p = .t)) ∧
    (r.kind.route = .plantWide → (routedTo (s.presence p) r p = true ↔ s.presence p ≠ .absent)) ∧
    s.route r = { s with evr := (s.route r).evr } ∧
    (routedTo (s.presence p) r p = false ∨ (r.cls = .info ∧ (s.events p).mask = true) →
      (s.route r).events p = s.events p) ∧
    (routedTo (s.presence p) r p = true → ¬(r.cls = .info ∧ (s.events p).mask = true) →
      ((s.events p).queue.length < 16 →
        (s.route r).events p = { s.events p with queue := (s.events p).queue ++ [r] }) ∧
      (16 ≤ (s.events p).queue.length → (s.route r).events p = { s.events p with missed := true }))

/-- O50. The rounding of each class in each mode; rounding up, down and to nearest with halves away from zero (R2, R3).
In GUARDED a requirement rounds up, an availability down and an estimate to nearest, and in NEAREST all three round
to nearest. For every numerator and every divisor above 0, the rounded quotient times the divisor lies at or above
the numerator by less than the divisor (up), at or below it by less than the divisor (down), and within half the
divisor of it with a half rounding up (nearest). -/
def Obligations.RoundingLaws : Prop :=
  (roundingOf .guarded .requirement = .up ∧ roundingOf .guarded .availability = .down ∧
      roundingOf .guarded .estimate = .nearest ∧ ∀ k, roundingOf .nearest k = .nearest) ∧
    ∀ n d, 0 < d →
    (n ≤ roundDiv .up n d * d ∧ roundDiv .up n d * d < n + d) ∧
    (roundDiv .down n d * d ≤ n ∧ n < roundDiv .down n d * d + d) ∧
    (2 * n < 2 * (roundDiv .nearest n d * d) + d ∧ 2 * (roundDiv .nearest n d * d) ≤ 2 * n + d)

/-- O51. A covered split sums to its target, and every target lies within its train's capability (R134, R135). For every
power and every set of trains whose minima do not exceed their capabilities: a split that ends in step 5 gives
targets that sum to the power, and every split gives each train at most its capability, and in step 5 at least its
minimum. -/
def Obligations.SplitMeetsTarget : Prop :=
  ∀ power (xs : List Share), (∀ x, x ∈ xs → x.min ≤ x.cap) →
    ((plan power xs).ending = .covered → (plan power xs).total = power ∧
      ∀ y, y ∈ (plan power xs).targets → y.1.min ≤ y.2) ∧
    ∀ y, y ∈ (plan power xs).targets → y.1 ∈ xs ∧ y.2 ≤ y.1.cap

/-- O52. A draw takes what it needs from the run of usable parcels or stops short, and no heat is lost (R57, R58, R60).
For every stack, need and T_use: heat taken and heat owed sum to the need, heat taken and heat left sum to the heat
that was there, and the stack never grows. The heat taken is the need or the heat of the run of usable parcels from
index 0, whichever is smaller; only parcels of that run are removed or reduced, and every other stays as it was;
heat stays owed only where the stack left is empty or its parcel 0 is not usable; and the draw counts as stopped at
an UNKNOWN parcel exactly where heat is owed and parcel 0 is UNKNOWN. -/
def Obligations.DrawConservesHeat : Prop :=
  ∀ tUse need ps, let d := drawStack tUse need ps
    d.taken + d.owed = need ∧ heatOf d.stack + d.taken = heatOf ps ∧ d.stack.length ≤ ps.length ∧
    d.taken = min need (reachableRun tUse ps).1 ∧
    (∃ k, (∀ p, p ∈ ps.take k → p.usable tUse = true) ∧ (d.stack = ps.drop k ∨ ∃ p rest h, ps.drop k = p :: rest ∧
      p.usable tUse = true ∧ 0 < h ∧ h < p.heat ∧ d.stack = { p with heat := h } :: rest)) ∧
    (0 < d.owed → d.stack = [] ∨ ∃ p rest, d.stack = p :: rest ∧ p.usable tUse = false) ∧
    (d.unknown = true ↔ 0 < d.owed ∧ ∃ p rest, d.stack = p :: rest ∧ p.temp = none)

/-- O53. A report's air keeps the mass equal to its counters (R32, R33). For every cavern whose mass equals loaded +
filled − withdrawn + reconciled-net, with filled and withdrawn far enough from the end of the counter range, a fill
or withdrawal of any air keeps that law and keeps the mass within 0 to 100,000,000 kg. -/
def Obligations.AirKeepsMassAccount : Prop :=
  ∀ (c : Cavern) (fill : Bool) (air : Nat) (s : State), (s.cavern c).mass ≤ 100000000 →
    ((s.cavern c).mass : Int) = (s.cavern c).loaded + (s.cavern c).filled - (s.cavern c).withdrawn +
      (s.cavern c).reconciled →
    0 ≤ (s.cavern c).filled → (s.cavern c).filled + air ≤ 9223372036854775807 →
    0 ≤ (s.cavern c).withdrawn → (s.cavern c).withdrawn + air ≤ 9223372036854775807 →
    let t := applyAir c fill air s
    ((t.cavern c).mass : Int) = (t.cavern c).loaded + (t.cavern c).filled - (t.cavern c).withdrawn +
      (t.cavern c).reconciled ∧ (t.cavern c).mass ≤ 100000000

/-- O54. A command row has the effect of its bytes clocked one at a time (R175, R179, R180). For every command row that
stands for a command of the catalogue, and every released part in any state, running the row is clocking its code
byte and parameter bytes, written from the catalogue, one byte at a time into its port (for SET TIME at a moment not
later than the latest one shown). That a row carries a whole command's bytes in one frame is the model's choice (log
9). -/
def Obligations.CommandsAreTheirBytes : Prop :=
  ∀ c p code params s, wire c = some (p, code, params) → s.pins.resetLow = false →
    noLaterThan s.pck.moment c = true → exec c s = .next (clockBytes p (code :: params) s)

/-- O55. No step makes an event queue longer than 16 (R168). From every state whose event queues hold at most 16
records, every step leads to such a state. -/
def Obligations.QueuesStayBounded : Prop :=
  ∀ s t, QueuesBounded s → step s = .next t → QueuesBounded t

/-- O56. No step makes the settlement ring longer than 32 records or a stack longer than 24 parcels, and every step
keeps the accounts (R88, R47, R1, R33, R48, R66). From every state whose ring holds at most 32 records and whose
stacks hold at most 24 parcels each, every step leads to such a state. From every state in which each cavern's mass
is at most 100,000,000 kg and equals loaded + filled − withdrawn + reconciled-net, and each store's content is at
most its capacity and equals deposited − drawn − written-off + reconciled-net, with every counter within 2^62 of 0,
so that no step saturates it, every step leads to a state with balanced accounts. -/
def Obligations.BooksStayBounded : Prop :=
  (∀ s t, RingBounded s → StacksBounded s → step s = .next t → RingBounded t ∧ StacksBounded t) ∧
    ∀ s t, AccountsBalanced s → CountersRoomy s → step s = .next t → AccountsBalanced t

/-- O57. Every step keeps 96 slot records, each holding the interval of the window at its index (R78, R81, R83). From
every state whose book has 96 records, each holding the interval of the window that falls on its index, every step
leads to such a state. -/
def Obligations.WindowStaysIndexed : Prop :=
  ∀ s t, BookIndexed s → step s = .next t → BookIndexed t

/-- O58. Every step keeps the permit queue equal to the QUEUED trains, every order within its law, and a free engine
with nothing waiting (R123, R135, R94). From every state in which the permit request queue holds exactly the QUEUED
trains once each, every step leads to such a state; from every state in which no order exceeds its train's
capability and every train that is not GRANTED or RUNNING, or is HELD, has order 0, every step leads to such a
state; and from every state in which, while RESET is released, a free engine has no recheck flag set and no walk
waiting, every step leads to such a state. -/
def Obligations.PermitsAndOrdersStayLawful : Prop :=
  (∀ s t, QueueMatchesPermits s → step s = .next t → QueueMatchesPermits t) ∧
    (∀ s t, OrdersLawful s → step s = .next t → OrdersLawful t) ∧
    ∀ s t, EngineSettled s → step s = .next t → EngineSettled t

/-- O59. A slot becomes COMMITTED only at the completion of a CONFIRM walk (R107, R79). For every command and state, a
slot record that is COMMITTED after the command and was not before shows that the command was
CONFIRM_WALK_COMPLETION. -/
def Obligations.OnlyConfirmCommits : Prop :=
  ∀ c s t, exec c s = .next t →
    (∃ n, (t.slot n).state = .committed ∧ (s.slot n).state ≠ .committed) → c = .confirmWalkCompletion

/-- O60. The bounds and laws that every step keeps hold after reset (R33, R66, R78, R88, R94, R117, R123, R168). After
the rise of RESET, for every pin level, moment and waiting queue, the event queues, ring and stacks are within their
bounds, the book is indexed, the permit queue matches the permits, every order is within its law, the accounts are
balanced, and the free engine has nothing waiting. -/
def Obligations.BoundsHoldAtReset : Prop :=
  ∀ pins now waiting, let t := State.afterReset pins now waiting
    QueuesBounded t ∧ RingBounded t ∧ StacksBounded t ∧ BookIndexed t ∧ QueueMatchesPermits t ∧ OrdersLawful t ∧
      AccountsBalanced t ∧ EngineSettled t
end

