-- ==== Sys2Proof/Laws/State.lean ====
section
/-! SUPPORT. One lemma for each field and each update of the state: what a changed record leaves as it was, and what it holds. -/

namespace Sys2Proof.Machine

/-! ## Records by name -/

/-- Reading a record after a record is replaced. -/
@[simp] theorem Spi.get_set (x : Spi) (a b : Port) (v : PortIface) :
    (x.set a v).get b = if b = a then v else x.get b := by cases a <;> cases b <;> rfl
/-- A record replaced by itself. -/
@[simp] theorem Spi.set_get (x : Spi) (a : Port) : x.set a (x.get a) = x := by cases a <;> rfl
/-- A record replaced twice. -/
@[simp] theorem Spi.set_set (x : Spi) (a : Port) (v w : PortIface) : (x.set a v).set a w = x.set a w := by cases a <;> rfl

/-- Reading a record after a record is replaced. -/
@[simp] theorem Evr.get_set (x : Evr) (a b : Port) (v : EventPort) :
    (x.set a v).get b = if b = a then v else x.get b := by cases a <;> cases b <;> rfl
/-- A record replaced by itself. -/
@[simp] theorem Evr.set_get (x : Evr) (a : Port) : x.set a (x.get a) = x := by cases a <;> rfl
/-- A record replaced twice. -/
@[simp] theorem Evr.set_set (x : Evr) (a : Port) (v w : EventPort) : (x.set a v).set a w = x.set a w := by cases a <;> rfl

/-- Reading a record after a record is replaced. -/
@[simp] theorem Ilr.get_set (x : Ilr) (a b : Source) (v : SourceRec) :
    (x.set a v).get b = if b = a then v else x.get b := by cases a <;> cases b <;> rfl
/-- A record replaced by itself. -/
@[simp] theorem Ilr.set_get (x : Ilr) (a : Source) : x.set a (x.get a) = x := by cases a <;> rfl
/-- A record replaced twice. -/
@[simp] theorem Ilr.set_set (x : Ilr) (a : Source) (v w : SourceRec) : (x.set a v).set a w = x.set a w := by cases a <;> rfl
@[simp] theorem Ilr.line_set (x : Ilr) (a : Source) (v : SourceRec) : (x.set a v).line = x.line := by cases a <;> rfl

/-- Reading a record after a record is replaced. -/
@[simp] theorem Ciu.get_set (x : Ciu) (a b : Cavern) (v : CavernRec) :
    (x.set a v).get b = if b = a then v else x.get b := by cases a <;> cases b <;> rfl
/-- A record replaced by itself. -/
@[simp] theorem Ciu.set_get (x : Ciu) (a : Cavern) : x.set a (x.get a) = x := by cases a <;> rfl
/-- A record replaced twice. -/
@[simp] theorem Ciu.set_set (x : Ciu) (a : Cavern) (v w : CavernRec) : (x.set a v).set a w = x.set a w := by cases a <;> rfl
@[simp] theorem Ciu.hwCode_set (x : Ciu) (a : Cavern) (v : CavernRec) : (x.set a v).hwCode = x.hwCode := by cases a <;> rfl
@[simp] theorem Ciu.hwSide_set (x : Ciu) (a : Cavern) (v : CavernRec) : (x.set a v).hwSide = x.hwSide := by cases a <;> rfl
@[simp] theorem Ciu.lockEnable_set (x : Ciu) (a : Cavern) (v : CavernRec) : (x.set a v).lockEnable = x.lockEnable := by cases a <;> rfl

/-- Reading a record after a record is replaced. -/
@[simp] theorem Hsu.get_set (x : Hsu) (a b : Store) (v : StoreRec) :
    (x.set a v).get b = if b = a then v else x.get b := by cases a <;> cases b <;> rfl
/-- A record replaced by itself. -/
@[simp] theorem Hsu.set_get (x : Hsu) (a : Store) : x.set a (x.get a) = x := by cases a <;> rfl
/-- A record replaced twice. -/
@[simp] theorem Hsu.set_set (x : Hsu) (a : Store) (v w : StoreRec) : (x.set a v).set a w = x.set a w := by cases a <;> rfl
@[simp] theorem Hsu.agingTimer_set (x : Hsu) (a : Store) (v : StoreRec) : (x.set a v).agingTimer = x.agingTimer := by cases a <;> rfl
@[simp] theorem Hsu.agingDue_set (x : Hsu) (a : Store) (v : StoreRec) : (x.set a v).agingDue = x.agingDue := by cases a <;> rfl

/-- Reading a record after a record is replaced. -/
@[simp] theorem Dsu.get_set (x : Dsu) (a b : Train) (v : TrainRec) :
    (x.set a v).get b = if b = a then v else x.get b := by cases a <;> cases b <;> rfl
/-- A record replaced by itself. -/
@[simp] theorem Dsu.set_get (x : Dsu) (a : Train) : x.set a (x.get a) = x := by cases a <;> rfl
/-- A record replaced twice. -/
@[simp] theorem Dsu.set_set (x : Dsu) (a : Train) (v w : TrainRec) : (x.set a v).set a w = x.set a w := by cases a <;> rfl
@[simp] theorem Dsu.queue_set (x : Dsu) (a : Train) (v : TrainRec) : (x.set a v).queue = x.queue := by cases a <;> rfl
@[simp] theorem Dsu.view_set (x : Dsu) (a : Train) (v : TrainRec) : (x.set a v).view = x.view := by cases a <;> rfl

/-! ## Updates of the state -/

@[simp] theorem State.modPort_pins (s : State) (a : Port) (f : PortIface → PortIface) : (s.modPort a f).pins = s.pins := rfl
@[simp] theorem State.modPort_evr (s : State) (a : Port) (f : PortIface → PortIface) : (s.modPort a f).evr = s.evr := rfl
@[simp] theorem State.modPort_ilr (s : State) (a : Port) (f : PortIface → PortIface) : (s.modPort a f).ilr = s.ilr := rfl
@[simp] theorem State.modPort_pck (s : State) (a : Port) (f : PortIface → PortIface) : (s.modPort a f).pck = s.pck := rfl
@[simp] theorem State.modPort_ciu (s : State) (a : Port) (f : PortIface → PortIface) : (s.modPort a f).ciu = s.ciu := rfl
@[simp] theorem State.modPort_hsu (s : State) (a : Port) (f : PortIface → PortIface) : (s.modPort a f).hsu = s.hsu := rfl
@[simp] theorem State.modPort_sbk (s : State) (a : Port) (f : PortIface → PortIface) : (s.modPort a f).sbk = s.sbk := rfl
@[simp] theorem State.modPort_dsu (s : State) (a : Port) (f : PortIface → PortIface) : (s.modPort a f).dsu = s.dsu := rfl
@[simp] theorem State.modPort_arith (s : State) (a : Port) (f : PortIface → PortIface) : (s.modPort a f).arith = s.arith := rfl
@[simp] theorem State.modPort_pen (s : State) (a : Port) (f : PortIface → PortIface) : (s.modPort a f).pen = s.pen := rfl
@[simp] theorem State.modPort_svc (s : State) (a : Port) (f : PortIface → PortIface) : (s.modPort a f).svc = s.svc := rfl
@[simp] theorem State.modPort_pending (s : State) (a : Port) (f : PortIface → PortIface) : (s.modPort a f).pending = s.pending := rfl
theorem State.modPort_spi (s : State) (a : Port) (f : PortIface → PortIface) :
    (s.modPort a f).spi = s.spi.set a (f (s.spi.get a)) := rfl
/-- Reading a record after a change. -/
@[simp] theorem State.modPort_port (s : State) (a b : Port) (f : PortIface → PortIface) :
    (s.modPort a f).port b = if b = a then f (s.port a) else s.port b := by simp [State.port, State.modPort]
@[simp] theorem State.modPort_events (s : State) (a : Port) (f : PortIface → PortIface) (b : Port) :
    (s.modPort a f).events b = s.events b := rfl
@[simp] theorem State.modPort_cavern (s : State) (a : Port) (f : PortIface → PortIface) (b : Cavern) :
    (s.modPort a f).cavern b = s.cavern b := rfl
@[simp] theorem State.modPort_store (s : State) (a : Port) (f : PortIface → PortIface) (b : Store) :
    (s.modPort a f).store b = s.store b := rfl
@[simp] theorem State.modPort_train (s : State) (a : Port) (f : PortIface → PortIface) (b : Train) :
    (s.modPort a f).train b = s.train b := rfl
@[simp] theorem State.modPort_slot (s : State) (a : Port) (f : PortIface → PortIface) (n : Nat) : (s.modPort a f).slot n = s.slot n := rfl

@[simp] theorem State.modEvents_pins (s : State) (a : Port) (f : EventPort → EventPort) : (s.modEvents a f).pins = s.pins := rfl
@[simp] theorem State.modEvents_spi (s : State) (a : Port) (f : EventPort → EventPort) : (s.modEvents a f).spi = s.spi := rfl
@[simp] theorem State.modEvents_ilr (s : State) (a : Port) (f : EventPort → EventPort) : (s.modEvents a f).ilr = s.ilr := rfl
@[simp] theorem State.modEvents_pck (s : State) (a : Port) (f : EventPort → EventPort) : (s.modEvents a f).pck = s.pck := rfl
@[simp] theorem State.modEvents_ciu (s : State) (a : Port) (f : EventPort → EventPort) : (s.modEvents a f).ciu = s.ciu := rfl
@[simp] theorem State.modEvents_hsu (s : State) (a : Port) (f : EventPort → EventPort) : (s.modEvents a f).hsu = s.hsu := rfl
@[simp] theorem State.modEvents_sbk (s : State) (a : Port) (f : EventPort → EventPort) : (s.modEvents a f).sbk = s.sbk := rfl
@[simp] theorem State.modEvents_dsu (s : State) (a : Port) (f : EventPort → EventPort) : (s.modEvents a f).dsu = s.dsu := rfl
@[simp] theorem State.modEvents_arith (s : State) (a : Port) (f : EventPort → EventPort) : (s.modEvents a f).arith = s.arith := rfl
@[simp] theorem State.modEvents_pen (s : State) (a : Port) (f : EventPort → EventPort) : (s.modEvents a f).pen = s.pen := rfl
@[simp] theorem State.modEvents_svc (s : State) (a : Port) (f : EventPort → EventPort) : (s.modEvents a f).svc = s.svc := rfl
@[simp] theorem State.modEvents_pending (s : State) (a : Port) (f : EventPort → EventPort) : (s.modEvents a f).pending = s.pending := rfl
theorem State.modEvents_evr (s : State) (a : Port) (f : EventPort → EventPort) :
    (s.modEvents a f).evr = s.evr.set a (f (s.evr.get a)) := rfl
/-- Reading a record after a change. -/
@[simp] theorem State.modEvents_events (s : State) (a b : Port) (f : EventPort → EventPort) :
    (s.modEvents a f).events b = if b = a then f (s.events a) else s.events b := by simp [State.events, State.modEvents]
@[simp] theorem State.modEvents_port (s : State) (a : Port) (f : EventPort → EventPort) (b : Port) :
    (s.modEvents a f).port b = s.port b := rfl
@[simp] theorem State.modEvents_cavern (s : State) (a : Port) (f : EventPort → EventPort) (b : Cavern) :
    (s.modEvents a f).cavern b = s.cavern b := rfl
@[simp] theorem State.modEvents_store (s : State) (a : Port) (f : EventPort → EventPort) (b : Store) :
    (s.modEvents a f).store b = s.store b := rfl
@[simp] theorem State.modEvents_train (s : State) (a : Port) (f : EventPort → EventPort) (b : Train) :
    (s.modEvents a f).train b = s.train b := rfl
@[simp] theorem State.modEvents_slot (s : State) (a : Port) (f : EventPort → EventPort) (n : Nat) : (s.modEvents a f).slot n = s.slot n := rfl
@[simp] theorem State.modEvents_presence (s : State) (a : Port) (f : EventPort → EventPort) (p : Port) :
    (s.modEvents a f).presence p = s.presence p := rfl

@[simp] theorem State.modSource_pins (s : State) (a : Source) (f : SourceRec → SourceRec) : (s.modSource a f).pins = s.pins := rfl
@[simp] theorem State.modSource_spi (s : State) (a : Source) (f : SourceRec → SourceRec) : (s.modSource a f).spi = s.spi := rfl
@[simp] theorem State.modSource_evr (s : State) (a : Source) (f : SourceRec → SourceRec) : (s.modSource a f).evr = s.evr := rfl
@[simp] theorem State.modSource_pck (s : State) (a : Source) (f : SourceRec → SourceRec) : (s.modSource a f).pck = s.pck := rfl
@[simp] theorem State.modSource_ciu (s : State) (a : Source) (f : SourceRec → SourceRec) : (s.modSource a f).ciu = s.ciu := rfl
@[simp] theorem State.modSource_hsu (s : State) (a : Source) (f : SourceRec → SourceRec) : (s.modSource a f).hsu = s.hsu := rfl
@[simp] theorem State.modSource_sbk (s : State) (a : Source) (f : SourceRec → SourceRec) : (s.modSource a f).sbk = s.sbk := rfl
@[simp] theorem State.modSource_dsu (s : State) (a : Source) (f : SourceRec → SourceRec) : (s.modSource a f).dsu = s.dsu := rfl
@[simp] theorem State.modSource_arith (s : State) (a : Source) (f : SourceRec → SourceRec) : (s.modSource a f).arith = s.arith := rfl
@[simp] theorem State.modSource_pen (s : State) (a : Source) (f : SourceRec → SourceRec) : (s.modSource a f).pen = s.pen := rfl
@[simp] theorem State.modSource_svc (s : State) (a : Source) (f : SourceRec → SourceRec) : (s.modSource a f).svc = s.svc := rfl
@[simp] theorem State.modSource_pending (s : State) (a : Source) (f : SourceRec → SourceRec) : (s.modSource a f).pending = s.pending := rfl
theorem State.modSource_ilr (s : State) (a : Source) (f : SourceRec → SourceRec) :
    (s.modSource a f).ilr = s.ilr.set a (f (s.ilr.get a)) := rfl
@[simp] theorem State.modSource_port (s : State) (a : Source) (f : SourceRec → SourceRec) (b : Port) :
    (s.modSource a f).port b = s.port b := rfl
@[simp] theorem State.modSource_events (s : State) (a : Source) (f : SourceRec → SourceRec) (b : Port) :
    (s.modSource a f).events b = s.events b := rfl
@[simp] theorem State.modSource_cavern (s : State) (a : Source) (f : SourceRec → SourceRec) (b : Cavern) :
    (s.modSource a f).cavern b = s.cavern b := rfl
@[simp] theorem State.modSource_store (s : State) (a : Source) (f : SourceRec → SourceRec) (b : Store) :
    (s.modSource a f).store b = s.store b := rfl
@[simp] theorem State.modSource_train (s : State) (a : Source) (f : SourceRec → SourceRec) (b : Train) :
    (s.modSource a f).train b = s.train b := rfl
@[simp] theorem State.modSource_slot (s : State) (a : Source) (f : SourceRec → SourceRec) (n : Nat) : (s.modSource a f).slot n = s.slot n := rfl
@[simp] theorem State.modSource_presence (s : State) (a : Source) (f : SourceRec → SourceRec) (p : Port) :
    (s.modSource a f).presence p = s.presence p := rfl

@[simp] theorem State.modCavern_pins (s : State) (a : Cavern) (f : CavernRec → CavernRec) : (s.modCavern a f).pins = s.pins := rfl
@[simp] theorem State.modCavern_spi (s : State) (a : Cavern) (f : CavernRec → CavernRec) : (s.modCavern a f).spi = s.spi := rfl
@[simp] theorem State.modCavern_evr (s : State) (a : Cavern) (f : CavernRec → CavernRec) : (s.modCavern a f).evr = s.evr := rfl
@[simp] theorem State.modCavern_ilr (s : State) (a : Cavern) (f : CavernRec → CavernRec) : (s.modCavern a f).ilr = s.ilr := rfl
@[simp] theorem State.modCavern_pck (s : State) (a : Cavern) (f : CavernRec → CavernRec) : (s.modCavern a f).pck = s.pck := rfl
@[simp] theorem State.modCavern_hsu (s : State) (a : Cavern) (f : CavernRec → CavernRec) : (s.modCavern a f).hsu = s.hsu := rfl
@[simp] theorem State.modCavern_sbk (s : State) (a : Cavern) (f : CavernRec → CavernRec) : (s.modCavern a f).sbk = s.sbk := rfl
@[simp] theorem State.modCavern_dsu (s : State) (a : Cavern) (f : CavernRec → CavernRec) : (s.modCavern a f).dsu = s.dsu := rfl
@[simp] theorem State.modCavern_arith (s : State) (a : Cavern) (f : CavernRec → CavernRec) : (s.modCavern a f).arith = s.arith := rfl
@[simp] theorem State.modCavern_pen (s : State) (a : Cavern) (f : CavernRec → CavernRec) : (s.modCavern a f).pen = s.pen := rfl
@[simp] theorem State.modCavern_svc (s : State) (a : Cavern) (f : CavernRec → CavernRec) : (s.modCavern a f).svc = s.svc := rfl
@[simp] theorem State.modCavern_pending (s : State) (a : Cavern) (f : CavernRec → CavernRec) : (s.modCavern a f).pending = s.pending := rfl
theorem State.modCavern_ciu (s : State) (a : Cavern) (f : CavernRec → CavernRec) :
    (s.modCavern a f).ciu = s.ciu.set a (f (s.ciu.get a)) := rfl
/-- Reading a record after a change. -/
@[simp] theorem State.modCavern_cavern (s : State) (a b : Cavern) (f : CavernRec → CavernRec) :
    (s.modCavern a f).cavern b = if b = a then f (s.cavern a) else s.cavern b := by simp [State.cavern, State.modCavern]
@[simp] theorem State.modCavern_port (s : State) (a : Cavern) (f : CavernRec → CavernRec) (b : Port) :
    (s.modCavern a f).port b = s.port b := rfl
@[simp] theorem State.modCavern_events (s : State) (a : Cavern) (f : CavernRec → CavernRec) (b : Port) :
    (s.modCavern a f).events b = s.events b := rfl
@[simp] theorem State.modCavern_store (s : State) (a : Cavern) (f : CavernRec → CavernRec) (b : Store) :
    (s.modCavern a f).store b = s.store b := rfl
@[simp] theorem State.modCavern_train (s : State) (a : Cavern) (f : CavernRec → CavernRec) (b : Train) :
    (s.modCavern a f).train b = s.train b := rfl
@[simp] theorem State.modCavern_slot (s : State) (a : Cavern) (f : CavernRec → CavernRec) (n : Nat) : (s.modCavern a f).slot n = s.slot n := rfl
@[simp] theorem State.modCavern_presence (s : State) (a : Cavern) (f : CavernRec → CavernRec) (p : Port) :
    (s.modCavern a f).presence p = s.presence p := rfl

@[simp] theorem State.modStore_pins (s : State) (a : Store) (f : StoreRec → StoreRec) : (s.modStore a f).pins = s.pins := rfl
@[simp] theorem State.modStore_spi (s : State) (a : Store) (f : StoreRec → StoreRec) : (s.modStore a f).spi = s.spi := rfl
@[simp] theorem State.modStore_evr (s : State) (a : Store) (f : StoreRec → StoreRec) : (s.modStore a f).evr = s.evr := rfl
@[simp] theorem State.modStore_ilr (s : State) (a : Store) (f : StoreRec → StoreRec) : (s.modStore a f).ilr = s.ilr := rfl
@[simp] theorem State.modStore_pck (s : State) (a : Store) (f : StoreRec → StoreRec) : (s.modStore a f).pck = s.pck := rfl
@[simp] theorem State.modStore_ciu (s : State) (a : Store) (f : StoreRec → StoreRec) : (s.modStore a f).ciu = s.ciu := rfl
@[simp] theorem State.modStore_sbk (s : State) (a : Store) (f : StoreRec → StoreRec) : (s.modStore a f).sbk = s.sbk := rfl
@[simp] theorem State.modStore_dsu (s : State) (a : Store) (f : StoreRec → StoreRec) : (s.modStore a f).dsu = s.dsu := rfl
@[simp] theorem State.modStore_arith (s : State) (a : Store) (f : StoreRec → StoreRec) : (s.modStore a f).arith = s.arith := rfl
@[simp] theorem State.modStore_pen (s : State) (a : Store) (f : StoreRec → StoreRec) : (s.modStore a f).pen = s.pen := rfl
@[simp] theorem State.modStore_svc (s : State) (a : Store) (f : StoreRec → StoreRec) : (s.modStore a f).svc = s.svc := rfl
@[simp] theorem State.modStore_pending (s : State) (a : Store) (f : StoreRec → StoreRec) : (s.modStore a f).pending = s.pending := rfl
theorem State.modStore_hsu (s : State) (a : Store) (f : StoreRec → StoreRec) :
    (s.modStore a f).hsu = s.hsu.set a (f (s.hsu.get a)) := rfl
/-- Reading a record after a change. -/
@[simp] theorem State.modStore_store (s : State) (a b : Store) (f : StoreRec → StoreRec) :
    (s.modStore a f).store b = if b = a then f (s.store a) else s.store b := by simp [State.store, State.modStore]
@[simp] theorem State.modStore_port (s : State) (a : Store) (f : StoreRec → StoreRec) (b : Port) :
    (s.modStore a f).port b = s.port b := rfl
@[simp] theorem State.modStore_events (s : State) (a : Store) (f : StoreRec → StoreRec) (b : Port) :
    (s.modStore a f).events b = s.events b := rfl
@[simp] theorem State.modStore_cavern (s : State) (a : Store) (f : StoreRec → StoreRec) (b : Cavern) :
    (s.modStore a f).cavern b = s.cavern b := rfl
@[simp] theorem State.modStore_train (s : State) (a : Store) (f : StoreRec → StoreRec) (b : Train) :
    (s.modStore a f).train b = s.train b := rfl
@[simp] theorem State.modStore_slot (s : State) (a : Store) (f : StoreRec → StoreRec) (n : Nat) : (s.modStore a f).slot n = s.slot n := rfl
@[simp] theorem State.modStore_presence (s : State) (a : Store) (f : StoreRec → StoreRec) (p : Port) :
    (s.modStore a f).presence p = s.presence p := rfl

@[simp] theorem State.modTrain_pins (s : State) (a : Train) (f : TrainRec → TrainRec) : (s.modTrain a f).pins = s.pins := rfl
@[simp] theorem State.modTrain_spi (s : State) (a : Train) (f : TrainRec → TrainRec) : (s.modTrain a f).spi = s.spi := rfl
@[simp] theorem State.modTrain_evr (s : State) (a : Train) (f : TrainRec → TrainRec) : (s.modTrain a f).evr = s.evr := rfl
@[simp] theorem State.modTrain_ilr (s : State) (a : Train) (f : TrainRec → TrainRec) : (s.modTrain a f).ilr = s.ilr := rfl
@[simp] theorem State.modTrain_pck (s : State) (a : Train) (f : TrainRec → TrainRec) : (s.modTrain a f).pck = s.pck := rfl
@[simp] theorem State.modTrain_ciu (s : State) (a : Train) (f : TrainRec → TrainRec) : (s.modTrain a f).ciu = s.ciu := rfl
@[simp] theorem State.modTrain_hsu (s : State) (a : Train) (f : TrainRec → TrainRec) : (s.modTrain a f).hsu = s.hsu := rfl
@[simp] theorem State.modTrain_sbk (s : State) (a : Train) (f : TrainRec → TrainRec) : (s.modTrain a f).sbk = s.sbk := rfl
@[simp] theorem State.modTrain_arith (s : State) (a : Train) (f : TrainRec → TrainRec) : (s.modTrain a f).arith = s.arith := rfl
@[simp] theorem State.modTrain_pen (s : State) (a : Train) (f : TrainRec → TrainRec) : (s.modTrain a f).pen = s.pen := rfl
@[simp] theorem State.modTrain_svc (s : State) (a : Train) (f : TrainRec → TrainRec) : (s.modTrain a f).svc = s.svc := rfl
@[simp] theorem State.modTrain_pending (s : State) (a : Train) (f : TrainRec → TrainRec) : (s.modTrain a f).pending = s.pending := rfl
theorem State.modTrain_dsu (s : State) (a : Train) (f : TrainRec → TrainRec) :
    (s.modTrain a f).dsu = s.dsu.set a (f (s.dsu.get a)) := rfl
/-- Reading a record after a change. -/
@[simp] theorem State.modTrain_train (s : State) (a b : Train) (f : TrainRec → TrainRec) :
    (s.modTrain a f).train b = if b = a then f (s.train a) else s.train b := by simp [State.train, State.modTrain]
@[simp] theorem State.modTrain_port (s : State) (a : Train) (f : TrainRec → TrainRec) (b : Port) :
    (s.modTrain a f).port b = s.port b := rfl
@[simp] theorem State.modTrain_events (s : State) (a : Train) (f : TrainRec → TrainRec) (b : Port) :
    (s.modTrain a f).events b = s.events b := rfl
@[simp] theorem State.modTrain_cavern (s : State) (a : Train) (f : TrainRec → TrainRec) (b : Cavern) :
    (s.modTrain a f).cavern b = s.cavern b := rfl
@[simp] theorem State.modTrain_store (s : State) (a : Train) (f : TrainRec → TrainRec) (b : Store) :
    (s.modTrain a f).store b = s.store b := rfl
@[simp] theorem State.modTrain_slot (s : State) (a : Train) (f : TrainRec → TrainRec) (n : Nat) : (s.modTrain a f).slot n = s.slot n := rfl
@[simp] theorem State.modTrain_presence (s : State) (a : Train) (f : TrainRec → TrainRec) (p : Port) :
    (s.modTrain a f).presence p = s.presence p := rfl

/-- The presence after a change of a port. -/
theorem State.modPort_presence (s : State) (a b : Port) (f : PortIface → PortIface) :
    (s.modPort a f).presence b = if b = a then (f (s.port a)).presence else s.presence b := by
  simp only [State.presence, State.modPort_port]; split <;> rfl

@[simp] theorem State.modSlot_pins (s : State) (n : Nat) (f : Slot → Slot) : (s.modSlot n f).pins = s.pins := rfl
@[simp] theorem State.modSlot_spi (s : State) (n : Nat) (f : Slot → Slot) : (s.modSlot n f).spi = s.spi := rfl
@[simp] theorem State.modSlot_evr (s : State) (n : Nat) (f : Slot → Slot) : (s.modSlot n f).evr = s.evr := rfl
@[simp] theorem State.modSlot_ilr (s : State) (n : Nat) (f : Slot → Slot) : (s.modSlot n f).ilr = s.ilr := rfl
@[simp] theorem State.modSlot_pck (s : State) (n : Nat) (f : Slot → Slot) : (s.modSlot n f).pck = s.pck := rfl
@[simp] theorem State.modSlot_ciu (s : State) (n : Nat) (f : Slot → Slot) : (s.modSlot n f).ciu = s.ciu := rfl
@[simp] theorem State.modSlot_hsu (s : State) (n : Nat) (f : Slot → Slot) : (s.modSlot n f).hsu = s.hsu := rfl
@[simp] theorem State.modSlot_dsu (s : State) (n : Nat) (f : Slot → Slot) : (s.modSlot n f).dsu = s.dsu := rfl
@[simp] theorem State.modSlot_arith (s : State) (n : Nat) (f : Slot → Slot) : (s.modSlot n f).arith = s.arith := rfl
@[simp] theorem State.modSlot_pen (s : State) (n : Nat) (f : Slot → Slot) : (s.modSlot n f).pen = s.pen := rfl
@[simp] theorem State.modSlot_svc (s : State) (n : Nat) (f : Slot → Slot) : (s.modSlot n f).svc = s.svc := rfl
@[simp] theorem State.modSlot_pending (s : State) (n : Nat) (f : Slot → Slot) : (s.modSlot n f).pending = s.pending := rfl
@[simp] theorem State.modSlot_current (s : State) (n : Nat) (f : Slot → Slot) : (s.modSlot n f).sbk.current = s.sbk.current := rfl
@[simp] theorem State.modSlot_unscheduled (s : State) (n : Nat) (f : Slot → Slot) : (s.modSlot n f).sbk.unscheduled = s.sbk.unscheduled := rfl
@[simp] theorem State.modSlot_ring (s : State) (n : Nat) (f : Slot → Slot) : (s.modSlot n f).sbk.ring = s.sbk.ring := rfl
@[simp] theorem State.modSlot_port (s : State) (n : Nat) (f : Slot → Slot) (b : Port) :
    (s.modSlot n f).port b = s.port b := rfl
@[simp] theorem State.modSlot_events (s : State) (n : Nat) (f : Slot → Slot) (b : Port) :
    (s.modSlot n f).events b = s.events b := rfl
@[simp] theorem State.modSlot_cavern (s : State) (n : Nat) (f : Slot → Slot) (b : Cavern) :
    (s.modSlot n f).cavern b = s.cavern b := rfl
@[simp] theorem State.modSlot_store (s : State) (n : Nat) (f : Slot → Slot) (b : Store) :
    (s.modSlot n f).store b = s.store b := rfl
@[simp] theorem State.modSlot_train (s : State) (n : Nat) (f : Slot → Slot) (b : Train) :
    (s.modSlot n f).train b = s.train b := rfl
@[simp] theorem State.modSlot_presence (s : State) (n : Nat) (f : Slot → Slot) (p : Port) :
    (s.modSlot n f).presence p = s.presence p := rfl
/-- A changed slot keeps the number of records. -/
@[simp] theorem State.modSlot_length (s : State) (n : Nat) (f : Slot → Slot) :
    (s.modSlot n f).sbk.slots.length = s.sbk.slots.length := by simp [State.modSlot]
/-- Reading a slot after a change, in a book of 96 records. -/
theorem State.modSlot_slot (s : State) (n m : Nat) (f : Slot → Slot) (h : s.sbk.slots.length = 96) :
    (s.modSlot n f).slot m = if m % 96 = n % 96 then f (s.slot n) else s.slot m := by
  have hm : m % 96 < 96 := Nat.mod_lt _ (by decide)
  simp only [State.modSlot, State.slot, Config.slotCount, List.getD_eq_getElem?_getD, List.getElem?_set]
  by_cases e : n % 96 = m % 96
  · rw [if_pos e, if_pos (by omega), if_pos e.symm]; rfl
  · rw [if_neg e, if_neg (fun x => e x.symm)]

@[simp] theorem State.withPending_pins (s : State) (q : List Instr) : (s.withPending q).pins = s.pins := rfl
@[simp] theorem State.withPending_spi (s : State) (q : List Instr) : (s.withPending q).spi = s.spi := rfl
@[simp] theorem State.withPending_evr (s : State) (q : List Instr) : (s.withPending q).evr = s.evr := rfl
@[simp] theorem State.withPending_ilr (s : State) (q : List Instr) : (s.withPending q).ilr = s.ilr := rfl
@[simp] theorem State.withPending_pck (s : State) (q : List Instr) : (s.withPending q).pck = s.pck := rfl
@[simp] theorem State.withPending_ciu (s : State) (q : List Instr) : (s.withPending q).ciu = s.ciu := rfl
@[simp] theorem State.withPending_hsu (s : State) (q : List Instr) : (s.withPending q).hsu = s.hsu := rfl
@[simp] theorem State.withPending_sbk (s : State) (q : List Instr) : (s.withPending q).sbk = s.sbk := rfl
@[simp] theorem State.withPending_dsu (s : State) (q : List Instr) : (s.withPending q).dsu = s.dsu := rfl
@[simp] theorem State.withPending_arith (s : State) (q : List Instr) : (s.withPending q).arith = s.arith := rfl
@[simp] theorem State.withPending_pen (s : State) (q : List Instr) : (s.withPending q).pen = s.pen := rfl
@[simp] theorem State.withPending_svc (s : State) (q : List Instr) : (s.withPending q).svc = s.svc := rfl
@[simp] theorem State.withPending_pending (s : State) (q : List Instr) : (s.withPending q).pending = q := rfl

end Sys2Proof.Machine
end

