-- ==== Sys2Proof/Laws/Ops.lean ====
section
/-! SUPPORT. What each shared operation leaves as it was: one lemma for each, over the fields of the state it does not write. Events, captures, conditions and the two units. -/

namespace Sys2Proof.Machine

/-- A list of steps that each keep a figure keeps it. -/
theorem foldl_keeps {α β γ : Type} (g : β → γ) (f : β → α → β) (h : ∀ s x, g (f s x) = g s) (l : List α) (s : β) :
    g (l.foldl f s) = g s := by
  induction l generalizing s with
  | nil => rfl
  | cons x l ih => rw [List.foldl_cons, ih, h]

/-! ## Events and captures (R165 to R168, R22) -/

@[simp] theorem State.route_frame (s : State) (r : EventRecord) :
    (s.route r).pins = s.pins ∧
    (s.route r).spi = s.spi ∧
    (s.route r).ilr = s.ilr ∧
    (s.route r).pck = s.pck ∧
    (s.route r).ciu = s.ciu ∧
    (s.route r).hsu = s.hsu ∧
    (s.route r).sbk = s.sbk ∧
    (s.route r).dsu = s.dsu ∧
    (s.route r).arith = s.arith ∧
    (s.route r).pen = s.pen ∧
    (s.route r).svc = s.svc ∧
    (s.route r).pending = s.pending := by
  simp [State.route]

@[simp] theorem emit_frame (kind : EventKind) (cls : EventClass) (subject : Subject) (w1 w2 : Int) (s : State) :
    (emit kind cls subject w1 w2 s).pins = s.pins ∧
    (emit kind cls subject w1 w2 s).spi = s.spi ∧
    (emit kind cls subject w1 w2 s).ilr = s.ilr ∧
    (emit kind cls subject w1 w2 s).pck = s.pck ∧
    (emit kind cls subject w1 w2 s).ciu = s.ciu ∧
    (emit kind cls subject w1 w2 s).hsu = s.hsu ∧
    (emit kind cls subject w1 w2 s).sbk = s.sbk ∧
    (emit kind cls subject w1 w2 s).dsu = s.dsu ∧
    (emit kind cls subject w1 w2 s).arith = s.arith ∧
    (emit kind cls subject w1 w2 s).pen = s.pen ∧
    (emit kind cls subject w1 w2 s).svc = s.svc ∧
    (emit kind cls subject w1 w2 s).pending = s.pending := by
  simp [emit]

@[simp] theorem capture_frame (code : ExcCode) (source : ExcSource) (subject : Subject) (slot : Option Nat) (s : State) :
    (capture code source subject slot s).pins = s.pins ∧
    (capture code source subject slot s).spi = s.spi ∧
    (capture code source subject slot s).ilr = s.ilr ∧
    (capture code source subject slot s).pck = s.pck ∧
    (capture code source subject slot s).ciu = s.ciu ∧
    (capture code source subject slot s).hsu = s.hsu ∧
    (capture code source subject slot s).sbk = s.sbk ∧
    (capture code source subject slot s).dsu = s.dsu ∧
    (capture code source subject slot s).pen = s.pen ∧
    (capture code source subject slot s).svc = s.svc ∧
    (capture code source subject slot s).pending = s.pending := by
  simp only [capture]; repeat' split
  all_goals simp

@[simp] theorem raise_frame (exc : Option ExcCode) (source : ExcSource) (subject : Subject) (s : State) :
    (raise exc source subject s).pins = s.pins ∧
    (raise exc source subject s).spi = s.spi ∧
    (raise exc source subject s).ilr = s.ilr ∧
    (raise exc source subject s).pck = s.pck ∧
    (raise exc source subject s).ciu = s.ciu ∧
    (raise exc source subject s).hsu = s.hsu ∧
    (raise exc source subject s).sbk = s.sbk ∧
    (raise exc source subject s).dsu = s.dsu ∧
    (raise exc source subject s).pen = s.pen ∧
    (raise exc source subject s).svc = s.svc ∧
    (raise exc source subject s).pending = s.pending := by
  simp only [raise]; repeat' split
  all_goals simp

@[simp] theorem bumpGeneration_frame (s : State) :
    (bumpGeneration s).pins = s.pins ∧
    (bumpGeneration s).spi = s.spi ∧
    (bumpGeneration s).evr = s.evr ∧
    (bumpGeneration s).ilr = s.ilr ∧
    (bumpGeneration s).pck = s.pck ∧
    (bumpGeneration s).ciu = s.ciu ∧
    (bumpGeneration s).hsu = s.hsu ∧
    (bumpGeneration s).sbk = s.sbk ∧
    (bumpGeneration s).dsu = s.dsu ∧
    (bumpGeneration s).arith = s.arith ∧
    (bumpGeneration s).svc = s.svc ∧
    (bumpGeneration s).pending = s.pending := by
  simp [bumpGeneration]

@[simp] theorem Pen.takeUp_generation (x : Pen) : x.takeUp.generation = x.generation := by
  simp only [Pen.takeUp]; repeat' split
  all_goals rfl
@[simp] theorem Pen.takeUp_genHold (x : Pen) : x.takeUp.genHold = x.genHold := by
  simp only [Pen.takeUp]; repeat' split
  all_goals rfl
@[simp] theorem Pen.takeUp_chgHold (x : Pen) : x.takeUp.chgHold = x.chgHold := by
  simp only [Pen.takeUp]; repeat' split
  all_goals rfl
@[simp] theorem Pen.takeUp_lastLimit (x : Pen) : x.takeUp.lastLimit = x.lastLimit := by
  simp only [Pen.takeUp]; repeat' split
  all_goals rfl
/-- A busy engine takes nothing up (R94). -/
@[simp] theorem Pen.takeUp_busy (x : Pen) (h : x.flight.isSome = true) : x.takeUp = x := by simp [Pen.takeUp, h]
/-- An engine with nothing waiting stays as it is (R94). -/
@[simp] theorem Pen.takeUp_nothing (x : Pen) (h : x.recheckFlag = false) (hw : x.waiting = none) : x.takeUp = x := by
  simp [Pen.takeUp, h, hw]
/-- A free engine takes the recheck first (R94). -/
theorem Pen.takeUp_recheck (x : Pen) (h : x.flight = none) (hr : x.recheckFlag = true) :
    x.takeUp = { x with recheckFlag := false, flight := some ⟨none, none, false⟩ } := by simp [Pen.takeUp, h, hr]
/-- A free engine takes a waiting OFFER or CONFIRM where no recheck waits (R94). -/
theorem Pen.takeUp_request (x : Pen) (r : Request) (h : x.flight = none) (hr : x.recheckFlag = false)
    (hw : x.waiting = some r) : x.takeUp = { x with waiting := none, flight := some ⟨some r, none, false⟩ } := by
  simp [Pen.takeUp, h, hr, hw]
/-- After a free engine has looked, nothing waits while no walk is in flight (R94). -/
theorem Pen.takeUp_settled (x : Pen) (h : x.takeUp.flight = none) :
    x.takeUp.recheckFlag = false ∧ x.takeUp.waiting = none := by
  rcases x with ⟨r, w, f, _, _, _, _⟩
  cases f <;> cases r <;> cases w <;> simp_all [Pen.takeUp]
/-- What a recheck request does: a busy engine sets its flag, and a free one starts the recheck (R94). -/
theorem Pen.posted_eq (x : Pen) : x.posted =
    if x.flight.isSome then { x with recheckFlag := true }
    else { x with recheckFlag := false, flight := some ⟨none, none, false⟩ } := by
  rcases x with ⟨_, _, f, _, _, _, _⟩
  cases f <;> rfl

@[simp] theorem postRecheck_frame (s : State) :
    (postRecheck s).pins = s.pins ∧
    (postRecheck s).spi = s.spi ∧
    (postRecheck s).evr = s.evr ∧
    (postRecheck s).ilr = s.ilr ∧
    (postRecheck s).pck = s.pck ∧
    (postRecheck s).ciu = s.ciu ∧
    (postRecheck s).hsu = s.hsu ∧
    (postRecheck s).sbk = s.sbk ∧
    (postRecheck s).dsu = s.dsu ∧
    (postRecheck s).arith = s.arith ∧
    (postRecheck s).svc = s.svc ∧
    (postRecheck s).pending = s.pending := by
  simp only [postRecheck]; repeat' split
  all_goals simp

@[simp] theorem postRecheckInService_frame (s : State) :
    (postRecheckInService s).pins = s.pins ∧
    (postRecheckInService s).spi = s.spi ∧
    (postRecheckInService s).evr = s.evr ∧
    (postRecheckInService s).ilr = s.ilr ∧
    (postRecheckInService s).pck = s.pck ∧
    (postRecheckInService s).ciu = s.ciu ∧
    (postRecheckInService s).hsu = s.hsu ∧
    (postRecheckInService s).sbk = s.sbk ∧
    (postRecheckInService s).dsu = s.dsu ∧
    (postRecheckInService s).arith = s.arith ∧
    (postRecheckInService s).svc = s.svc ∧
    (postRecheckInService s).pending = s.pending := by
  simp only [postRecheckInService]; repeat' split
  all_goals simp

@[simp] theorem placeNow_frame (p : Port) (bytes : List Byte) (s : State) :
    (placeNow p bytes s).pins = s.pins ∧
    (placeNow p bytes s).evr = s.evr ∧
    (placeNow p bytes s).ilr = s.ilr ∧
    (placeNow p bytes s).pck = s.pck ∧
    (placeNow p bytes s).ciu = s.ciu ∧
    (placeNow p bytes s).hsu = s.hsu ∧
    (placeNow p bytes s).sbk = s.sbk ∧
    (placeNow p bytes s).dsu = s.dsu ∧
    (placeNow p bytes s).arith = s.arith ∧
    (placeNow p bytes s).pen = s.pen ∧
    (placeNow p bytes s).svc = s.svc ∧
    (placeNow p bytes s).pending = s.pending := by
  simp [placeNow]

@[simp] theorem placeLater_frame (p : Port) (bytes : List Byte) (s : State) :
    (placeLater p bytes s).pins = s.pins ∧
    (placeLater p bytes s).evr = s.evr ∧
    (placeLater p bytes s).ilr = s.ilr ∧
    (placeLater p bytes s).pck = s.pck ∧
    (placeLater p bytes s).ciu = s.ciu ∧
    (placeLater p bytes s).hsu = s.hsu ∧
    (placeLater p bytes s).sbk = s.sbk ∧
    (placeLater p bytes s).dsu = s.dsu ∧
    (placeLater p bytes s).arith = s.arith ∧
    (placeLater p bytes s).pen = s.pen ∧
    (placeLater p bytes s).svc = s.svc ∧
    (placeLater p bytes s).pending = s.pending := by
  simp [placeLater]

/-! ## Conditions, flags and hold states (R37 to R40, R53 to R59, R114) -/

@[simp] theorem setLatchOf_frame (c : Cavern) (p : Port) (s : State) :
    (setLatchOf c p s).pins = s.pins ∧
    (setLatchOf c p s).spi = s.spi ∧
    (setLatchOf c p s).ilr = s.ilr ∧
    (setLatchOf c p s).pck = s.pck ∧
    (setLatchOf c p s).ciu = s.ciu ∧
    (setLatchOf c p s).hsu = s.hsu ∧
    (setLatchOf c p s).sbk = s.sbk ∧
    (setLatchOf c p s).dsu = s.dsu ∧
    (setLatchOf c p s).arith = s.arith ∧
    (setLatchOf c p s).pen = s.pen ∧
    (setLatchOf c p s).svc = s.svc ∧
    (setLatchOf c p s).pending = s.pending := by
  simp only [setLatchOf]; repeat' split
  all_goals simp

@[simp] theorem setLatches_frame (c : Cavern) (s : State) :
    (setLatches c s).pins = s.pins ∧
    (setLatches c s).spi = s.spi ∧
    (setLatches c s).ilr = s.ilr ∧
    (setLatches c s).pck = s.pck ∧
    (setLatches c s).ciu = s.ciu ∧
    (setLatches c s).hsu = s.hsu ∧
    (setLatches c s).sbk = s.sbk ∧
    (setLatches c s).dsu = s.dsu ∧
    (setLatches c s).arith = s.arith ∧
    (setLatches c s).pen = s.pen ∧
    (setLatches c s).svc = s.svc ∧
    (setLatches c s).pending = s.pending := by
  simp [setLatches]

@[simp] theorem emitCond_frame (c : Cavern) (k : CavernCond) (entered : Bool) (s : State) :
    (emitCond c k entered s).pins = s.pins ∧
    (emitCond c k entered s).spi = s.spi ∧
    (emitCond c k entered s).ilr = s.ilr ∧
    (emitCond c k entered s).pck = s.pck ∧
    (emitCond c k entered s).ciu = s.ciu ∧
    (emitCond c k entered s).hsu = s.hsu ∧
    (emitCond c k entered s).sbk = s.sbk ∧
    (emitCond c k entered s).dsu = s.dsu ∧
    (emitCond c k entered s).arith = s.arith ∧
    (emitCond c k entered s).pen = s.pen ∧
    (emitCond c k entered s).svc = s.svc ∧
    (emitCond c k entered s).pending = s.pending := by
  simp only [emitCond]; repeat' split
  all_goals simp

@[simp] theorem changeCond_frame (c : Cavern) (k : CavernCond) (v : Bool) (s : State) :
    (changeCond c k v s).pins = s.pins ∧
    (changeCond c k v s).spi = s.spi ∧
    (changeCond c k v s).ilr = s.ilr ∧
    (changeCond c k v s).pck = s.pck ∧
    (changeCond c k v s).hsu = s.hsu ∧
    (changeCond c k v s).sbk = s.sbk ∧
    (changeCond c k v s).dsu = s.dsu ∧
    (changeCond c k v s).arith = s.arith ∧
    (changeCond c k v s).pen = s.pen ∧
    (changeCond c k v s).svc = s.svc ∧
    (changeCond c k v s).pending = s.pending := by
  simp only [changeCond]; repeat' split
  all_goals simp

@[simp] theorem evalMassConds_frame (c : Cavern) (s : State) :
    (evalMassConds c s).pins = s.pins ∧
    (evalMassConds c s).spi = s.spi ∧
    (evalMassConds c s).ilr = s.ilr ∧
    (evalMassConds c s).pck = s.pck ∧
    (evalMassConds c s).hsu = s.hsu ∧
    (evalMassConds c s).sbk = s.sbk ∧
    (evalMassConds c s).dsu = s.dsu ∧
    (evalMassConds c s).arith = s.arith ∧
    (evalMassConds c s).pen = s.pen ∧
    (evalMassConds c s).svc = s.svc ∧
    (evalMassConds c s).pending = s.pending := by
  simp only [evalMassConds]; repeat' split
  all_goals simp

@[simp] theorem evalRateHold_frame (c : Cavern) (s : State) :
    (evalRateHold c s).pins = s.pins ∧
    (evalRateHold c s).spi = s.spi ∧
    (evalRateHold c s).ilr = s.ilr ∧
    (evalRateHold c s).pck = s.pck ∧
    (evalRateHold c s).hsu = s.hsu ∧
    (evalRateHold c s).sbk = s.sbk ∧
    (evalRateHold c s).dsu = s.dsu ∧
    (evalRateHold c s).arith = s.arith ∧
    (evalRateHold c s).pen = s.pen ∧
    (evalRateHold c s).svc = s.svc ∧
    (evalRateHold c s).pending = s.pending := by
  simp only [evalRateHold]; repeat' split
  all_goals simp

@[simp] theorem evalBreach_frame (c : Cavern) (s : State) :
    (evalBreach c s).pins = s.pins ∧
    (evalBreach c s).spi = s.spi ∧
    (evalBreach c s).ilr = s.ilr ∧
    (evalBreach c s).pck = s.pck ∧
    (evalBreach c s).hsu = s.hsu ∧
    (evalBreach c s).sbk = s.sbk ∧
    (evalBreach c s).dsu = s.dsu ∧
    (evalBreach c s).arith = s.arith ∧
    (evalBreach c s).pen = s.pen ∧
    (evalBreach c s).svc = s.svc ∧
    (evalBreach c s).pending = s.pending := by
  simp only [evalBreach]; repeat' split
  all_goals simp

@[simp] theorem enterFull_frame (st : Store) (writtenOff : Nat) (s : State) :
    (enterFull st writtenOff s).pins = s.pins ∧
    (enterFull st writtenOff s).spi = s.spi ∧
    (enterFull st writtenOff s).ilr = s.ilr ∧
    (enterFull st writtenOff s).pck = s.pck ∧
    (enterFull st writtenOff s).ciu = s.ciu ∧
    (enterFull st writtenOff s).sbk = s.sbk ∧
    (enterFull st writtenOff s).dsu = s.dsu ∧
    (enterFull st writtenOff s).arith = s.arith ∧
    (enterFull st writtenOff s).pen = s.pen ∧
    (enterFull st writtenOff s).svc = s.svc ∧
    (enterFull st writtenOff s).pending = s.pending := by
  simp only [enterFull]; repeat' split
  all_goals simp

@[simp] theorem releaseFull_frame (st : Store) (s : State) :
    (releaseFull st s).pins = s.pins ∧
    (releaseFull st s).spi = s.spi ∧
    (releaseFull st s).ilr = s.ilr ∧
    (releaseFull st s).pck = s.pck ∧
    (releaseFull st s).ciu = s.ciu ∧
    (releaseFull st s).sbk = s.sbk ∧
    (releaseFull st s).dsu = s.dsu ∧
    (releaseFull st s).arith = s.arith ∧
    (releaseFull st s).pen = s.pen ∧
    (releaseFull st s).svc = s.svc ∧
    (releaseFull st s).pending = s.pending := by
  simp only [releaseFull]; repeat' split
  all_goals simp

@[simp] theorem shortDraw_frame (st : Store) (deficit needed : Nat) (s : State) :
    (shortDraw st deficit needed s).pins = s.pins ∧
    (shortDraw st deficit needed s).spi = s.spi ∧
    (shortDraw st deficit needed s).ilr = s.ilr ∧
    (shortDraw st deficit needed s).pck = s.pck ∧
    (shortDraw st deficit needed s).ciu = s.ciu ∧
    (shortDraw st deficit needed s).sbk = s.sbk ∧
    (shortDraw st deficit needed s).dsu = s.dsu ∧
    (shortDraw st deficit needed s).arith = s.arith ∧
    (shortDraw st deficit needed s).pen = s.pen ∧
    (shortDraw st deficit needed s).svc = s.svc ∧
    (shortDraw st deficit needed s).pending = s.pending := by
  simp only [shortDraw]; repeat' split
  all_goals simp

@[simp] theorem leaveShort_frame (st : Store) (s : State) :
    (leaveShort st s).pins = s.pins ∧
    (leaveShort st s).spi = s.spi ∧
    (leaveShort st s).ilr = s.ilr ∧
    (leaveShort st s).pck = s.pck ∧
    (leaveShort st s).ciu = s.ciu ∧
    (leaveShort st s).sbk = s.sbk ∧
    (leaveShort st s).dsu = s.dsu ∧
    (leaveShort st s).arith = s.arith ∧
    (leaveShort st s).pen = s.pen ∧
    (leaveShort st s).svc = s.svc ∧
    (leaveShort st s).pending = s.pending := by
  simp only [leaveShort]; repeat' split
  all_goals simp

@[simp] theorem emitHold_frame (direction : Nat) (before after : HoldReasons) (s : State) :
    (emitHold direction before after s).pins = s.pins ∧
    (emitHold direction before after s).spi = s.spi ∧
    (emitHold direction before after s).ilr = s.ilr ∧
    (emitHold direction before after s).pck = s.pck ∧
    (emitHold direction before after s).ciu = s.ciu ∧
    (emitHold direction before after s).hsu = s.hsu ∧
    (emitHold direction before after s).sbk = s.sbk ∧
    (emitHold direction before after s).dsu = s.dsu ∧
    (emitHold direction before after s).arith = s.arith ∧
    (emitHold direction before after s).pen = s.pen ∧
    (emitHold direction before after s).svc = s.svc ∧
    (emitHold direction before after s).pending = s.pending := by
  simp only [emitHold]; repeat' split
  all_goals simp

@[simp] theorem evalHold_frame (s : State) :
    (evalHold s).pins = s.pins ∧
    (evalHold s).spi = s.spi ∧
    (evalHold s).ilr = s.ilr ∧
    (evalHold s).pck = s.pck ∧
    (evalHold s).ciu = s.ciu ∧
    (evalHold s).hsu = s.hsu ∧
    (evalHold s).sbk = s.sbk ∧
    (evalHold s).dsu = s.dsu ∧
    (evalHold s).arith = s.arith ∧
    (evalHold s).svc = s.svc ∧
    (evalHold s).pending = s.pending := by
  simp [evalHold]

@[simp] theorem inventoryChange_frame (s : State) :
    (inventoryChange s).pins = s.pins ∧
    (inventoryChange s).spi = s.spi ∧
    (inventoryChange s).ilr = s.ilr ∧
    (inventoryChange s).pck = s.pck ∧
    (inventoryChange s).ciu = s.ciu ∧
    (inventoryChange s).hsu = s.hsu ∧
    (inventoryChange s).sbk = s.sbk ∧
    (inventoryChange s).dsu = s.dsu ∧
    (inventoryChange s).arith = s.arith ∧
    (inventoryChange s).svc = s.svc ∧
    (inventoryChange s).pending = s.pending := by
  simp [inventoryChange]

@[simp] theorem inventoryChangeIf_frame (changed : Bool) (s : State) :
    (inventoryChangeIf changed s).pins = s.pins ∧
    (inventoryChangeIf changed s).spi = s.spi ∧
    (inventoryChangeIf changed s).ilr = s.ilr ∧
    (inventoryChangeIf changed s).pck = s.pck ∧
    (inventoryChangeIf changed s).ciu = s.ciu ∧
    (inventoryChangeIf changed s).hsu = s.hsu ∧
    (inventoryChangeIf changed s).sbk = s.sbk ∧
    (inventoryChangeIf changed s).dsu = s.dsu ∧
    (inventoryChangeIf changed s).arith = s.arith ∧
    (inventoryChangeIf changed s).svc = s.svc ∧
    (inventoryChangeIf changed s).pending = s.pending := by
  simp only [inventoryChangeIf]; repeat' split
  all_goals simp

/-! ## The Cavern Inventory Unit (chapter 2) -/

@[simp] theorem recomputeBands_frame (c : Cavern) (s : State) :
    (recomputeBands c s).pins = s.pins ∧
    (recomputeBands c s).spi = s.spi ∧
    (recomputeBands c s).evr = s.evr ∧
    (recomputeBands c s).ilr = s.ilr ∧
    (recomputeBands c s).pck = s.pck ∧
    (recomputeBands c s).hsu = s.hsu ∧
    (recomputeBands c s).sbk = s.sbk ∧
    (recomputeBands c s).dsu = s.dsu ∧
    (recomputeBands c s).arith = s.arith ∧
    (recomputeBands c s).pen = s.pen ∧
    (recomputeBands c s).svc = s.svc ∧
    (recomputeBands c s).pending = s.pending := by
  simp [recomputeBands]

@[simp] theorem recomputeLimits_frame (c : Cavern) (s : State) :
    (recomputeLimits c s).pins = s.pins ∧
    (recomputeLimits c s).spi = s.spi ∧
    (recomputeLimits c s).ilr = s.ilr ∧
    (recomputeLimits c s).pck = s.pck ∧
    (recomputeLimits c s).hsu = s.hsu ∧
    (recomputeLimits c s).sbk = s.sbk ∧
    (recomputeLimits c s).dsu = s.dsu ∧
    (recomputeLimits c s).pen = s.pen ∧
    (recomputeLimits c s).svc = s.svc ∧
    (recomputeLimits c s).pending = s.pending := by
  simp only [recomputeLimits]; repeat' split
  all_goals simp

@[simp] theorem recomputeBudget_frame (c : Cavern) (s : State) :
    (recomputeBudget c s).pins = s.pins ∧
    (recomputeBudget c s).spi = s.spi ∧
    (recomputeBudget c s).ilr = s.ilr ∧
    (recomputeBudget c s).pck = s.pck ∧
    (recomputeBudget c s).hsu = s.hsu ∧
    (recomputeBudget c s).sbk = s.sbk ∧
    (recomputeBudget c s).dsu = s.dsu ∧
    (recomputeBudget c s).pen = s.pen ∧
    (recomputeBudget c s).svc = s.svc ∧
    (recomputeBudget c s).pending = s.pending := by
  simp only [recomputeBudget]; repeat' split
  all_goals simp

@[simp] theorem recomputeEstimate_frame (c : Cavern) (s : State) :
    (recomputeEstimate c s).pins = s.pins ∧
    (recomputeEstimate c s).spi = s.spi ∧
    (recomputeEstimate c s).ilr = s.ilr ∧
    (recomputeEstimate c s).pck = s.pck ∧
    (recomputeEstimate c s).hsu = s.hsu ∧
    (recomputeEstimate c s).sbk = s.sbk ∧
    (recomputeEstimate c s).dsu = s.dsu ∧
    (recomputeEstimate c s).pen = s.pen ∧
    (recomputeEstimate c s).svc = s.svc ∧
    (recomputeEstimate c s).pending = s.pending := by
  simp only [recomputeEstimate]; repeat' split
  all_goals simp

@[simp] theorem recomputeKept_frame (c : Cavern) (s : State) :
    (recomputeKept c s).pins = s.pins ∧
    (recomputeKept c s).spi = s.spi ∧
    (recomputeKept c s).ilr = s.ilr ∧
    (recomputeKept c s).pck = s.pck ∧
    (recomputeKept c s).hsu = s.hsu ∧
    (recomputeKept c s).sbk = s.sbk ∧
    (recomputeKept c s).dsu = s.dsu ∧
    (recomputeKept c s).pen = s.pen ∧
    (recomputeKept c s).svc = s.svc ∧
    (recomputeKept c s).pending = s.pending := by
  simp only [recomputeKept]; repeat' split
  all_goals simp

@[simp] theorem applyAir_frame (c : Cavern) (fill : Bool) (air : Nat) (s : State) :
    (applyAir c fill air s).pins = s.pins ∧
    (applyAir c fill air s).spi = s.spi ∧
    (applyAir c fill air s).ilr = s.ilr ∧
    (applyAir c fill air s).pck = s.pck ∧
    (applyAir c fill air s).hsu = s.hsu ∧
    (applyAir c fill air s).sbk = s.sbk ∧
    (applyAir c fill air s).dsu = s.dsu ∧
    (applyAir c fill air s).pen = s.pen ∧
    (applyAir c fill air s).svc = s.svc ∧
    (applyAir c fill air s).pending = s.pending := by
  simp [applyAir]

@[simp] theorem attachCavern_frame (c : Cavern) (t : Train) (s : State) :
    (attachCavern c t s).pins = s.pins ∧
    (attachCavern c t s).spi = s.spi ∧
    (attachCavern c t s).evr = s.evr ∧
    (attachCavern c t s).ilr = s.ilr ∧
    (attachCavern c t s).pck = s.pck ∧
    (attachCavern c t s).hsu = s.hsu ∧
    (attachCavern c t s).sbk = s.sbk ∧
    (attachCavern c t s).dsu = s.dsu ∧
    (attachCavern c t s).arith = s.arith ∧
    (attachCavern c t s).pen = s.pen ∧
    (attachCavern c t s).svc = s.svc ∧
    (attachCavern c t s).pending = s.pending := by
  simp [attachCavern]

@[simp] theorem releaseCavern_frame (c : Cavern) (t : Train) (lost : Bool) (s : State) :
    (releaseCavern c t lost s).pins = s.pins ∧
    (releaseCavern c t lost s).spi = s.spi ∧
    (releaseCavern c t lost s).evr = s.evr ∧
    (releaseCavern c t lost s).ilr = s.ilr ∧
    (releaseCavern c t lost s).pck = s.pck ∧
    (releaseCavern c t lost s).hsu = s.hsu ∧
    (releaseCavern c t lost s).sbk = s.sbk ∧
    (releaseCavern c t lost s).dsu = s.dsu ∧
    (releaseCavern c t lost s).arith = s.arith ∧
    (releaseCavern c t lost s).pen = s.pen ∧
    (releaseCavern c t lost s).svc = s.svc ∧
    (releaseCavern c t lost s).pending = s.pending := by
  simp [releaseCavern]

@[simp] theorem correctMass_frame (c : Cavern) (pressure temp : Nat) (s : State) :
    (correctMass c pressure temp s).pins = s.pins ∧
    (correctMass c pressure temp s).spi = s.spi ∧
    (correctMass c pressure temp s).ilr = s.ilr ∧
    (correctMass c pressure temp s).pck = s.pck ∧
    (correctMass c pressure temp s).hsu = s.hsu ∧
    (correctMass c pressure temp s).sbk = s.sbk ∧
    (correctMass c pressure temp s).dsu = s.dsu ∧
    (correctMass c pressure temp s).pen = s.pen ∧
    (correctMass c pressure temp s).svc = s.svc ∧
    (correctMass c pressure temp s).pending = s.pending := by
  simp [correctMass]

@[simp] theorem reconcileCavern_frame (c : Cavern) (s : State) :
    (reconcileCavern c s).pins = s.pins ∧
    (reconcileCavern c s).spi = s.spi ∧
    (reconcileCavern c s).ilr = s.ilr ∧
    (reconcileCavern c s).pck = s.pck ∧
    (reconcileCavern c s).hsu = s.hsu ∧
    (reconcileCavern c s).sbk = s.sbk ∧
    (reconcileCavern c s).dsu = s.dsu ∧
    (reconcileCavern c s).svc = s.svc ∧
    (reconcileCavern c s).pending = s.pending := by
  simp only [reconcileCavern]; repeat' split
  all_goals simp

/-! ## The Heat Store Unit (chapter 3) -/

@[simp] theorem addDeposited_frame (st : Store) (x : Nat) (s : State) :
    (addDeposited st x s).pins = s.pins ∧
    (addDeposited st x s).spi = s.spi ∧
    (addDeposited st x s).ilr = s.ilr ∧
    (addDeposited st x s).pck = s.pck ∧
    (addDeposited st x s).ciu = s.ciu ∧
    (addDeposited st x s).sbk = s.sbk ∧
    (addDeposited st x s).dsu = s.dsu ∧
    (addDeposited st x s).pen = s.pen ∧
    (addDeposited st x s).svc = s.svc ∧
    (addDeposited st x s).pending = s.pending := by
  simp [addDeposited]

@[simp] theorem addDrawn_frame (st : Store) (x : Nat) (s : State) :
    (addDrawn st x s).pins = s.pins ∧
    (addDrawn st x s).spi = s.spi ∧
    (addDrawn st x s).ilr = s.ilr ∧
    (addDrawn st x s).pck = s.pck ∧
    (addDrawn st x s).ciu = s.ciu ∧
    (addDrawn st x s).sbk = s.sbk ∧
    (addDrawn st x s).dsu = s.dsu ∧
    (addDrawn st x s).pen = s.pen ∧
    (addDrawn st x s).svc = s.svc ∧
    (addDrawn st x s).pending = s.pending := by
  simp [addDrawn]

@[simp] theorem addWrittenOff_frame (st : Store) (source : ExcSource) (x : Nat) (s : State) :
    (addWrittenOff st source x s).pins = s.pins ∧
    (addWrittenOff st source x s).spi = s.spi ∧
    (addWrittenOff st source x s).ilr = s.ilr ∧
    (addWrittenOff st source x s).pck = s.pck ∧
    (addWrittenOff st source x s).ciu = s.ciu ∧
    (addWrittenOff st source x s).sbk = s.sbk ∧
    (addWrittenOff st source x s).dsu = s.dsu ∧
    (addWrittenOff st source x s).pen = s.pen ∧
    (addWrittenOff st source x s).svc = s.svc ∧
    (addWrittenOff st source x s).pending = s.pending := by
  simp [addWrittenOff]

@[simp] theorem addReconciled_frame (st : Store) (x : Int) (s : State) :
    (addReconciled st x s).pins = s.pins ∧
    (addReconciled st x s).spi = s.spi ∧
    (addReconciled st x s).ilr = s.ilr ∧
    (addReconciled st x s).pck = s.pck ∧
    (addReconciled st x s).ciu = s.ciu ∧
    (addReconciled st x s).sbk = s.sbk ∧
    (addReconciled st x s).dsu = s.dsu ∧
    (addReconciled st x s).pen = s.pen ∧
    (addReconciled st x s).svc = s.svc ∧
    (addReconciled st x s).pending = s.pending := by
  simp [addReconciled]

@[simp] theorem evalReachable_frame (st : Store) (s : State) :
    (evalReachable st s).pins = s.pins ∧
    (evalReachable st s).spi = s.spi ∧
    (evalReachable st s).ilr = s.ilr ∧
    (evalReachable st s).pck = s.pck ∧
    (evalReachable st s).ciu = s.ciu ∧
    (evalReachable st s).sbk = s.sbk ∧
    (evalReachable st s).dsu = s.dsu ∧
    (evalReachable st s).pen = s.pen ∧
    (evalReachable st s).svc = s.svc ∧
    (evalReachable st s).pending = s.pending := by
  simp only [evalReachable]; repeat' split
  all_goals simp

@[simp] theorem makeRoom_frame (st : Store) (s : State) :
    (makeRoom st s).pins = s.pins ∧
    (makeRoom st s).spi = s.spi ∧
    (makeRoom st s).ilr = s.ilr ∧
    (makeRoom st s).pck = s.pck ∧
    (makeRoom st s).ciu = s.ciu ∧
    (makeRoom st s).sbk = s.sbk ∧
    (makeRoom st s).dsu = s.dsu ∧
    (makeRoom st s).pen = s.pen ∧
    (makeRoom st s).svc = s.svc ∧
    (makeRoom st s).pending = s.pending := by
  simp only [makeRoom]; repeat' split
  all_goals simp

@[simp] theorem openParcel_frame (st : Store) (t : Train) (s : State) :
    (openParcel st t s).pins = s.pins ∧
    (openParcel st t s).spi = s.spi ∧
    (openParcel st t s).ilr = s.ilr ∧
    (openParcel st t s).pck = s.pck ∧
    (openParcel st t s).ciu = s.ciu ∧
    (openParcel st t s).sbk = s.sbk ∧
    (openParcel st t s).dsu = s.dsu ∧
    (openParcel st t s).pen = s.pen ∧
    (openParcel st t s).svc = s.svc ∧
    (openParcel st t s).pending = s.pending := by
  simp [openParcel]

@[simp] theorem depositOpen_frame (st : Store) (taken : Nat) (outlet : Option Nat) (s : State) :
    (depositOpen st taken outlet s).pins = s.pins ∧
    (depositOpen st taken outlet s).spi = s.spi ∧
    (depositOpen st taken outlet s).ilr = s.ilr ∧
    (depositOpen st taken outlet s).pck = s.pck ∧
    (depositOpen st taken outlet s).ciu = s.ciu ∧
    (depositOpen st taken outlet s).sbk = s.sbk ∧
    (depositOpen st taken outlet s).dsu = s.dsu ∧
    (depositOpen st taken outlet s).pen = s.pen ∧
    (depositOpen st taken outlet s).svc = s.svc ∧
    (depositOpen st taken outlet s).pending = s.pending := by
  simp only [depositOpen]; repeat' split
  all_goals simp

@[simp] theorem depositHeat_frame (st : Store) (t : Train) (q : Nat) (outlet : Option Nat) (s : State) :
    (depositHeat st t q outlet s).pins = s.pins ∧
    (depositHeat st t q outlet s).spi = s.spi ∧
    (depositHeat st t q outlet s).ilr = s.ilr ∧
    (depositHeat st t q outlet s).pck = s.pck ∧
    (depositHeat st t q outlet s).ciu = s.ciu ∧
    (depositHeat st t q outlet s).sbk = s.sbk ∧
    (depositHeat st t q outlet s).dsu = s.dsu ∧
    (depositHeat st t q outlet s).pen = s.pen ∧
    (depositHeat st t q outlet s).svc = s.svc ∧
    (depositHeat st t q outlet s).pending = s.pending := by
  simp only [depositHeat]; repeat' split
  all_goals simp

@[simp] theorem drawHeat_frame (st : Store) (air : Nat) (s : State) :
    (drawHeat st air s).pins = s.pins ∧
    (drawHeat st air s).spi = s.spi ∧
    (drawHeat st air s).ilr = s.ilr ∧
    (drawHeat st air s).pck = s.pck ∧
    (drawHeat st air s).ciu = s.ciu ∧
    (drawHeat st air s).sbk = s.sbk ∧
    (drawHeat st air s).dsu = s.dsu ∧
    (drawHeat st air s).pen = s.pen ∧
    (drawHeat st air s).svc = s.svc ∧
    (drawHeat st air s).pending = s.pending := by
  simp only [drawHeat]; repeat' split
  all_goals simp

@[simp] theorem ageStore_frame (st : Store) (s : State) :
    (ageStore st s).pins = s.pins ∧
    (ageStore st s).spi = s.spi ∧
    (ageStore st s).ilr = s.ilr ∧
    (ageStore st s).pck = s.pck ∧
    (ageStore st s).ciu = s.ciu ∧
    (ageStore st s).sbk = s.sbk ∧
    (ageStore st s).dsu = s.dsu ∧
    (ageStore st s).pen = s.pen ∧
    (ageStore st s).svc = s.svc ∧
    (ageStore st s).pending = s.pending := by
  simp only [ageStore]; repeat' split
  all_goals simp

@[simp] theorem correctTop_frame (st : Store) (p : Parcel) (rest : List Parcel) (measured : Nat) (s : State) :
    (correctTop st p rest measured s).pins = s.pins ∧
    (correctTop st p rest measured s).spi = s.spi ∧
    (correctTop st p rest measured s).ilr = s.ilr ∧
    (correctTop st p rest measured s).pck = s.pck ∧
    (correctTop st p rest measured s).ciu = s.ciu ∧
    (correctTop st p rest measured s).sbk = s.sbk ∧
    (correctTop st p rest measured s).dsu = s.dsu ∧
    (correctTop st p rest measured s).pen = s.pen ∧
    (correctTop st p rest measured s).svc = s.svc ∧
    (correctTop st p rest measured s).pending = s.pending := by
  simp [correctTop]

@[simp] theorem reconcileTop_frame (st : Store) (measured : Nat) (s : State) :
    (reconcileTop st measured s).pins = s.pins ∧
    (reconcileTop st measured s).spi = s.spi ∧
    (reconcileTop st measured s).ilr = s.ilr ∧
    (reconcileTop st measured s).pck = s.pck ∧
    (reconcileTop st measured s).ciu = s.ciu ∧
    (reconcileTop st measured s).sbk = s.sbk ∧
    (reconcileTop st measured s).dsu = s.dsu ∧
    (reconcileTop st measured s).svc = s.svc ∧
    (reconcileTop st measured s).pending = s.pending := by
  simp only [reconcileTop]; repeat' split
  all_goals simp

@[simp] theorem discardParcel_frame (st : Store) (p : Parcel) (rest : List Parcel) (s : State) :
    (discardParcel st p rest s).pins = s.pins ∧
    (discardParcel st p rest s).spi = s.spi ∧
    (discardParcel st p rest s).ilr = s.ilr ∧
    (discardParcel st p rest s).pck = s.pck ∧
    (discardParcel st p rest s).ciu = s.ciu ∧
    (discardParcel st p rest s).sbk = s.sbk ∧
    (discardParcel st p rest s).dsu = s.dsu ∧
    (discardParcel st p rest s).pen = s.pen ∧
    (discardParcel st p rest s).svc = s.svc ∧
    (discardParcel st p rest s).pending = s.pending := by
  simp [discardParcel]

@[simp] theorem attachStore_frame (st : Store) (t : Train) (s : State) :
    (attachStore st t s).pins = s.pins ∧
    (attachStore st t s).spi = s.spi ∧
    (attachStore st t s).evr = s.evr ∧
    (attachStore st t s).ilr = s.ilr ∧
    (attachStore st t s).pck = s.pck ∧
    (attachStore st t s).ciu = s.ciu ∧
    (attachStore st t s).sbk = s.sbk ∧
    (attachStore st t s).dsu = s.dsu ∧
    (attachStore st t s).arith = s.arith ∧
    (attachStore st t s).pen = s.pen ∧
    (attachStore st t s).svc = s.svc ∧
    (attachStore st t s).pending = s.pending := by
  simp [attachStore]

@[simp] theorem releaseStore_frame (st : Store) (t : Train) (lost : Bool) (s : State) :
    (releaseStore st t lost s).pins = s.pins ∧
    (releaseStore st t lost s).spi = s.spi ∧
    (releaseStore st t lost s).ilr = s.ilr ∧
    (releaseStore st t lost s).pck = s.pck ∧
    (releaseStore st t lost s).ciu = s.ciu ∧
    (releaseStore st t lost s).sbk = s.sbk ∧
    (releaseStore st t lost s).dsu = s.dsu ∧
    (releaseStore st t lost s).arith = s.arith ∧
    (releaseStore st t lost s).svc = s.svc ∧
    (releaseStore st t lost s).pending = s.pending := by
  simp only [releaseStore]; repeat' split
  all_goals simp

/-! ## The Schedule Book (chapter 4) -/

@[simp] theorem addDelivered_frame (x : Int) (s : State) :
    (addDelivered x s).pins = s.pins ∧
    (addDelivered x s).spi = s.spi ∧
    (addDelivered x s).ilr = s.ilr ∧
    (addDelivered x s).pck = s.pck ∧
    (addDelivered x s).ciu = s.ciu ∧
    (addDelivered x s).hsu = s.hsu ∧
    (addDelivered x s).dsu = s.dsu ∧
    (addDelivered x s).pen = s.pen ∧
    (addDelivered x s).svc = s.svc ∧
    (addDelivered x s).pending = s.pending := by
  simp only [addDelivered]; repeat' split
  all_goals simp

@[simp] theorem closeIntegration_frame (second : Nat) (s : State) :
    (closeIntegration second s).pins = s.pins ∧
    (closeIntegration second s).spi = s.spi ∧
    (closeIntegration second s).ilr = s.ilr ∧
    (closeIntegration second s).pck = s.pck ∧
    (closeIntegration second s).ciu = s.ciu ∧
    (closeIntegration second s).hsu = s.hsu ∧
    (closeIntegration second s).dsu = s.dsu ∧
    (closeIntegration second s).pen = s.pen ∧
    (closeIntegration second s).svc = s.svc ∧
    (closeIntegration second s).pending = s.pending := by
  simp only [closeIntegration]; repeat' split
  all_goals simp

@[simp] theorem closeSlot_frame (s : State) :
    (closeSlot s).pins = s.pins ∧
    (closeSlot s).spi = s.spi ∧
    (closeSlot s).ilr = s.ilr ∧
    (closeSlot s).pck = s.pck ∧
    (closeSlot s).ciu = s.ciu ∧
    (closeSlot s).hsu = s.hsu ∧
    (closeSlot s).dsu = s.dsu ∧
    (closeSlot s).svc = s.svc ∧
    (closeSlot s).pending = s.pending := by
  simp only [closeSlot]; repeat' split
  all_goals simp

@[simp] theorem openSlot_frame (s : State) :
    (openSlot s).pins = s.pins ∧
    (openSlot s).spi = s.spi ∧
    (openSlot s).ilr = s.ilr ∧
    (openSlot s).pck = s.pck ∧
    (openSlot s).ciu = s.ciu ∧
    (openSlot s).hsu = s.hsu ∧
    (openSlot s).dsu = s.dsu ∧
    (openSlot s).arith = s.arith ∧
    (openSlot s).svc = s.svc ∧
    (openSlot s).pending = s.pending := by
  simp only [openSlot]; repeat' split
  all_goals simp

end Sys2Proof.Machine
end

