-- ==== Sys2Proof/Laws/Dispatch.lean ====
section
/-! SUPPORT. What the operations of the Dispatch Unit, the hand-offs of the two units, the Report Intake and the Position Engine leave as they were. -/

namespace Sys2Proof.Machine

/-! ## The split and its orders (chapter 6) -/

@[simp] theorem markShort_frame (pl : Plan) (power : Nat) (s : State) :
    (markShort pl power s).pins = s.pins ∧
    (markShort pl power s).spi = s.spi ∧
    (markShort pl power s).ilr = s.ilr ∧
    (markShort pl power s).pck = s.pck ∧
    (markShort pl power s).ciu = s.ciu ∧
    (markShort pl power s).hsu = s.hsu ∧
    (markShort pl power s).dsu = s.dsu ∧
    (markShort pl power s).arith = s.arith ∧
    (markShort pl power s).pen = s.pen ∧
    (markShort pl power s).svc = s.svc ∧
    (markShort pl power s).pending = s.pending := by
  simp only [markShort]; repeat' split
  all_goals simp

@[simp] theorem setOrder_frame (pl : Plan) (t : Train) (s : State) :
    (setOrder pl t s).pins = s.pins ∧
    (setOrder pl t s).spi = s.spi ∧
    (setOrder pl t s).evr = s.evr ∧
    (setOrder pl t s).ilr = s.ilr ∧
    (setOrder pl t s).pck = s.pck ∧
    (setOrder pl t s).ciu = s.ciu ∧
    (setOrder pl t s).hsu = s.hsu ∧
    (setOrder pl t s).sbk = s.sbk ∧
    (setOrder pl t s).arith = s.arith ∧
    (setOrder pl t s).pen = s.pen ∧
    (setOrder pl t s).svc = s.svc ∧
    (setOrder pl t s).pending = s.pending := by
  simp [setOrder]

@[simp] theorem split_frame (s : State) :
    (split s).pins = s.pins ∧
    (split s).spi = s.spi ∧
    (split s).ilr = s.ilr ∧
    (split s).pck = s.pck ∧
    (split s).ciu = s.ciu ∧
    (split s).hsu = s.hsu ∧
    (split s).arith = s.arith ∧
    (split s).pen = s.pen ∧
    (split s).svc = s.svc ∧
    (split s).pending = s.pending := by
  simp [split, allTrains]

@[simp] theorem commitOrder_frame (before : Dsu) (s : State) (t : Train) :
    (commitOrder before s t).pins = s.pins ∧
    (commitOrder before s t).spi = s.spi ∧
    (commitOrder before s t).ilr = s.ilr ∧
    (commitOrder before s t).pck = s.pck ∧
    (commitOrder before s t).ciu = s.ciu ∧
    (commitOrder before s t).hsu = s.hsu ∧
    (commitOrder before s t).sbk = s.sbk ∧
    (commitOrder before s t).arith = s.arith ∧
    (commitOrder before s t).pen = s.pen ∧
    (commitOrder before s t).svc = s.svc ∧
    (commitOrder before s t).pending = s.pending := by
  simp only [commitOrder]; repeat' split
  all_goals simp

@[simp] theorem commitOrders_frame (before : Dsu) (s : State) :
    (commitOrders before s).pins = s.pins ∧
    (commitOrders before s).spi = s.spi ∧
    (commitOrders before s).ilr = s.ilr ∧
    (commitOrders before s).pck = s.pck ∧
    (commitOrders before s).ciu = s.ciu ∧
    (commitOrders before s).hsu = s.hsu ∧
    (commitOrders before s).sbk = s.sbk ∧
    (commitOrders before s).arith = s.arith ∧
    (commitOrders before s).pen = s.pen ∧
    (commitOrders before s).svc = s.svc ∧
    (commitOrders before s).pending = s.pending := by
  simp [commitOrders, allTrains]

@[simp] theorem stageOrder_frame (pl : Plan) (interval : Nat) (s : State) (t : Train) :
    (stageOrder pl interval s t).pins = s.pins ∧
    (stageOrder pl interval s t).spi = s.spi ∧
    (stageOrder pl interval s t).ilr = s.ilr ∧
    (stageOrder pl interval s t).pck = s.pck ∧
    (stageOrder pl interval s t).ciu = s.ciu ∧
    (stageOrder pl interval s t).hsu = s.hsu ∧
    (stageOrder pl interval s t).sbk = s.sbk ∧
    (stageOrder pl interval s t).arith = s.arith ∧
    (stageOrder pl interval s t).pen = s.pen ∧
    (stageOrder pl interval s t).svc = s.svc ∧
    (stageOrder pl interval s t).pending = s.pending := by
  simp only [stageOrder]; repeat' split
  all_goals simp

@[simp] theorem stagedSplit_frame (s : State) :
    (stagedSplit s).pins = s.pins ∧
    (stagedSplit s).spi = s.spi ∧
    (stagedSplit s).ilr = s.ilr ∧
    (stagedSplit s).pck = s.pck ∧
    (stagedSplit s).ciu = s.ciu ∧
    (stagedSplit s).hsu = s.hsu ∧
    (stagedSplit s).sbk = s.sbk ∧
    (stagedSplit s).arith = s.arith ∧
    (stagedSplit s).pen = s.pen ∧
    (stagedSplit s).svc = s.svc ∧
    (stagedSplit s).pending = s.pending := by
  simp only [stagedSplit]; repeat' split
  all_goals simp [allTrains]

@[simp] theorem runSplit_frame (before : Dsu) (s : State) :
    (runSplit before s).pins = s.pins ∧
    (runSplit before s).spi = s.spi ∧
    (runSplit before s).ilr = s.ilr ∧
    (runSplit before s).pck = s.pck ∧
    (runSplit before s).ciu = s.ciu ∧
    (runSplit before s).hsu = s.hsu ∧
    (runSplit before s).arith = s.arith ∧
    (runSplit before s).pen = s.pen ∧
    (runSplit before s).svc = s.svc ∧
    (runSplit before s).pending = s.pending := by
  simp [runSplit]

/-! ## Grants, lapses, stops and releases -/

@[simp] theorem attachTrain_frame (t : Train) (a : Attachment) (s : State) :
    (attachTrain t a s).pins = s.pins ∧
    (attachTrain t a s).spi = s.spi ∧
    (attachTrain t a s).evr = s.evr ∧
    (attachTrain t a s).ilr = s.ilr ∧
    (attachTrain t a s).pck = s.pck ∧
    (attachTrain t a s).sbk = s.sbk ∧
    (attachTrain t a s).arith = s.arith ∧
    (attachTrain t a s).pen = s.pen ∧
    (attachTrain t a s).svc = s.svc ∧
    (attachTrain t a s).pending = s.pending := by
  simp [attachTrain]

@[simp] theorem grant_frame (t : Train) (a : Attachment) (s : State) :
    (grant t a s).pins = s.pins ∧
    (grant t a s).spi = s.spi ∧
    (grant t a s).ilr = s.ilr ∧
    (grant t a s).pck = s.pck ∧
    (grant t a s).arith = s.arith ∧
    (grant t a s).pen = s.pen ∧
    (grant t a s).svc = s.svc ∧
    (grant t a s).pending = s.pending := by
  simp [grant]

@[simp] theorem grantQueued_frame (t : Train) (a : Attachment) (s : State) :
    (grantQueued t a s).pins = s.pins ∧
    (grantQueued t a s).spi = s.spi ∧
    (grantQueued t a s).ilr = s.ilr ∧
    (grantQueued t a s).pck = s.pck ∧
    (grantQueued t a s).arith = s.arith ∧
    (grantQueued t a s).pen = s.pen ∧
    (grantQueued t a s).svc = s.svc ∧
    (grantQueued t a s).pending = s.pending := by
  simp [grantQueued]

@[simp] theorem examineEntry_frame (s : State) (t : Train) :
    (examineEntry s t).pins = s.pins ∧
    (examineEntry s t).spi = s.spi ∧
    (examineEntry s t).ilr = s.ilr ∧
    (examineEntry s t).pck = s.pck ∧
    (examineEntry s t).arith = s.arith ∧
    (examineEntry s t).pen = s.pen ∧
    (examineEntry s t).svc = s.svc ∧
    (examineEntry s t).pending = s.pending := by
  simp only [examineEntry]; repeat' split
  all_goals simp

/-- A list of `examineEntry` steps. -/
@[simp] theorem foldl_examineEntry_frame (l : List Train) (s : State) :
    (l.foldl (examineEntry) s).pins = s.pins ∧
    (l.foldl (examineEntry) s).spi = s.spi ∧
    (l.foldl (examineEntry) s).ilr = s.ilr ∧
    (l.foldl (examineEntry) s).pck = s.pck ∧
    (l.foldl (examineEntry) s).arith = s.arith ∧
    (l.foldl (examineEntry) s).pen = s.pen ∧
    (l.foldl (examineEntry) s).svc = s.svc ∧
    (l.foldl (examineEntry) s).pending = s.pending := by
  refine ⟨?_, ?_, ?_, ?_, ?_, ?_, ?_, ?_⟩ <;> exact foldl_keeps _ _ (by simp) l s

@[simp] theorem examineQueue_frame (s : State) :
    (examineQueue s).pins = s.pins ∧
    (examineQueue s).spi = s.spi ∧
    (examineQueue s).ilr = s.ilr ∧
    (examineQueue s).pck = s.pck ∧
    (examineQueue s).arith = s.arith ∧
    (examineQueue s).pen = s.pen ∧
    (examineQueue s).svc = s.svc ∧
    (examineQueue s).pending = s.pending := by
  simp [examineQueue]

@[simp] theorem lapsePermit_frame (cause : Nat) (s : State) (t : Train) :
    (lapsePermit cause s t).pins = s.pins ∧
    (lapsePermit cause s t).spi = s.spi ∧
    (lapsePermit cause s t).ilr = s.ilr ∧
    (lapsePermit cause s t).pck = s.pck ∧
    (lapsePermit cause s t).ciu = s.ciu ∧
    (lapsePermit cause s t).hsu = s.hsu ∧
    (lapsePermit cause s t).sbk = s.sbk ∧
    (lapsePermit cause s t).arith = s.arith ∧
    (lapsePermit cause s t).pen = s.pen ∧
    (lapsePermit cause s t).svc = s.svc ∧
    (lapsePermit cause s t).pending = s.pending := by
  simp [lapsePermit]

/-- A list of `lapsePermit cause` steps. -/
@[simp] theorem foldl_lapsePermit_frame (cause : Nat) (l : List Train) (s : State) :
    (l.foldl (lapsePermit cause) s).pins = s.pins ∧
    (l.foldl (lapsePermit cause) s).spi = s.spi ∧
    (l.foldl (lapsePermit cause) s).ilr = s.ilr ∧
    (l.foldl (lapsePermit cause) s).pck = s.pck ∧
    (l.foldl (lapsePermit cause) s).ciu = s.ciu ∧
    (l.foldl (lapsePermit cause) s).hsu = s.hsu ∧
    (l.foldl (lapsePermit cause) s).sbk = s.sbk ∧
    (l.foldl (lapsePermit cause) s).arith = s.arith ∧
    (l.foldl (lapsePermit cause) s).pen = s.pen ∧
    (l.foldl (lapsePermit cause) s).svc = s.svc ∧
    (l.foldl (lapsePermit cause) s).pending = s.pending := by
  refine ⟨?_, ?_, ?_, ?_, ?_, ?_, ?_, ?_, ?_, ?_, ?_⟩ <;> exact foldl_keeps _ _ (by simp) l s

@[simp] theorem stopTrain_frame (s : State) (t : Train) :
    (stopTrain s t).pins = s.pins ∧
    (stopTrain s t).spi = s.spi ∧
    (stopTrain s t).evr = s.evr ∧
    (stopTrain s t).ilr = s.ilr ∧
    (stopTrain s t).pck = s.pck ∧
    (stopTrain s t).ciu = s.ciu ∧
    (stopTrain s t).hsu = s.hsu ∧
    (stopTrain s t).sbk = s.sbk ∧
    (stopTrain s t).arith = s.arith ∧
    (stopTrain s t).pen = s.pen ∧
    (stopTrain s t).svc = s.svc ∧
    (stopTrain s t).pending = s.pending := by
  simp [stopTrain]

/-- A list of `stopTrain` steps. -/
@[simp] theorem foldl_stopTrain_frame (l : List Train) (s : State) :
    (l.foldl (stopTrain) s).pins = s.pins ∧
    (l.foldl (stopTrain) s).spi = s.spi ∧
    (l.foldl (stopTrain) s).evr = s.evr ∧
    (l.foldl (stopTrain) s).ilr = s.ilr ∧
    (l.foldl (stopTrain) s).pck = s.pck ∧
    (l.foldl (stopTrain) s).ciu = s.ciu ∧
    (l.foldl (stopTrain) s).hsu = s.hsu ∧
    (l.foldl (stopTrain) s).sbk = s.sbk ∧
    (l.foldl (stopTrain) s).arith = s.arith ∧
    (l.foldl (stopTrain) s).pen = s.pen ∧
    (l.foldl (stopTrain) s).svc = s.svc ∧
    (l.foldl (stopTrain) s).pending = s.pending := by
  refine ⟨?_, ?_, ?_, ?_, ?_, ?_, ?_, ?_, ?_, ?_, ?_, ?_⟩ <;> exact foldl_keeps _ _ (by simp) l s

@[simp] theorem stopTrains_frame (ts : List Train) (s : State) :
    (stopTrains ts s).pins = s.pins ∧
    (stopTrains ts s).spi = s.spi ∧
    (stopTrains ts s).ilr = s.ilr ∧
    (stopTrains ts s).pck = s.pck ∧
    (stopTrains ts s).ciu = s.ciu ∧
    (stopTrains ts s).hsu = s.hsu ∧
    (stopTrains ts s).arith = s.arith ∧
    (stopTrains ts s).pen = s.pen ∧
    (stopTrains ts s).svc = s.svc ∧
    (stopTrains ts s).pending = s.pending := by
  simp only [stopTrains]; repeat' split
  all_goals simp

@[simp] theorem releaseAttachment_frame (t : Train) (lost : Bool) (s : State) :
    (releaseAttachment t lost s).pins = s.pins ∧
    (releaseAttachment t lost s).spi = s.spi ∧
    (releaseAttachment t lost s).ilr = s.ilr ∧
    (releaseAttachment t lost s).pck = s.pck ∧
    (releaseAttachment t lost s).sbk = s.sbk ∧
    (releaseAttachment t lost s).arith = s.arith ∧
    (releaseAttachment t lost s).svc = s.svc ∧
    (releaseAttachment t lost s).pending = s.pending := by
  simp only [releaseAttachment]; repeat' split
  all_goals simp

@[simp] theorem emitTripped_frame (t : Train) (cause : TripCause) (target : Nat) (s : State) :
    (emitTripped t cause target s).pins = s.pins ∧
    (emitTripped t cause target s).spi = s.spi ∧
    (emitTripped t cause target s).ilr = s.ilr ∧
    (emitTripped t cause target s).pck = s.pck ∧
    (emitTripped t cause target s).ciu = s.ciu ∧
    (emitTripped t cause target s).hsu = s.hsu ∧
    (emitTripped t cause target s).sbk = s.sbk ∧
    (emitTripped t cause target s).dsu = s.dsu ∧
    (emitTripped t cause target s).arith = s.arith ∧
    (emitTripped t cause target s).pen = s.pen ∧
    (emitTripped t cause target s).svc = s.svc ∧
    (emitTripped t cause target s).pending = s.pending := by
  simp [emitTripped]

/-- A trip whose event touches the event queues only (R128). -/
@[simp] theorem trip_frame (t : Train) (cause c : TripCause) (n : Nat) (s : State) :
    (trip t cause (emitTripped t c n) s).pins = s.pins ∧
    (trip t cause (emitTripped t c n) s).spi = s.spi ∧
    (trip t cause (emitTripped t c n) s).ilr = s.ilr ∧
    (trip t cause (emitTripped t c n) s).pck = s.pck ∧
    (trip t cause (emitTripped t c n) s).arith = s.arith ∧
    (trip t cause (emitTripped t c n) s).svc = s.svc ∧
    (trip t cause (emitTripped t c n) s).pending = s.pending := by
  simp [trip]

/-- A trip whose event is one hand-over to the router (R128, R152). -/
@[simp] theorem trip_emit_frame (t : Train) (cause : TripCause) (k : EventKind) (cl : EventClass) (su : Subject) (w1 w2 : Int) (s : State) :
    (trip t cause (emit k cl su w1 w2) s).pins = s.pins ∧
    (trip t cause (emit k cl su w1 w2) s).spi = s.spi ∧
    (trip t cause (emit k cl su w1 w2) s).ilr = s.ilr ∧
    (trip t cause (emit k cl su w1 w2) s).pck = s.pck ∧
    (trip t cause (emit k cl su w1 w2) s).arith = s.arith ∧
    (trip t cause (emit k cl su w1 w2) s).svc = s.svc ∧
    (trip t cause (emit k cl su w1 w2) s).pending = s.pending := by
  simp [trip]

@[simp] theorem endPermit_frame (t : Train) (s : State) :
    (endPermit t s).pins = s.pins ∧
    (endPermit t s).spi = s.spi ∧
    (endPermit t s).ilr = s.ilr ∧
    (endPermit t s).pck = s.pck ∧
    (endPermit t s).arith = s.arith ∧
    (endPermit t s).svc = s.svc ∧
    (endPermit t s).pending = s.pending := by
  simp [endPermit]

@[simp] theorem releaseGranted_frame (t : Train) (s : State) :
    (releaseGranted t s).pins = s.pins ∧
    (releaseGranted t s).spi = s.spi ∧
    (releaseGranted t s).ilr = s.ilr ∧
    (releaseGranted t s).pck = s.pck ∧
    (releaseGranted t s).arith = s.arith ∧
    (releaseGranted t s).svc = s.svc ∧
    (releaseGranted t s).pending = s.pending := by
  simp [releaseGranted]

@[simp] theorem holdTrain_frame (s : State) (t : Train) :
    (holdTrain s t).pins = s.pins ∧
    (holdTrain s t).spi = s.spi ∧
    (holdTrain s t).evr = s.evr ∧
    (holdTrain s t).ilr = s.ilr ∧
    (holdTrain s t).pck = s.pck ∧
    (holdTrain s t).ciu = s.ciu ∧
    (holdTrain s t).hsu = s.hsu ∧
    (holdTrain s t).sbk = s.sbk ∧
    (holdTrain s t).arith = s.arith ∧
    (holdTrain s t).pen = s.pen ∧
    (holdTrain s t).svc = s.svc ∧
    (holdTrain s t).pending = s.pending := by
  simp [holdTrain]

/-- A list of `holdTrain` steps. -/
@[simp] theorem foldl_holdTrain_frame (l : List Train) (s : State) :
    (l.foldl (holdTrain) s).pins = s.pins ∧
    (l.foldl (holdTrain) s).spi = s.spi ∧
    (l.foldl (holdTrain) s).evr = s.evr ∧
    (l.foldl (holdTrain) s).ilr = s.ilr ∧
    (l.foldl (holdTrain) s).pck = s.pck ∧
    (l.foldl (holdTrain) s).ciu = s.ciu ∧
    (l.foldl (holdTrain) s).hsu = s.hsu ∧
    (l.foldl (holdTrain) s).sbk = s.sbk ∧
    (l.foldl (holdTrain) s).arith = s.arith ∧
    (l.foldl (holdTrain) s).pen = s.pen ∧
    (l.foldl (holdTrain) s).svc = s.svc ∧
    (l.foldl (holdTrain) s).pending = s.pending := by
  refine ⟨?_, ?_, ?_, ?_, ?_, ?_, ?_, ?_, ?_, ?_, ?_, ?_⟩ <;> exact foldl_keeps _ _ (by simp) l s

@[simp] theorem unholdTrain_frame (s : State) (t : Train) :
    (unholdTrain s t).pins = s.pins ∧
    (unholdTrain s t).spi = s.spi ∧
    (unholdTrain s t).evr = s.evr ∧
    (unholdTrain s t).ilr = s.ilr ∧
    (unholdTrain s t).pck = s.pck ∧
    (unholdTrain s t).ciu = s.ciu ∧
    (unholdTrain s t).hsu = s.hsu ∧
    (unholdTrain s t).sbk = s.sbk ∧
    (unholdTrain s t).arith = s.arith ∧
    (unholdTrain s t).pen = s.pen ∧
    (unholdTrain s t).svc = s.svc ∧
    (unholdTrain s t).pending = s.pending := by
  simp [unholdTrain]

/-- A list of `unholdTrain` steps. -/
@[simp] theorem foldl_unholdTrain_frame (l : List Train) (s : State) :
    (l.foldl (unholdTrain) s).pins = s.pins ∧
    (l.foldl (unholdTrain) s).spi = s.spi ∧
    (l.foldl (unholdTrain) s).evr = s.evr ∧
    (l.foldl (unholdTrain) s).ilr = s.ilr ∧
    (l.foldl (unholdTrain) s).pck = s.pck ∧
    (l.foldl (unholdTrain) s).ciu = s.ciu ∧
    (l.foldl (unholdTrain) s).hsu = s.hsu ∧
    (l.foldl (unholdTrain) s).sbk = s.sbk ∧
    (l.foldl (unholdTrain) s).arith = s.arith ∧
    (l.foldl (unholdTrain) s).pen = s.pen ∧
    (l.foldl (unholdTrain) s).svc = s.svc ∧
    (l.foldl (unholdTrain) s).pending = s.pending := by
  refine ⟨?_, ?_, ?_, ?_, ?_, ?_, ?_, ?_, ?_, ?_, ?_, ?_⟩ <;> exact foldl_keeps _ _ (by simp) l s

/-! ## The dispatch view -/

@[simp] theorem examineIfAdmitted_frame (before : View) (s : State) :
    (examineIfAdmitted before s).pins = s.pins ∧
    (examineIfAdmitted before s).spi = s.spi ∧
    (examineIfAdmitted before s).ilr = s.ilr ∧
    (examineIfAdmitted before s).pck = s.pck ∧
    (examineIfAdmitted before s).arith = s.arith ∧
    (examineIfAdmitted before s).pen = s.pen ∧
    (examineIfAdmitted before s).svc = s.svc ∧
    (examineIfAdmitted before s).pending = s.pending := by
  simp only [examineIfAdmitted]; repeat' split
  all_goals simp

@[simp] theorem handSlotChange_frame (j : Nat) (s : State) :
    (handSlotChange j s).pins = s.pins ∧
    (handSlotChange j s).spi = s.spi ∧
    (handSlotChange j s).ilr = s.ilr ∧
    (handSlotChange j s).pck = s.pck ∧
    (handSlotChange j s).arith = s.arith ∧
    (handSlotChange j s).pen = s.pen ∧
    (handSlotChange j s).svc = s.svc ∧
    (handSlotChange j s).pending = s.pending := by
  simp only [handSlotChange]; repeat' split
  all_goals simp

@[simp] theorem slotChanged_frame (j : Nat) (s : State) :
    (slotChanged j s).pins = s.pins ∧
    (slotChanged j s).spi = s.spi ∧
    (slotChanged j s).ilr = s.ilr ∧
    (slotChanged j s).pck = s.pck ∧
    (slotChanged j s).arith = s.arith ∧
    (slotChanged j s).svc = s.svc ∧
    (slotChanged j s).pending = s.pending := by
  simp [slotChanged]

@[simp] theorem handReserve_frame (net : Int) (s : State) :
    (handReserve net s).pins = s.pins ∧
    (handReserve net s).spi = s.spi ∧
    (handReserve net s).ilr = s.ilr ∧
    (handReserve net s).pck = s.pck ∧
    (handReserve net s).arith = s.arith ∧
    (handReserve net s).pen = s.pen ∧
    (handReserve net s).svc = s.svc ∧
    (handReserve net s).pending = s.pending := by
  simp [handReserve]

@[simp] theorem stageNext_frame (s : State) :
    (stageNext s).pins = s.pins ∧
    (stageNext s).spi = s.spi ∧
    (stageNext s).ilr = s.ilr ∧
    (stageNext s).pck = s.pck ∧
    (stageNext s).arith = s.arith ∧
    (stageNext s).pen = s.pen ∧
    (stageNext s).svc = s.svc ∧
    (stageNext s).pending = s.pending := by
  simp [stageNext]

@[simp] theorem handOver_frame (s : State) :
    (handOver s).pins = s.pins ∧
    (handOver s).spi = s.spi ∧
    (handOver s).ilr = s.ilr ∧
    (handOver s).pck = s.pck ∧
    (handOver s).arith = s.arith ∧
    (handOver s).pen = s.pen ∧
    (handOver s).svc = s.svc ∧
    (handOver s).pending = s.pending := by
  simp only [handOver]; split
  all_goals simp [allTrains]

@[simp] theorem directionTest_frame (s : State) :
    (directionTest s).pins = s.pins ∧
    (directionTest s).spi = s.spi ∧
    (directionTest s).ilr = s.ilr ∧
    (directionTest s).pck = s.pck ∧
    (directionTest s).ciu = s.ciu ∧
    (directionTest s).hsu = s.hsu ∧
    (directionTest s).sbk = s.sbk ∧
    (directionTest s).arith = s.arith ∧
    (directionTest s).pen = s.pen ∧
    (directionTest s).svc = s.svc ∧
    (directionTest s).pending = s.pending := by
  simp [directionTest]

/-! ## The hand-offs of the two units (R40, R45, R70) -/

@[simp] theorem respond_frame (before : State) (atBoundary : Bool) (s : State) :
    (respond before atBoundary s).pins = s.pins ∧
    (respond before atBoundary s).spi = s.spi ∧
    (respond before atBoundary s).ilr = s.ilr ∧
    (respond before atBoundary s).pck = s.pck ∧
    (respond before atBoundary s).ciu = s.ciu ∧
    (respond before atBoundary s).hsu = s.hsu ∧
    (respond before atBoundary s).arith = s.arith ∧
    (respond before atBoundary s).pen = s.pen ∧
    (respond before atBoundary s).svc = s.svc ∧
    (respond before atBoundary s).pending = s.pending := by
  simp only [respond]; repeat' split
  all_goals simp

@[simp] theorem examineIf_frame (asked : Bool) (s : State) :
    (examineIf asked s).pins = s.pins ∧
    (examineIf asked s).spi = s.spi ∧
    (examineIf asked s).ilr = s.ilr ∧
    (examineIf asked s).pck = s.pck ∧
    (examineIf asked s).arith = s.arith ∧
    (examineIf asked s).pen = s.pen ∧
    (examineIf asked s).svc = s.svc ∧
    (examineIf asked s).pending = s.pending := by
  simp only [examineIf]; split <;> simp

@[simp] theorem handOn_frame (before : State) (atBoundary always : Bool) (s : State) :
    (handOn before atBoundary always s).pins = s.pins ∧
    (handOn before atBoundary always s).spi = s.spi ∧
    (handOn before atBoundary always s).ilr = s.ilr ∧
    (handOn before atBoundary always s).pck = s.pck ∧
    (handOn before atBoundary always s).arith = s.arith ∧
    (handOn before atBoundary always s).svc = s.svc ∧
    (handOn before atBoundary always s).pending = s.pending := by
  simp [handOn]

@[simp] theorem renewBudget_frame (c : Cavern) (s : State) :
    (renewBudget c s).pins = s.pins ∧
    (renewBudget c s).spi = s.spi ∧
    (renewBudget c s).ilr = s.ilr ∧
    (renewBudget c s).pck = s.pck ∧
    (renewBudget c s).hsu = s.hsu ∧
    (renewBudget c s).sbk = s.sbk ∧
    (renewBudget c s).dsu = s.dsu ∧
    (renewBudget c s).pen = s.pen ∧
    (renewBudget c s).svc = s.svc ∧
    (renewBudget c s).pending = s.pending := by
  simp [renewBudget]

@[simp] theorem boundaryCaverns_frame (s : State) :
    (boundaryCaverns s).pins = s.pins ∧
    (boundaryCaverns s).spi = s.spi ∧
    (boundaryCaverns s).ilr = s.ilr ∧
    (boundaryCaverns s).pck = s.pck ∧
    (boundaryCaverns s).svc = s.svc ∧
    (boundaryCaverns s).pending = s.pending := by
  simp [boundaryCaverns]

@[simp] theorem takePinChange_frame (code : BitVec 3) (side : BandSide) (s : State) :
    (takePinChange code side s).pins = s.pins ∧
    (takePinChange code side s).spi = s.spi ∧
    (takePinChange code side s).ilr = s.ilr ∧
    (takePinChange code side s).pck = s.pck ∧
    (takePinChange code side s).arith = s.arith ∧
    (takePinChange code side s).svc = s.svc ∧
    (takePinChange code side s).pending = s.pending := by
  simp [takePinChange, plantEvent]

@[simp] theorem agePass_frame (s : State) :
    (agePass s).pins = s.pins ∧
    (agePass s).spi = s.spi ∧
    (agePass s).ilr = s.ilr ∧
    (agePass s).pck = s.pck ∧
    (agePass s).svc = s.svc ∧
    (agePass s).pending = s.pending := by
  simp [agePass, plantEvent]

/-! ## The Report Intake (chapter 7) -/

@[simp] theorem raiseLimits_frame (t : Train) (l : ReportLimits) (s : State) :
    (raiseLimits t l s).pins = s.pins ∧
    (raiseLimits t l s).spi = s.spi ∧
    (raiseLimits t l s).ilr = s.ilr ∧
    (raiseLimits t l s).pck = s.pck ∧
    (raiseLimits t l s).ciu = s.ciu ∧
    (raiseLimits t l s).hsu = s.hsu ∧
    (raiseLimits t l s).sbk = s.sbk ∧
    (raiseLimits t l s).dsu = s.dsu ∧
    (raiseLimits t l s).pen = s.pen ∧
    (raiseLimits t l s).svc = s.svc ∧
    (raiseLimits t l s).pending = s.pending := by
  simp only [raiseLimits]; repeat' split
  all_goals simp

@[simp] theorem emitClamped_frame (t : Train) (set elapsed : Nat) (s : State) :
    (emitClamped t set elapsed s).pins = s.pins ∧
    (emitClamped t set elapsed s).spi = s.spi ∧
    (emitClamped t set elapsed s).ilr = s.ilr ∧
    (emitClamped t set elapsed s).pck = s.pck ∧
    (emitClamped t set elapsed s).ciu = s.ciu ∧
    (emitClamped t set elapsed s).hsu = s.hsu ∧
    (emitClamped t set elapsed s).sbk = s.sbk ∧
    (emitClamped t set elapsed s).dsu = s.dsu ∧
    (emitClamped t set elapsed s).arith = s.arith ∧
    (emitClamped t set elapsed s).pen = s.pen ∧
    (emitClamped t set elapsed s).svc = s.svc ∧
    (emitClamped t set elapsed s).pending = s.pending := by
  simp only [emitClamped]; repeat' split
  all_goals simp

@[simp] theorem restartTiming_frame (t : Train) (s : State) :
    (restartTiming t s).pins = s.pins ∧
    (restartTiming t s).spi = s.spi ∧
    (restartTiming t s).evr = s.evr ∧
    (restartTiming t s).ilr = s.ilr ∧
    (restartTiming t s).pck = s.pck ∧
    (restartTiming t s).ciu = s.ciu ∧
    (restartTiming t s).hsu = s.hsu ∧
    (restartTiming t s).sbk = s.sbk ∧
    (restartTiming t s).arith = s.arith ∧
    (restartTiming t s).pen = s.pen ∧
    (restartTiming t s).svc = s.svc ∧
    (restartTiming t s).pending = s.pending := by
  simp [restartTiming]

@[simp] theorem reportCavern_frame (c : Cavern) (fill : Bool) (air : Nat) (s : State) :
    (reportCavern c fill air s).pins = s.pins ∧
    (reportCavern c fill air s).spi = s.spi ∧
    (reportCavern c fill air s).ilr = s.ilr ∧
    (reportCavern c fill air s).pck = s.pck ∧
    (reportCavern c fill air s).svc = s.svc ∧
    (reportCavern c fill air s).pending = s.pending := by
  simp only [reportCavern, plantEvent]; repeat' split
  all_goals simp

@[simp] theorem reportStore_frame (st : Store) (t : Train) (x : Report) (s : State) :
    (reportStore st t x s).pins = s.pins ∧
    (reportStore st t x s).spi = s.spi ∧
    (reportStore st t x s).ilr = s.ilr ∧
    (reportStore st t x s).pck = s.pck ∧
    (reportStore st t x s).svc = s.svc ∧
    (reportStore st t x s).pending = s.pending := by
  simp only [reportStore, plantEvent]; repeat' split
  all_goals simp

@[simp] theorem reportSchedule_frame (t : Train) (energy : Nat) (s : State) :
    (reportSchedule t energy s).pins = s.pins ∧
    (reportSchedule t energy s).spi = s.spi ∧
    (reportSchedule t energy s).ilr = s.ilr ∧
    (reportSchedule t energy s).pck = s.pck ∧
    (reportSchedule t energy s).ciu = s.ciu ∧
    (reportSchedule t energy s).hsu = s.hsu ∧
    (reportSchedule t energy s).dsu = s.dsu ∧
    (reportSchedule t energy s).pen = s.pen ∧
    (reportSchedule t energy s).svc = s.svc ∧
    (reportSchedule t energy s).pending = s.pending := by
  simp [reportSchedule]

@[simp] theorem derate_frame (t : Train) (power : Nat) (s : State) :
    (derate t power s).pins = s.pins ∧
    (derate t power s).spi = s.spi ∧
    (derate t power s).ilr = s.ilr ∧
    (derate t power s).pck = s.pck ∧
    (derate t power s).ciu = s.ciu ∧
    (derate t power s).hsu = s.hsu ∧
    (derate t power s).arith = s.arith ∧
    (derate t power s).svc = s.svc ∧
    (derate t power s).pending = s.pending := by
  simp [derate]

@[simp] theorem settleCheck_frame (t : Train) (power : Nat) (s : State) :
    (settleCheck t power s).pins = s.pins ∧
    (settleCheck t power s).spi = s.spi ∧
    (settleCheck t power s).ilr = s.ilr ∧
    (settleCheck t power s).pck = s.pck ∧
    (settleCheck t power s).ciu = s.ciu ∧
    (settleCheck t power s).hsu = s.hsu ∧
    (settleCheck t power s).arith = s.arith ∧
    (settleCheck t power s).svc = s.svc ∧
    (settleCheck t power s).pending = s.pending := by
  simp only [settleCheck]; repeat' split
  all_goals simp

@[simp] theorem bookReport_frame (t : Train) (x : Report) (s : State) :
    (bookReport t x s).pins = s.pins ∧
    (bookReport t x s).spi = s.spi ∧
    (bookReport t x s).evr = s.evr ∧
    (bookReport t x s).ilr = s.ilr ∧
    (bookReport t x s).pck = s.pck ∧
    (bookReport t x s).ciu = s.ciu ∧
    (bookReport t x s).hsu = s.hsu ∧
    (bookReport t x s).sbk = s.sbk ∧
    (bookReport t x s).arith = s.arith ∧
    (bookReport t x s).pen = s.pen ∧
    (bookReport t x s).svc = s.svc ∧
    (bookReport t x s).pending = s.pending := by
  simp [bookReport]

@[simp] theorem movePermit_frame (t : Train) (x : Report) (s : State) :
    (movePermit t x s).pins = s.pins ∧
    (movePermit t x s).spi = s.spi ∧
    (movePermit t x s).ilr = s.ilr ∧
    (movePermit t x s).pck = s.pck ∧
    (movePermit t x s).arith = s.arith ∧
    (movePermit t x s).svc = s.svc ∧
    (movePermit t x s).pending = s.pending := by
  simp only [movePermit]; repeat' split
  all_goals simp

@[simp] theorem reportDispatch_frame (t : Train) (x : Report) (s : State) :
    (reportDispatch t x s).pins = s.pins ∧
    (reportDispatch t x s).spi = s.spi ∧
    (reportDispatch t x s).ilr = s.ilr ∧
    (reportDispatch t x s).pck = s.pck ∧
    (reportDispatch t x s).arith = s.arith ∧
    (reportDispatch t x s).svc = s.svc ∧
    (reportDispatch t x s).pending = s.pending := by
  simp only [reportDispatch]; repeat' split
  all_goals simp

@[simp] theorem applyClamped_frame (t : Train) (x : Report) (s : State) :
    (applyClamped t x s).pins = s.pins ∧
    (applyClamped t x s).spi = s.spi ∧
    (applyClamped t x s).ilr = s.ilr ∧
    (applyClamped t x s).pck = s.pck ∧
    (applyClamped t x s).svc = s.svc ∧
    (applyClamped t x s).pending = s.pending := by
  simp only [applyClamped]; repeat' split
  all_goals simp

@[simp] theorem applyReport_frame (t : Train) (x : Report) (s : State) :
    ((applyReport t x s).1).pins = s.pins ∧
    ((applyReport t x s).1).spi = s.spi ∧
    ((applyReport t x s).1).ilr = s.ilr ∧
    ((applyReport t x s).1).pck = s.pck ∧
    ((applyReport t x s).1).svc = s.svc ∧
    ((applyReport t x s).1).pending = s.pending := by
  simp [applyReport]

@[simp] theorem takeLate_frame (t : Train) (s : State) :
    (takeLate t s).pins = s.pins ∧
    (takeLate t s).spi = s.spi ∧
    (takeLate t s).ilr = s.ilr ∧
    (takeLate t s).pck = s.pck ∧
    (takeLate t s).ciu = s.ciu ∧
    (takeLate t s).hsu = s.hsu ∧
    (takeLate t s).sbk = s.sbk ∧
    (takeLate t s).arith = s.arith ∧
    (takeLate t s).pen = s.pen ∧
    (takeLate t s).svc = s.svc ∧
    (takeLate t s).pending = s.pending := by
  simp only [takeLate]; repeat' split
  all_goals simp

@[simp] theorem takeOverdue_frame (t : Train) (s : State) :
    (takeOverdue t s).pins = s.pins ∧
    (takeOverdue t s).spi = s.spi ∧
    (takeOverdue t s).ilr = s.ilr ∧
    (takeOverdue t s).pck = s.pck ∧
    (takeOverdue t s).ciu = s.ciu ∧
    (takeOverdue t s).hsu = s.hsu ∧
    (takeOverdue t s).arith = s.arith ∧
    (takeOverdue t s).pen = s.pen ∧
    (takeOverdue t s).svc = s.svc ∧
    (takeOverdue t s).pending = s.pending := by
  simp only [takeOverdue]; repeat' split
  all_goals simp

@[simp] theorem takeLost_frame (t : Train) (s : State) :
    (takeLost t s).pins = s.pins ∧
    (takeLost t s).spi = s.spi ∧
    (takeLost t s).ilr = s.ilr ∧
    (takeLost t s).pck = s.pck ∧
    (takeLost t s).arith = s.arith ∧
    (takeLost t s).svc = s.svc ∧
    (takeLost t s).pending = s.pending := by
  simp only [takeLost]; repeat' split
  all_goals simp

/-! ## The Position Engine (chapter 5) -/

@[simp] theorem setFlight_frame (f : Option Flight) (s : State) :
    (setFlight f s).pins = s.pins ∧
    (setFlight f s).spi = s.spi ∧
    (setFlight f s).evr = s.evr ∧
    (setFlight f s).ilr = s.ilr ∧
    (setFlight f s).pck = s.pck ∧
    (setFlight f s).ciu = s.ciu ∧
    (setFlight f s).hsu = s.hsu ∧
    (setFlight f s).sbk = s.sbk ∧
    (setFlight f s).dsu = s.dsu ∧
    (setFlight f s).arith = s.arith ∧
    (setFlight f s).svc = s.svc ∧
    (setFlight f s).pending = s.pending := by
  simp [setFlight]

@[simp] theorem freeEngine_frame (s : State) :
    (freeEngine s).pins = s.pins ∧
    (freeEngine s).spi = s.spi ∧
    (freeEngine s).evr = s.evr ∧
    (freeEngine s).ilr = s.ilr ∧
    (freeEngine s).pck = s.pck ∧
    (freeEngine s).ciu = s.ciu ∧
    (freeEngine s).hsu = s.hsu ∧
    (freeEngine s).sbk = s.sbk ∧
    (freeEngine s).dsu = s.dsu ∧
    (freeEngine s).arith = s.arith ∧
    (freeEngine s).svc = s.svc ∧
    (freeEngine s).pending = s.pending := by
  simp [freeEngine]

@[simp] theorem dropWalk_frame (s : State) :
    (dropWalk s).pins = s.pins ∧
    (dropWalk s).spi = s.spi ∧
    (dropWalk s).evr = s.evr ∧
    (dropWalk s).ilr = s.ilr ∧
    (dropWalk s).pck = s.pck ∧
    (dropWalk s).ciu = s.ciu ∧
    (dropWalk s).hsu = s.hsu ∧
    (dropWalk s).sbk = s.sbk ∧
    (dropWalk s).dsu = s.dsu ∧
    (dropWalk s).arith = s.arith ∧
    (dropWalk s).svc = s.svc ∧
    (dropWalk s).pending = s.pending := by
  simp [dropWalk]

@[simp] theorem endWalk_frame (a : Answer) (s : State) :
    (endWalk a s).pins = s.pins ∧
    (endWalk a s).evr = s.evr ∧
    (endWalk a s).ilr = s.ilr ∧
    (endWalk a s).pck = s.pck ∧
    (endWalk a s).ciu = s.ciu ∧
    (endWalk a s).hsu = s.hsu ∧
    (endWalk a s).sbk = s.sbk ∧
    (endWalk a s).dsu = s.dsu ∧
    (endWalk a s).arith = s.arith ∧
    (endWalk a s).svc = s.svc ∧
    (endWalk a s).pending = s.pending := by
  simp [endWalk]

@[simp] theorem writeLimit_frame (l : Limit) (s : State) :
    (writeLimit l s).pins = s.pins ∧
    (writeLimit l s).spi = s.spi ∧
    (writeLimit l s).evr = s.evr ∧
    (writeLimit l s).ilr = s.ilr ∧
    (writeLimit l s).pck = s.pck ∧
    (writeLimit l s).ciu = s.ciu ∧
    (writeLimit l s).hsu = s.hsu ∧
    (writeLimit l s).sbk = s.sbk ∧
    (writeLimit l s).dsu = s.dsu ∧
    (writeLimit l s).arith = s.arith ∧
    (writeLimit l s).svc = s.svc ∧
    (writeLimit l s).pending = s.pending := by
  simp [writeLimit]

@[simp] theorem launch_frame (request : Option Request) (restart : Bool) (s : State) :
    (launch request restart s).pins = s.pins ∧
    (launch request restart s).ilr = s.ilr ∧
    (launch request restart s).pck = s.pck ∧
    (launch request restart s).ciu = s.ciu ∧
    (launch request restart s).hsu = s.hsu ∧
    (launch request restart s).sbk = s.sbk ∧
    (launch request restart s).dsu = s.dsu ∧
    (launch request restart s).svc = s.svc ∧
    (launch request restart s).pending = s.pending := by
  simp only [launch]; repeat' split
  all_goals simp

@[simp] theorem startWalk_frame (s : State) :
    (startWalk s).pins = s.pins ∧
    (startWalk s).ilr = s.ilr ∧
    (startWalk s).pck = s.pck ∧
    (startWalk s).ciu = s.ciu ∧
    (startWalk s).hsu = s.hsu ∧
    (startWalk s).sbk = s.sbk ∧
    (startWalk s).dsu = s.dsu ∧
    (startWalk s).svc = s.svc ∧
    (startWalk s).pending = s.pending := by
  simp only [startWalk]; repeat' split
  all_goals simp

@[simp] theorem raiseWalk_frame (b : Base) (candidate : Option Nat) (s : State) (x : Option ExcCode × Nat) :
    (raiseWalk b candidate s x).pins = s.pins ∧
    (raiseWalk b candidate s x).spi = s.spi ∧
    (raiseWalk b candidate s x).ilr = s.ilr ∧
    (raiseWalk b candidate s x).pck = s.pck ∧
    (raiseWalk b candidate s x).ciu = s.ciu ∧
    (raiseWalk b candidate s x).hsu = s.hsu ∧
    (raiseWalk b candidate s x).sbk = s.sbk ∧
    (raiseWalk b candidate s x).dsu = s.dsu ∧
    (raiseWalk b candidate s x).pen = s.pen ∧
    (raiseWalk b candidate s x).svc = s.svc ∧
    (raiseWalk b candidate s x).pending = s.pending := by
  simp only [raiseWalk]; repeat' split
  all_goals simp

@[simp] theorem settleOffer_frame (j up down : Nat) (n : Int) (ref : BitVec 32) (a : Ability) (stale : Bool) (s : State) :
    (settleOffer j up down n ref a stale s).pins = s.pins ∧
    (settleOffer j up down n ref a stale s).ilr = s.ilr ∧
    (settleOffer j up down n ref a stale s).pck = s.pck ∧
    (settleOffer j up down n ref a stale s).arith = s.arith ∧
    (settleOffer j up down n ref a stale s).svc = s.svc ∧
    (settleOffer j up down n ref a stale s).pending = s.pending := by
  simp only [settleOffer]; repeat' split
  all_goals simp

@[simp] theorem settleConfirm_frame (j : Nat) (value : Int) (a : Ability) (stale : Bool) (s : State) :
    (settleConfirm j value a stale s).pins = s.pins ∧
    (settleConfirm j value a stale s).ilr = s.ilr ∧
    (settleConfirm j value a stale s).pck = s.pck ∧
    (settleConfirm j value a stale s).arith = s.arith ∧
    (settleConfirm j value a stale s).svc = s.svc ∧
    (settleConfirm j value a stale s).pending = s.pending := by
  simp only [settleConfirm]; repeat' split
  all_goals simp

@[simp] theorem settleRequest_frame (r : Request) (a : Ability) (stale : Bool) (s : State) :
    (settleRequest r a stale s).pins = s.pins ∧
    (settleRequest r a stale s).ilr = s.ilr ∧
    (settleRequest r a stale s).pck = s.pck ∧
    (settleRequest r a stale s).arith = s.arith ∧
    (settleRequest r a stale s).svc = s.svc ∧
    (settleRequest r a stale s).pending = s.pending := by
  simp only [settleRequest]; repeat' split
  all_goals simp

/-- A list of walk captures. -/
@[simp] theorem foldl_raiseWalk_frame (b : Base) (c : Option Nat) (l : List (Option ExcCode × Nat)) (s : State) :
    (l.foldl (raiseWalk b c) s).pins = s.pins ∧
    (l.foldl (raiseWalk b c) s).spi = s.spi ∧
    (l.foldl (raiseWalk b c) s).ilr = s.ilr ∧
    (l.foldl (raiseWalk b c) s).pck = s.pck ∧
    (l.foldl (raiseWalk b c) s).ciu = s.ciu ∧
    (l.foldl (raiseWalk b c) s).hsu = s.hsu ∧
    (l.foldl (raiseWalk b c) s).sbk = s.sbk ∧
    (l.foldl (raiseWalk b c) s).dsu = s.dsu ∧
    (l.foldl (raiseWalk b c) s).pen = s.pen ∧
    (l.foldl (raiseWalk b c) s).svc = s.svc ∧
    (l.foldl (raiseWalk b c) s).pending = s.pending := by
  refine ⟨?_, ?_, ?_, ?_, ?_, ?_, ?_, ?_, ?_, ?_, ?_⟩ <;> exact foldl_keeps _ _ (by simp) l s

@[simp] theorem completeRequest_frame (r : Request) (b : Base) (restart : Bool) (s : State) :
    (completeRequest r b restart s).pins = s.pins ∧
    (completeRequest r b restart s).ilr = s.ilr ∧
    (completeRequest r b restart s).pck = s.pck ∧
    (completeRequest r b restart s).svc = s.svc ∧
    (completeRequest r b restart s).pending = s.pending := by
  simp only [completeRequest]; repeat' split
  all_goals simp

@[simp] theorem markSlot_frame (s : State) (p : Slot × WalkStep) :
    (markSlot s p).pins = s.pins ∧
    (markSlot s p).spi = s.spi ∧
    (markSlot s p).ilr = s.ilr ∧
    (markSlot s p).pck = s.pck ∧
    (markSlot s p).ciu = s.ciu ∧
    (markSlot s p).hsu = s.hsu ∧
    (markSlot s p).dsu = s.dsu ∧
    (markSlot s p).arith = s.arith ∧
    (markSlot s p).pen = s.pen ∧
    (markSlot s p).svc = s.svc ∧
    (markSlot s p).pending = s.pending := by
  simp only [markSlot]; repeat' split
  all_goals simp

/-- A list of recheck marks. -/
@[simp] theorem foldl_markSlot_frame (l : List (Slot × WalkStep)) (s : State) :
    (l.foldl markSlot s).pins = s.pins ∧
    (l.foldl markSlot s).spi = s.spi ∧
    (l.foldl markSlot s).ilr = s.ilr ∧
    (l.foldl markSlot s).pck = s.pck ∧
    (l.foldl markSlot s).ciu = s.ciu ∧
    (l.foldl markSlot s).hsu = s.hsu ∧
    (l.foldl markSlot s).dsu = s.dsu ∧
    (l.foldl markSlot s).arith = s.arith ∧
    (l.foldl markSlot s).pen = s.pen ∧
    (l.foldl markSlot s).svc = s.svc ∧
    (l.foldl markSlot s).pending = s.pending := by
  refine ⟨?_, ?_, ?_, ?_, ?_, ?_, ?_, ?_, ?_, ?_, ?_⟩ <;> exact foldl_keeps _ _ (by simp) l s

@[simp] theorem completeRecheck_frame (b : Base) (s : State) :
    (completeRecheck b s).pins = s.pins ∧
    (completeRecheck b s).spi = s.spi ∧
    (completeRecheck b s).ilr = s.ilr ∧
    (completeRecheck b s).pck = s.pck ∧
    (completeRecheck b s).ciu = s.ciu ∧
    (completeRecheck b s).hsu = s.hsu ∧
    (completeRecheck b s).dsu = s.dsu ∧
    (completeRecheck b s).svc = s.svc ∧
    (completeRecheck b s).pending = s.pending := by
  simp [completeRecheck]

@[simp] theorem lapseWalk_frame (s : State) :
    (lapseWalk s).pins = s.pins ∧
    (lapseWalk s).evr = s.evr ∧
    (lapseWalk s).ilr = s.ilr ∧
    (lapseWalk s).pck = s.pck ∧
    (lapseWalk s).ciu = s.ciu ∧
    (lapseWalk s).hsu = s.hsu ∧
    (lapseWalk s).sbk = s.sbk ∧
    (lapseWalk s).dsu = s.dsu ∧
    (lapseWalk s).arith = s.arith ∧
    (lapseWalk s).svc = s.svc ∧
    (lapseWalk s).pending = s.pending := by
  simp only [lapseWalk]; repeat' split
  all_goals simp

@[simp] theorem refuseWalk_frame (s : State) :
    (refuseWalk s).pins = s.pins ∧
    (refuseWalk s).evr = s.evr ∧
    (refuseWalk s).ilr = s.ilr ∧
    (refuseWalk s).pck = s.pck ∧
    (refuseWalk s).ciu = s.ciu ∧
    (refuseWalk s).hsu = s.hsu ∧
    (refuseWalk s).sbk = s.sbk ∧
    (refuseWalk s).dsu = s.dsu ∧
    (refuseWalk s).arith = s.arith ∧
    (refuseWalk s).svc = s.svc ∧
    (refuseWalk s).pending = s.pending := by
  simp only [refuseWalk]; repeat' split
  all_goals simp

end Sys2Proof.Machine
end

