-- ==== Sys2Proof/Laws/Clock.lean ====
section
/-! SUPPORT. What the operations of the Plant Clock, the Instrument Line Receiver, the Service Controller and the port interface leave as they were. -/

namespace Sys2Proof.Machine

/-! ## The Plant Clock (chapter 4) -/

@[simp] theorem staleCopy_frame (src : Source) (s : State) :
    (staleCopy src s).pins = s.pins ∧
    (staleCopy src s).spi = s.spi ∧
    (staleCopy src s).evr = s.evr ∧
    (staleCopy src s).ilr = s.ilr ∧
    (staleCopy src s).pck = s.pck ∧
    (staleCopy src s).sbk = s.sbk ∧
    (staleCopy src s).dsu = s.dsu ∧
    (staleCopy src s).arith = s.arith ∧
    (staleCopy src s).pen = s.pen ∧
    (staleCopy src s).svc = s.svc ∧
    (staleCopy src s).pending = s.pending := by
  simp only [staleCopy]; repeat' split
  all_goals simp

@[simp] theorem takeStale_frame (s : State) (src : Source) :
    (takeStale s src).pins = s.pins ∧
    (takeStale s src).spi = s.spi ∧
    (takeStale s src).pck = s.pck ∧
    (takeStale s src).sbk = s.sbk ∧
    (takeStale s src).dsu = s.dsu ∧
    (takeStale s src).arith = s.arith ∧
    (takeStale s src).pen = s.pen ∧
    (takeStale s src).svc = s.svc ∧
    (takeStale s src).pending = s.pending := by
  simp only [takeStale]; repeat' split
  all_goals simp

/-- A list of `takeStale` steps. -/
@[simp] theorem foldl_takeStale_frame (l : List Source) (s : State) :
    (l.foldl (takeStale) s).pins = s.pins ∧
    (l.foldl (takeStale) s).spi = s.spi ∧
    (l.foldl (takeStale) s).pck = s.pck ∧
    (l.foldl (takeStale) s).sbk = s.sbk ∧
    (l.foldl (takeStale) s).dsu = s.dsu ∧
    (l.foldl (takeStale) s).arith = s.arith ∧
    (l.foldl (takeStale) s).pen = s.pen ∧
    (l.foldl (takeStale) s).svc = s.svc ∧
    (l.foldl (takeStale) s).pending = s.pending := by
  refine ⟨?_, ?_, ?_, ?_, ?_, ?_, ?_, ?_, ?_⟩ <;> exact foldl_keeps _ _ (by simp) l s

@[simp] theorem takeStaleTo_frame (src : Source) (s : State) :
    (takeStaleTo src s).pins = s.pins ∧
    (takeStaleTo src s).spi = s.spi ∧
    (takeStaleTo src s).pck = s.pck ∧
    (takeStaleTo src s).sbk = s.sbk ∧
    (takeStaleTo src s).dsu = s.dsu ∧
    (takeStaleTo src s).arith = s.arith ∧
    (takeStaleTo src s).pen = s.pen ∧
    (takeStaleTo src s).svc = s.svc ∧
    (takeStaleTo src s).pending = s.pending := by
  simp only [takeStaleTo]; repeat' split
  all_goals simp

@[simp] theorem takeAging_frame (s : State) :
    (takeAging s).pins = s.pins ∧
    (takeAging s).spi = s.spi ∧
    (takeAging s).ilr = s.ilr ∧
    (takeAging s).pck = s.pck ∧
    (takeAging s).svc = s.svc ∧
    (takeAging s).pending = s.pending := by
  simp only [takeAging]; repeat' split
  all_goals simp

@[simp] theorem lapseOffer_frame (s : State) (j : Nat) :
    (lapseOffer s j).pins = s.pins ∧
    (lapseOffer s j).spi = s.spi ∧
    (lapseOffer s j).ilr = s.ilr ∧
    (lapseOffer s j).pck = s.pck ∧
    (lapseOffer s j).arith = s.arith ∧
    (lapseOffer s j).svc = s.svc ∧
    (lapseOffer s j).pending = s.pending := by
  simp only [lapseOffer]; repeat' split
  all_goals simp

@[simp] theorem takeExpiry_frame (s : State) (j : Nat) :
    (takeExpiry s j).pins = s.pins ∧
    (takeExpiry s j).spi = s.spi ∧
    (takeExpiry s j).ilr = s.ilr ∧
    (takeExpiry s j).pck = s.pck ∧
    (takeExpiry s j).arith = s.arith ∧
    (takeExpiry s j).svc = s.svc ∧
    (takeExpiry s j).pending = s.pending := by
  simp only [takeExpiry]; repeat' split
  all_goals simp

/-- The lapse of every offer of a list. -/
@[simp] theorem foldl_lapseOffer_frame (l : List Nat) (s : State) :
    (l.foldl lapseOffer s).pins = s.pins ∧
    (l.foldl lapseOffer s).spi = s.spi ∧
    (l.foldl lapseOffer s).ilr = s.ilr ∧
    (l.foldl lapseOffer s).pck = s.pck ∧
    (l.foldl lapseOffer s).arith = s.arith ∧
    (l.foldl lapseOffer s).svc = s.svc ∧
    (l.foldl lapseOffer s).pending = s.pending := by
  refine ⟨?_, ?_, ?_, ?_, ?_, ?_, ?_⟩ <;> exact foldl_keeps _ _ (by simp) l s

/-- The expiry of every offer of a list. -/
@[simp] theorem foldl_takeExpiry_frame (l : List Nat) (s : State) :
    (l.foldl takeExpiry s).pins = s.pins ∧
    (l.foldl takeExpiry s).spi = s.spi ∧
    (l.foldl takeExpiry s).ilr = s.ilr ∧
    (l.foldl takeExpiry s).pck = s.pck ∧
    (l.foldl takeExpiry s).arith = s.arith ∧
    (l.foldl takeExpiry s).svc = s.svc ∧
    (l.foldl takeExpiry s).pending = s.pending := by
  refine ⟨?_, ?_, ?_, ?_, ?_, ?_, ?_⟩ <;> exact foldl_keeps _ _ (by simp) l s

@[simp] theorem emptyOffers_frame (s : State) :
    (emptyOffers s).pins = s.pins ∧
    (emptyOffers s).spi = s.spi ∧
    (emptyOffers s).ilr = s.ilr ∧
    (emptyOffers s).pck = s.pck ∧
    (emptyOffers s).arith = s.arith ∧
    (emptyOffers s).svc = s.svc ∧
    (emptyOffers s).pending = s.pending := by
  simp [emptyOffers]

@[simp] theorem takeStaging_frame (s : State) :
    (takeStaging s).pins = s.pins ∧
    (takeStaging s).spi = s.spi ∧
    (takeStaging s).ilr = s.ilr ∧
    (takeStaging s).arith = s.arith ∧
    (takeStaging s).pen = s.pen ∧
    (takeStaging s).svc = s.svc ∧
    (takeStaging s).pending = s.pending := by
  simp only [takeStaging]; repeat' split
  all_goals simp

@[simp] theorem boundaryBook_frame (s : State) :
    (boundaryBook s).pins = s.pins ∧
    (boundaryBook s).ilr = s.ilr ∧
    (boundaryBook s).pck = s.pck ∧
    (boundaryBook s).svc = s.svc ∧
    (boundaryBook s).pending = s.pending := by
  simp [boundaryBook]

@[simp] theorem takeBoundary_frame (s : State) :
    (takeBoundary s).pins = s.pins ∧
    (takeBoundary s).ilr = s.ilr ∧
    (takeBoundary s).svc = s.svc ∧
    (takeBoundary s).pending = s.pending := by
  simp only [takeBoundary]; repeat' split
  all_goals simp

@[simp] theorem takeRungs_frame (s : State) (t : Train) :
    (takeRungs s t).pins = s.pins ∧
    (takeRungs s t).spi = s.spi ∧
    (takeRungs s t).ilr = s.ilr ∧
    (takeRungs s t).pck = s.pck ∧
    (takeRungs s t).arith = s.arith ∧
    (takeRungs s t).svc = s.svc ∧
    (takeRungs s t).pending = s.pending := by
  simp [takeRungs]

@[simp] theorem drain_frame (s : State) :
    (drain s).pins = s.pins ∧
    (drain s).svc = s.svc ∧
    (drain s).pending = s.pending := by
  simp [drain, allSources, allTrains]

@[simp] theorem countAdvance_frame (s : State) :
    (countAdvance s).pins = s.pins ∧
    (countAdvance s).spi = s.spi ∧
    (countAdvance s).evr = s.evr ∧
    (countAdvance s).sbk = s.sbk ∧
    (countAdvance s).arith = s.arith ∧
    (countAdvance s).pen = s.pen ∧
    (countAdvance s).svc = s.svc ∧
    (countAdvance s).pending = s.pending := by
  simp [countAdvance]

@[simp] theorem advance_frame (s : State) :
    (advance s).pins = s.pins ∧
    (advance s).svc = s.svc ∧
    (advance s).pending = s.pending := by
  simp only [advance]; repeat' split
  all_goals simp

@[simp] theorem noteMoment_frame (now : Nat) (s : State) :
    (noteMoment now s).pins = s.pins ∧
    (noteMoment now s).spi = s.spi ∧
    (noteMoment now s).evr = s.evr ∧
    (noteMoment now s).ilr = s.ilr ∧
    (noteMoment now s).ciu = s.ciu ∧
    (noteMoment now s).hsu = s.hsu ∧
    (noteMoment now s).sbk = s.sbk ∧
    (noteMoment now s).dsu = s.dsu ∧
    (noteMoment now s).arith = s.arith ∧
    (noteMoment now s).pen = s.pen ∧
    (noteMoment now s).svc = s.svc ∧
    (noteMoment now s).pending = s.pending := by
  simp [noteMoment]

@[simp] theorem endHoldover_frame (s : State) :
    (endHoldover s).pins = s.pins ∧
    (endHoldover s).spi = s.spi ∧
    (endHoldover s).ilr = s.ilr ∧
    (endHoldover s).ciu = s.ciu ∧
    (endHoldover s).hsu = s.hsu ∧
    (endHoldover s).sbk = s.sbk ∧
    (endHoldover s).dsu = s.dsu ∧
    (endHoldover s).arith = s.arith ∧
    (endHoldover s).pen = s.pen ∧
    (endHoldover s).svc = s.svc ∧
    (endHoldover s).pending = s.pending := by
  simp only [endHoldover]; repeat' split
  all_goals simp

/-! ## The Instrument Line Receiver (chapter 8) -/

@[simp] theorem changeTemp_frame (c : Cavern) (v : Nat) (s : State) :
    (changeTemp c v s).pins = s.pins ∧
    (changeTemp c v s).spi = s.spi ∧
    (changeTemp c v s).ilr = s.ilr ∧
    (changeTemp c v s).pck = s.pck ∧
    (changeTemp c v s).hsu = s.hsu ∧
    (changeTemp c v s).sbk = s.sbk ∧
    (changeTemp c v s).dsu = s.dsu ∧
    (changeTemp c v s).pen = s.pen ∧
    (changeTemp c v s).svc = s.svc ∧
    (changeTemp c v s).pending = s.pending := by
  simp [changeTemp]

@[simp] theorem takePressure_frame (c : Cavern) (v : Nat) (valid : Validity) (s : State) :
    (takePressure c v valid s).pins = s.pins ∧
    (takePressure c v valid s).spi = s.spi ∧
    (takePressure c v valid s).ilr = s.ilr ∧
    (takePressure c v valid s).pck = s.pck ∧
    (takePressure c v valid s).svc = s.svc ∧
    (takePressure c v valid s).pending = s.pending := by
  simp only [takePressure, plantEvent]; repeat' split
  all_goals simp

@[simp] theorem takeTemperature_frame (c : Cavern) (v : Nat) (valid : Validity) (s : State) :
    (takeTemperature c v valid s).pins = s.pins ∧
    (takeTemperature c v valid s).spi = s.spi ∧
    (takeTemperature c v valid s).ilr = s.ilr ∧
    (takeTemperature c v valid s).pck = s.pck ∧
    (takeTemperature c v valid s).svc = s.svc ∧
    (takeTemperature c v valid s).pending = s.pending := by
  simp only [takeTemperature, plantEvent]; repeat' split
  all_goals simp

@[simp] theorem takeTop_frame (st : Store) (v : Nat) (valid : Validity) (s : State) :
    (takeTop st v valid s).pins = s.pins ∧
    (takeTop st v valid s).spi = s.spi ∧
    (takeTop st v valid s).ilr = s.ilr ∧
    (takeTop st v valid s).pck = s.pck ∧
    (takeTop st v valid s).svc = s.svc ∧
    (takeTop st v valid s).pending = s.pending := by
  simp only [takeTop, plantEvent]; repeat' split
  all_goals simp

@[simp] theorem handMeasurement_frame (src : Source) (v : Nat) (valid : Validity) (s : State) :
    (handMeasurement src v valid s).pins = s.pins ∧
    (handMeasurement src v valid s).spi = s.spi ∧
    (handMeasurement src v valid s).ilr = s.ilr ∧
    (handMeasurement src v valid s).pck = s.pck ∧
    (handMeasurement src v valid s).svc = s.svc ∧
    (handMeasurement src v valid s).pending = s.pending := by
  simp only [handMeasurement]; repeat' split
  all_goals simp

@[simp] theorem acceptFrame_frame (src : Source) (raw : Nat) (status seq : Byte) (s : State) :
    (acceptFrame src raw status seq s).pins = s.pins ∧
    (acceptFrame src raw status seq s).spi = s.spi ∧
    (acceptFrame src raw status seq s).pck = s.pck ∧
    (acceptFrame src raw status seq s).svc = s.svc ∧
    (acceptFrame src raw status seq s).pending = s.pending := by
  simp only [acceptFrame]; repeat' split
  all_goals simp

@[simp] theorem takeFrame_frame (chars : List Byte) (s : State) :
    (takeFrame chars s).pins = s.pins ∧
    (takeFrame chars s).spi = s.spi ∧
    (takeFrame chars s).pck = s.pck ∧
    (takeFrame chars s).svc = s.svc ∧
    (takeFrame chars s).pending = s.pending := by
  simp only [takeFrame]; repeat' split
  all_goals simp

@[simp] theorem setLine_frame (l : Line) (s : State) :
    (setLine l s).pins = s.pins ∧
    (setLine l s).spi = s.spi ∧
    (setLine l s).evr = s.evr ∧
    (setLine l s).pck = s.pck ∧
    (setLine l s).ciu = s.ciu ∧
    (setLine l s).hsu = s.hsu ∧
    (setLine l s).sbk = s.sbk ∧
    (setLine l s).dsu = s.dsu ∧
    (setLine l s).arith = s.arith ∧
    (setLine l s).pen = s.pen ∧
    (setLine l s).svc = s.svc ∧
    (setLine l s).pending = s.pending := by
  simp [setLine]

@[simp] theorem takeChar_frame (s : State) (c : Byte) :
    (takeChar s c).pins = s.pins ∧
    (takeChar s c).spi = s.spi ∧
    (takeChar s c).pck = s.pck ∧
    (takeChar s c).svc = s.svc ∧
    (takeChar s c).pending = s.pending := by
  simp only [takeChar]; repeat' split
  all_goals simp

/-! ## The Service Controller (chapter 11) -/

@[simp] theorem setPart_frame (new : PartState) (s : State) :
    (setPart new s).pins = s.pins ∧
    (setPart new s).spi = s.spi ∧
    (setPart new s).ilr = s.ilr ∧
    (setPart new s).pck = s.pck ∧
    (setPart new s).ciu = s.ciu ∧
    (setPart new s).hsu = s.hsu ∧
    (setPart new s).sbk = s.sbk ∧
    (setPart new s).dsu = s.dsu ∧
    (setPart new s).arith = s.arith ∧
    (setPart new s).pen = s.pen ∧
    (setPart new s).pending = s.pending := by
  simp [setPart]

@[simp] theorem setPresence_frame (p : Port) (v : Presence) (s : State) :
    (setPresence p v s).pins = s.pins ∧
    (setPresence p v s).evr = s.evr ∧
    (setPresence p v s).ilr = s.ilr ∧
    (setPresence p v s).pck = s.pck ∧
    (setPresence p v s).ciu = s.ciu ∧
    (setPresence p v s).hsu = s.hsu ∧
    (setPresence p v s).sbk = s.sbk ∧
    (setPresence p v s).dsu = s.dsu ∧
    (setPresence p v s).arith = s.arith ∧
    (setPresence p v s).pen = s.pen ∧
    (setPresence p v s).svc = s.svc ∧
    (setPresence p v s).pending = s.pending := by
  simp [setPresence]

@[simp] theorem declare_frame (p : Port) (s : State) :
    (declare p s).pins = s.pins ∧
    (declare p s).ilr = s.ilr ∧
    (declare p s).pck = s.pck ∧
    (declare p s).ciu = s.ciu ∧
    (declare p s).hsu = s.hsu ∧
    (declare p s).sbk = s.sbk ∧
    (declare p s).dsu = s.dsu ∧
    (declare p s).arith = s.arith ∧
    (declare p s).pending = s.pending := by
  simp only [declare]; repeat' split
  all_goals simp

@[simp] theorem lapseQueued_frame (cause : Nat) (ts : List Train) (s : State) :
    (lapseQueued cause ts s).pins = s.pins ∧
    (lapseQueued cause ts s).spi = s.spi ∧
    (lapseQueued cause ts s).ilr = s.ilr ∧
    (lapseQueued cause ts s).pck = s.pck ∧
    (lapseQueued cause ts s).ciu = s.ciu ∧
    (lapseQueued cause ts s).hsu = s.hsu ∧
    (lapseQueued cause ts s).sbk = s.sbk ∧
    (lapseQueued cause ts s).arith = s.arith ∧
    (lapseQueued cause ts s).pen = s.pen ∧
    (lapseQueued cause ts s).svc = s.svc ∧
    (lapseQueued cause ts s).pending = s.pending := by
  simp [lapseQueued]

@[simp] theorem tripPort_frame (s : State) (t : Train) :
    (tripPort s t).pins = s.pins ∧
    (tripPort s t).spi = s.spi ∧
    (tripPort s t).ilr = s.ilr ∧
    (tripPort s t).pck = s.pck ∧
    (tripPort s t).arith = s.arith ∧
    (tripPort s t).svc = s.svc ∧
    (tripPort s t).pending = s.pending := by
  simp only [tripPort]; repeat' split
  all_goals simp

/-- A list of `tripPort` steps. -/
@[simp] theorem foldl_tripPort_frame (l : List Train) (s : State) :
    (l.foldl (tripPort) s).pins = s.pins ∧
    (l.foldl (tripPort) s).spi = s.spi ∧
    (l.foldl (tripPort) s).ilr = s.ilr ∧
    (l.foldl (tripPort) s).pck = s.pck ∧
    (l.foldl (tripPort) s).arith = s.arith ∧
    (l.foldl (tripPort) s).svc = s.svc ∧
    (l.foldl (tripPort) s).pending = s.pending := by
  refine ⟨?_, ?_, ?_, ?_, ?_, ?_, ?_⟩ <;> exact foldl_keeps _ _ (by simp) l s

@[simp] theorem dispatchLeaves_frame (p : Port) (absent : Bool) (s : State) :
    (dispatchLeaves p absent s).pins = s.pins ∧
    (dispatchLeaves p absent s).spi = s.spi ∧
    (dispatchLeaves p absent s).ilr = s.ilr ∧
    (dispatchLeaves p absent s).pck = s.pck ∧
    (dispatchLeaves p absent s).arith = s.arith ∧
    (dispatchLeaves p absent s).svc = s.svc ∧
    (dispatchLeaves p absent s).pending = s.pending := by
  simp only [dispatchLeaves]; repeat' split
  all_goals simp

@[simp] theorem tradeLeaves_frame (absent : Bool) (s : State) :
    (tradeLeaves absent s).pins = s.pins ∧
    (tradeLeaves absent s).ilr = s.ilr ∧
    (tradeLeaves absent s).pck = s.pck ∧
    (tradeLeaves absent s).arith = s.arith ∧
    (tradeLeaves absent s).svc = s.svc ∧
    (tradeLeaves absent s).pending = s.pending := by
  simp only [tradeLeaves]; repeat' split
  all_goals simp

@[simp] theorem lowerPresence_frame (p : Port) (new : Presence) (s : State) :
    (lowerPresence p new s).pins = s.pins ∧
    (lowerPresence p new s).ilr = s.ilr ∧
    (lowerPresence p new s).pck = s.pck ∧
    (lowerPresence p new s).arith = s.arith ∧
    (lowerPresence p new s).pending = s.pending := by
  simp only [lowerPresence]; repeat' split
  all_goals simp

@[simp] theorem parkPort_frame (s : State) (p : Port) :
    (parkPort s p).pins = s.pins ∧
    (parkPort s p).evr = s.evr ∧
    (parkPort s p).ilr = s.ilr ∧
    (parkPort s p).pck = s.pck ∧
    (parkPort s p).ciu = s.ciu ∧
    (parkPort s p).hsu = s.hsu ∧
    (parkPort s p).sbk = s.sbk ∧
    (parkPort s p).dsu = s.dsu ∧
    (parkPort s p).arith = s.arith ∧
    (parkPort s p).pen = s.pen ∧
    (parkPort s p).svc = s.svc ∧
    (parkPort s p).pending = s.pending := by
  simp [parkPort]

@[simp] theorem dispatchParks_frame (s : State) :
    (dispatchParks s).pins = s.pins ∧
    (dispatchParks s).spi = s.spi ∧
    (dispatchParks s).ilr = s.ilr ∧
    (dispatchParks s).pck = s.pck ∧
    (dispatchParks s).ciu = s.ciu ∧
    (dispatchParks s).hsu = s.hsu ∧
    (dispatchParks s).arith = s.arith ∧
    (dispatchParks s).pen = s.pen ∧
    (dispatchParks s).svc = s.svc ∧
    (dispatchParks s).pending = s.pending := by
  simp [dispatchParks, allTrains]

@[simp] theorem parkPart_frame (s : State) :
    (parkPart s).pins = s.pins ∧
    (parkPart s).ilr = s.ilr ∧
    (parkPart s).pck = s.pck ∧
    (parkPart s).arith = s.arith ∧
    (parkPart s).pending = s.pending := by
  simp [parkPart]

@[simp] theorem takePresentFall_frame (p : Port) (s : State) :
    (takePresentFall p s).pins = s.pins ∧
    (takePresentFall p s).ilr = s.ilr ∧
    (takePresentFall p s).pck = s.pck ∧
    (takePresentFall p s).arith = s.arith ∧
    (takePresentFall p s).pending = s.pending := by
  simp only [takePresentFall]; repeat' split
  all_goals simp

@[simp] theorem takePresentRise_frame (p : Port) (s : State) :
    (takePresentRise p s).pins = s.pins ∧
    (takePresentRise p s).ilr = s.ilr ∧
    (takePresentRise p s).pck = s.pck ∧
    (takePresentRise p s).ciu = s.ciu ∧
    (takePresentRise p s).hsu = s.hsu ∧
    (takePresentRise p s).sbk = s.sbk ∧
    (takePresentRise p s).dsu = s.dsu ∧
    (takePresentRise p s).arith = s.arith ∧
    (takePresentRise p s).svc = s.svc ∧
    (takePresentRise p s).pending = s.pending := by
  simp only [takePresentRise]; repeat' split
  all_goals simp

/-! ## The port interface (chapter 10) -/

@[simp] theorem placeTaken_frame (p : Port) (form : Answer → List Byte) (t : Taken) :
    (placeTaken p form t).pins = t.1.pins ∧
    (placeTaken p form t).evr = t.1.evr ∧
    (placeTaken p form t).ilr = t.1.ilr ∧
    (placeTaken p form t).pck = t.1.pck ∧
    (placeTaken p form t).ciu = t.1.ciu ∧
    (placeTaken p form t).hsu = t.1.hsu ∧
    (placeTaken p form t).sbk = t.1.sbk ∧
    (placeTaken p form t).dsu = t.1.dsu ∧
    (placeTaken p form t).arith = t.1.arith ∧
    (placeTaken p form t).pen = t.1.pen ∧
    (placeTaken p form t).svc = t.1.svc ∧
    (placeTaken p form t).pending = t.1.pending := by
  simp only [placeTaken]; split
  all_goals simp

@[simp] theorem uncollect_frame (p : Port) (s : State) :
    (uncollect p s).pins = s.pins ∧
    (uncollect p s).evr = s.evr ∧
    (uncollect p s).ilr = s.ilr ∧
    (uncollect p s).pck = s.pck ∧
    (uncollect p s).ciu = s.ciu ∧
    (uncollect p s).hsu = s.hsu ∧
    (uncollect p s).sbk = s.sbk ∧
    (uncollect p s).dsu = s.dsu ∧
    (uncollect p s).arith = s.arith ∧
    (uncollect p s).pen = s.pen ∧
    (uncollect p s).svc = s.svc ∧
    (uncollect p s).pending = s.pending := by
  simp [uncollect]

@[simp] theorem addSlots_frame (p : Port) (n : Nat) (s : State) :
    (addSlots p n s).pins = s.pins ∧
    (addSlots p n s).evr = s.evr ∧
    (addSlots p n s).ilr = s.ilr ∧
    (addSlots p n s).pck = s.pck ∧
    (addSlots p n s).ciu = s.ciu ∧
    (addSlots p n s).hsu = s.hsu ∧
    (addSlots p n s).sbk = s.sbk ∧
    (addSlots p n s).dsu = s.dsu ∧
    (addSlots p n s).arith = s.arith ∧
    (addSlots p n s).pen = s.pen ∧
    (addSlots p n s).svc = s.svc ∧
    (addSlots p n s).pending = s.pending := by
  simp [addSlots]

@[simp] theorem collect_frame (p : Port) (streamed : Bool) (bytes : List Byte) (s : State) :
    (collect p streamed bytes s).pins = s.pins ∧
    (collect p streamed bytes s).evr = s.evr ∧
    (collect p streamed bytes s).ilr = s.ilr ∧
    (collect p streamed bytes s).pck = s.pck ∧
    (collect p streamed bytes s).ciu = s.ciu ∧
    (collect p streamed bytes s).hsu = s.hsu ∧
    (collect p streamed bytes s).sbk = s.sbk ∧
    (collect p streamed bytes s).dsu = s.dsu ∧
    (collect p streamed bytes s).arith = s.arith ∧
    (collect p streamed bytes s).pen = s.pen ∧
    (collect p streamed bytes s).svc = s.svc ∧
    (collect p streamed bytes s).pending = s.pending := by
  simp [collect]

@[simp] theorem setStream_frame (p : Port) (v : Bool) (s : State) :
    (setStream p v s).pins = s.pins ∧
    (setStream p v s).evr = s.evr ∧
    (setStream p v s).ilr = s.ilr ∧
    (setStream p v s).pck = s.pck ∧
    (setStream p v s).ciu = s.ciu ∧
    (setStream p v s).hsu = s.hsu ∧
    (setStream p v s).sbk = s.sbk ∧
    (setStream p v s).dsu = s.dsu ∧
    (setStream p v s).arith = s.arith ∧
    (setStream p v s).pen = s.pen ∧
    (setStream p v s).svc = s.svc ∧
    (setStream p v s).pending = s.pending := by
  simp [setStream]

@[simp] theorem takeSelectFall_frame (p : Port) (s : State) :
    (takeSelectFall p s).pins = s.pins ∧
    (takeSelectFall p s).evr = s.evr ∧
    (takeSelectFall p s).ilr = s.ilr ∧
    (takeSelectFall p s).pck = s.pck ∧
    (takeSelectFall p s).ciu = s.ciu ∧
    (takeSelectFall p s).hsu = s.hsu ∧
    (takeSelectFall p s).sbk = s.sbk ∧
    (takeSelectFall p s).dsu = s.dsu ∧
    (takeSelectFall p s).arith = s.arith ∧
    (takeSelectFall p s).pen = s.pen ∧
    (takeSelectFall p s).svc = s.svc ∧
    (takeSelectFall p s).pending = s.pending := by
  simp [takeSelectFall]

end Sys2Proof.Machine
end

