-- ==== Sys2Proof/Laws/PerInstr.lean ====
section
/-! SUPPORT. The families stated for each command: the bytes a row stands for have the length of the catalogue. -/

open Sys2Proof Sys2Proof.Machine

/-- A row that stands for a command of the catalogue is written with the parameter length of its code (R180). -/
def Sys2Proof.Laws.WireLength.Statement (i : Instr) : Prop :=
  ∀ p code params, wire i = some (p, code, params) → catalogueLength code.toNat = some params.length

theorem Sys2Proof.Laws.WireLength.readIdentity (p : Port) :
    Sys2Proof.Laws.WireLength.Statement (.readIdentity p) := by
  rintro _ _ _ h; cases h; rfl

theorem Sys2Proof.Laws.WireLength.setCavern (p : Port) (cavern : Byte) (gain : BitVec 24) (floor ceiling rate
    refTemp tol : BitVec 16) :
    Sys2Proof.Laws.WireLength.Statement (.setCavern p cavern gain floor ceiling rate refTemp tol) := by
  rintro _ _ _ h; cases h; rfl

theorem Sys2Proof.Laws.WireLength.setStore (p : Port) (store : Byte) (capacity : BitVec 32) (tBase tSpent tUse
    tol : BitVec 16) (margin : Byte) :
    Sys2Proof.Laws.WireLength.Statement (.setStore p store capacity tBase tSpent tUse tol margin) := by
  rintro _ _ _ h; cases h; rfl

theorem Sys2Proof.Laws.WireLength.setTrain (p : Port) (train : Byte) (rated minLoad ramp band : BitVec 32)
    (maxFlow : BitVec 16) :
    Sys2Proof.Laws.WireLength.Statement (.setTrain p train rated minLoad ramp band maxFlow) := by
  rintro _ _ _ h; cases h; rfl

theorem Sys2Proof.Laws.WireLength.setFigures (p : Port) (yGen yChg qx qc : BitVec 16) (loss : BitVec 32) (dA dB
    : BitVec 16) (genAir genHeat chgRoom chgStore : BitVec 32) :
    Sys2Proof.Laws.WireLength.Statement (.setFigures p yGen yChg qx qc loss dA dB genAir genHeat chgRoom chgStore) := by
  rintro _ _ _ h; cases h; rfl

theorem Sys2Proof.Laws.WireLength.setTiming (p : Port) (stable stale : BitVec 16) (aging : BitVec 32) (lead hold
    : BitVec 16) (deadline settle : Byte) :
    Sys2Proof.Laws.WireLength.Statement (.setTiming p stable stale aging lead hold deadline settle) := by
  rintro _ _ _ h; cases h; rfl

theorem Sys2Proof.Laws.WireLength.setArithMode (p : Port) (mode settings : Byte) :
    Sys2Proof.Laws.WireLength.Statement (.setArithMode p mode settings) := by
  rintro _ _ _ h; cases h; rfl

theorem Sys2Proof.Laws.WireLength.setLockEnable (p : Port) (setting : Byte) :
    Sys2Proof.Laws.WireLength.Statement (.setLockEnable p setting) := by
  rintro _ _ _ h; cases h; rfl

theorem Sys2Proof.Laws.WireLength.loadInventoryCavern (p : Port) (number method : Byte) (amount : BitVec 32)
    (temp : BitVec 16) :
    Sys2Proof.Laws.WireLength.Statement (.loadInventoryCavern p number method amount temp) := by
  rintro _ _ _ h; cases h; rfl

theorem Sys2Proof.Laws.WireLength.loadInventoryStore (p : Port) (number method : Byte) (amount : BitVec 32)
    (temp : BitVec 16) :
    Sys2Proof.Laws.WireLength.Statement (.loadInventoryStore p number method amount temp) := by
  rintro _ _ _ h; cases h; rfl

theorem Sys2Proof.Laws.WireLength.setTime (p : Port) (seconds : BitVec 32) (now : Nat) :
    Sys2Proof.Laws.WireLength.Statement (.setTime p seconds now) := by
  rintro _ _ _ h; cases h; rfl

theorem Sys2Proof.Laws.WireLength.declareReady (p : Port) :
    Sys2Proof.Laws.WireLength.Statement (.declareReady p) := by
  rintro _ _ _ h; cases h; rfl

theorem Sys2Proof.Laws.WireLength.withdraw (p : Port) :
    Sys2Proof.Laws.WireLength.Statement (.withdraw p) := by
  rintro _ _ _ h; cases h; rfl

theorem Sys2Proof.Laws.WireLength.park (p : Port) :
    Sys2Proof.Laws.WireLength.Statement (.park p) := by
  rintro _ _ _ h; cases h; rfl

theorem Sys2Proof.Laws.WireLength.setReserveBand (p : Port) (cavern code side : Byte) :
    Sys2Proof.Laws.WireLength.Statement (.setReserveBand p cavern code side) := by
  rintro _ _ _ h; cases h; rfl

theorem Sys2Proof.Laws.WireLength.requestRun (p : Port) (train cavernPref storePref : Byte) :
    Sys2Proof.Laws.WireLength.Statement (.requestRun p train cavernPref storePref) := by
  rintro _ _ _ h; cases h; rfl

theorem Sys2Proof.Laws.WireLength.release (p : Port) (train : Byte) :
    Sys2Proof.Laws.WireLength.Statement (.release p train) := by
  rintro _ _ _ h; cases h; rfl

theorem Sys2Proof.Laws.WireLength.runReport (p : Port) (train : Byte) (power energy air heat : BitVec 32)
    (outlet : BitVec 16) (validity condition mode : Byte) :
    Sys2Proof.Laws.WireLength.Statement (.runReport p train power energy air heat outlet validity condition mode) := by
  rintro _ _ _ h; cases h; rfl

theorem Sys2Proof.Laws.WireLength.readTrain (p : Port) (train : Byte) :
    Sys2Proof.Laws.WireLength.Statement (.readTrain p train) := by
  rintro _ _ _ h; cases h; rfl

theorem Sys2Proof.Laws.WireLength.clearTrip (p : Port) (train : Byte) :
    Sys2Proof.Laws.WireLength.Statement (.clearTrip p train) := by
  rintro _ _ _ h; cases h; rfl

theorem Sys2Proof.Laws.WireLength.clearDerate (p : Port) (train : Byte) :
    Sys2Proof.Laws.WireLength.Statement (.clearDerate p train) := by
  rintro _ _ _ h; cases h; rfl

theorem Sys2Proof.Laws.WireLength.discardTop (p : Port) (store : Byte) :
    Sys2Proof.Laws.WireLength.Statement (.discardTop p store) := by
  rintro _ _ _ h; cases h; rfl

theorem Sys2Proof.Laws.WireLength.offer (p : Port) (interval power up down ref : BitVec 32) :
    Sys2Proof.Laws.WireLength.Statement (.offer p interval power up down ref) := by
  rintro _ _ _ h; cases h; rfl

theorem Sys2Proof.Laws.WireLength.confirm (p : Port) (interval : BitVec 32) (seq : Byte) (value : BitVec 32) :
    Sys2Proof.Laws.WireLength.Statement (.confirm p interval seq value) := by
  rintro _ _ _ h; cases h; rfl

theorem Sys2Proof.Laws.WireLength.withdrawOffer (p : Port) (interval : BitVec 32) (seq : Byte) :
    Sys2Proof.Laws.WireLength.Statement (.withdrawOffer p interval seq) := by
  rintro _ _ _ h; cases h; rfl

theorem Sys2Proof.Laws.WireLength.voidSlot (p : Port) (interval : BitVec 32) (seq : Byte) :
    Sys2Proof.Laws.WireLength.Statement (.voidSlot p interval seq) := by
  rintro _ _ _ h; cases h; rfl

theorem Sys2Proof.Laws.WireLength.activateReserve (p : Port) (interval : BitVec 32) (seq : Byte) (amount :
    BitVec 32) :
    Sys2Proof.Laws.WireLength.Statement (.activateReserve p interval seq amount) := by
  rintro _ _ _ h; cases h; rfl

theorem Sys2Proof.Laws.WireLength.readSlots (p : Port) (first : BitVec 32) (count skip : Byte) :
    Sys2Proof.Laws.WireLength.Statement (.readSlots p first count skip) := by
  rintro _ _ _ h; cases h; rfl

theorem Sys2Proof.Laws.WireLength.scanSlots (p : Port) (first last : BitVec 32) (figure comparison : Byte)
    (value : BitVec 32) (stride : Byte) :
    Sys2Proof.Laws.WireLength.Statement (.scanSlots p first last figure comparison value stride) := by
  rintro _ _ _ h; cases h; rfl

theorem Sys2Proof.Laws.WireLength.fetchSettlement (p : Port) :
    Sys2Proof.Laws.WireLength.Statement (.fetchSettlement p) := by
  rintro _ _ _ h; cases h; rfl

theorem Sys2Proof.Laws.WireLength.readCavern (p : Port) (cavern : Byte) :
    Sys2Proof.Laws.WireLength.Statement (.readCavern p cavern) := by
  rintro _ _ _ h; cases h; rfl

theorem Sys2Proof.Laws.WireLength.readStore (p : Port) (store : Byte) :
    Sys2Proof.Laws.WireLength.Statement (.readStore p store) := by
  rintro _ _ _ h; cases h; rfl

theorem Sys2Proof.Laws.WireLength.readPosition (p : Port) :
    Sys2Proof.Laws.WireLength.Statement (.readPosition p) := by
  rintro _ _ _ h; cases h; rfl

theorem Sys2Proof.Laws.WireLength.readArith (p : Port) :
    Sys2Proof.Laws.WireLength.Statement (.readArith p) := by
  rintro _ _ _ h; cases h; rfl

theorem Sys2Proof.Laws.WireLength.clearArith (p : Port) :
    Sys2Proof.Laws.WireLength.Statement (.clearArith p) := by
  rintro _ _ _ h; cases h; rfl

theorem Sys2Proof.Laws.WireLength.readTime (p : Port) :
    Sys2Proof.Laws.WireLength.Statement (.readTime p) := by
  rintro _ _ _ h; cases h; rfl

theorem Sys2Proof.Laws.WireLength.fetchEvent (p : Port) :
    Sys2Proof.Laws.WireLength.Statement (.fetchEvent p) := by
  rintro _ _ _ h; cases h; rfl

theorem Sys2Proof.Laws.WireLength.setEventMask (p : Port) (setting : Byte) :
    Sys2Proof.Laws.WireLength.Statement (.setEventMask p setting) := by
  rintro _ _ _ h; cases h; rfl

theorem Sys2Proof.Laws.WireLength.portReset (p : Port) :
    Sys2Proof.Laws.WireLength.Statement (.portReset p) := by
  rintro _ _ _ h; cases h; rfl

theorem Sys2Proof.Laws.WireLength.unknownCommandCode (p : Port) (code : Byte) :
    Sys2Proof.Laws.WireLength.Statement (.unknownCommandCode p code) := by
  rintro _ _ _ h; cases h

theorem Sys2Proof.Laws.WireLength.streamedReport (p : Port) (train : Byte) (power energy air heat : BitVec 32)
    (outlet : BitVec 16) (validity condition mode : Byte) :
    Sys2Proof.Laws.WireLength.Statement (.streamedReport p train power energy air heat outlet validity condition mode) := by
  rintro _ _ _ h; cases h

theorem Sys2Proof.Laws.WireLength.escapeByte (p : Port) :
    Sys2Proof.Laws.WireLength.Statement (.escapeByte p) := by
  rintro _ _ _ h; cases h

theorem Sys2Proof.Laws.WireLength.frameEnd (p : Port) (slots : List Byte) :
    Sys2Proof.Laws.WireLength.Statement (.frameEnd p slots) := by
  rintro _ _ _ h; cases h

theorem Sys2Proof.Laws.WireLength.presentFall (p : Port) :
    Sys2Proof.Laws.WireLength.Statement (.presentFall p) := by
  rintro _ _ _ h; cases h

theorem Sys2Proof.Laws.WireLength.presentRise (p : Port) :
    Sys2Proof.Laws.WireLength.Statement (.presentRise p) := by
  rintro _ _ _ h; cases h

theorem Sys2Proof.Laws.WireLength.resetFall :
    Sys2Proof.Laws.WireLength.Statement (.resetFall) := by
  rintro _ _ _ h; cases h

theorem Sys2Proof.Laws.WireLength.resetRise (now : Nat) :
    Sys2Proof.Laws.WireLength.Statement (.resetRise now) := by
  rintro _ _ _ h; cases h

theorem Sys2Proof.Laws.WireLength.pinChange (code : BitVec 3) (rsvtb : Bool) :
    Sys2Proof.Laws.WireLength.Statement (.pinChange code rsvtb) := by
  rintro _ _ _ h; cases h

theorem Sys2Proof.Laws.WireLength.tpulseEdge (now : Nat) :
    Sys2Proof.Laws.WireLength.Statement (.tpulseEdge now) := by
  rintro _ _ _ h; cases h

theorem Sys2Proof.Laws.WireLength.holdoverEntry (now : Nat) :
    Sys2Proof.Laws.WireLength.Statement (.holdoverEntry now) := by
  rintro _ _ _ h; cases h

theorem Sys2Proof.Laws.WireLength.holdoverAdvance (now : Nat) :
    Sys2Proof.Laws.WireLength.Statement (.holdoverAdvance now) := by
  rintro _ _ _ h; cases h

theorem Sys2Proof.Laws.WireLength.stagingLeadEvent :
    Sys2Proof.Laws.WireLength.Statement (.stagingLeadEvent) := by
  rintro _ _ _ h; cases h

theorem Sys2Proof.Laws.WireLength.boundary :
    Sys2Proof.Laws.WireLength.Statement (.boundary) := by
  rintro _ _ _ h; cases h

theorem Sys2Proof.Laws.WireLength.instrumentFrame (chars : List Byte) :
    Sys2Proof.Laws.WireLength.Statement (.instrumentFrame chars) := by
  rintro _ _ _ h; cases h

theorem Sys2Proof.Laws.WireLength.lineIdleGap :
    Sys2Proof.Laws.WireLength.Statement (.lineIdleGap) := by
  rintro _ _ _ h; cases h

theorem Sys2Proof.Laws.WireLength.sourceStale (src : Source) :
    Sys2Proof.Laws.WireLength.Statement (.sourceStale src) := by
  rintro _ _ _ h; cases h

theorem Sys2Proof.Laws.WireLength.agingPass :
    Sys2Proof.Laws.WireLength.Statement (.agingPass) := by
  rintro _ _ _ h; cases h

theorem Sys2Proof.Laws.WireLength.offerExpiry (interval : Nat) :
    Sys2Proof.Laws.WireLength.Statement (.offerExpiry interval) := by
  rintro _ _ _ h; cases h

theorem Sys2Proof.Laws.WireLength.lateRung (train : Train) :
    Sys2Proof.Laws.WireLength.Statement (.lateRung train) := by
  rintro _ _ _ h; cases h

theorem Sys2Proof.Laws.WireLength.overdueRung (train : Train) :
    Sys2Proof.Laws.WireLength.Statement (.overdueRung train) := by
  rintro _ _ _ h; cases h

theorem Sys2Proof.Laws.WireLength.lostRung (train : Train) :
    Sys2Proof.Laws.WireLength.Statement (.lostRung train) := by
  rintro _ _ _ h; cases h

theorem Sys2Proof.Laws.WireLength.walkStart :
    Sys2Proof.Laws.WireLength.Statement (.walkStart) := by
  rintro _ _ _ h; cases h

theorem Sys2Proof.Laws.WireLength.offerWalkCompletion :
    Sys2Proof.Laws.WireLength.Statement (.offerWalkCompletion) := by
  rintro _ _ _ h; cases h

theorem Sys2Proof.Laws.WireLength.confirmWalkCompletion :
    Sys2Proof.Laws.WireLength.Statement (.confirmWalkCompletion) := by
  rintro _ _ _ h; cases h

theorem Sys2Proof.Laws.WireLength.recheckWalkCompletion :
    Sys2Proof.Laws.WireLength.Statement (.recheckWalkCompletion) := by
  rintro _ _ _ h; cases h

theorem Sys2Proof.Laws.WireLength.envlockChange (high : Bool) :
    Sys2Proof.Laws.WireLength.Statement (.envlockChange high) := by
  rintro _ _ _ h; cases h

theorem Sys2Proof.Laws.WireLength.selectFall (p : Port) :
    Sys2Proof.Laws.WireLength.Statement (.selectFall p) := by
  rintro _ _ _ h; cases h

theorem Sys2Proof.Laws.WireLength.framingError :
    Sys2Proof.Laws.WireLength.Statement (.framingError) := by
  rintro _ _ _ h; cases h
end

