-- ==== Sys2Proof/Laws/Ports.lean ====
section
/-! SUPPORT. What the taking of a command does at a port, and what a hand-over does to a queue: the lemmas that a
statement about a command starts from. -/

namespace Sys2Proof.Machine

/-! ## Taking a command at a ready port (R175, R176) -/

/-- A ready port takes a whole command. -/
theorem command_ready {p : Port} {s : State} (h : Ready p s) (code : Byte) (params : List Byte)
    (take : State → Taken) :
    command p code params take s = takeAt p code.toNat take (addSlots p (1 + params.length) s) := by
  simp [command, live, h.1, h.2]

/-- A streaming port takes a whole streamed report of a train it owns. -/
theorem streamedCommand_streaming {p : Port} {s : State} (h : Streaming p s) (train : Byte) (x : ReportFields)
    (ho : p.owns train.toNat = true) :
    streamedCommand p train x s =
      placeTaken p Answer.oneByte (takeStreamed p train x (uncollect p (addSlots p 22 s))) := by
  simp [streamedCommand, live, h.1, h.2, ho]

/-- A command that the catalogue admits goes to its owning block. -/
theorem takeAt_admitted {p : Port} {code : Nat} (h : admits code p = true) (take : State → Taken) (s : State) :
    takeAt p code take s = placeTaken p Answer.full (take (uncollect p s)) := by simp [takeAt, h]

/-- A command that the catalogue does not admit is answered PORT. -/
theorem takeAt_refused {p : Port} {code : Nat} (h : admits code p = false) (take : State → Taken) (s : State) :
    takeAt p code take s = placeNow p (Answer.bare .port).full s := by simp [takeAt, h]

/-- Placing an answer makes it stand at the port, none of its bytes read. -/
theorem placeNow_answers (p : Port) (a : Answer) (s : State) : Answers p a (placeNow p a.full s) := by
  simp [Answers, placeNow]

/-- Placing an answer touches no other port. -/
theorem placeNow_otherPorts (p : Port) (bytes : List Byte) (s : State) : OtherPorts p s (placeNow p bytes s) := by
  intro q hq; simp [placeNow, hq]

/-- The port as an owning block finds it differs from the port before the command only in its frame and its bytes. -/
theorem uncollect_addSlots_presence (p q : Port) (n : Nat) (s : State) :
    (uncollect p (addSlots p n s)).presence q = s.presence q := by
  simp only [uncollect, addSlots, State.modPort_presence, State.modPort_port, if_true]
  split
  · rename_i h; subst h; split <;> rfl
  · rfl

/-! ## What the owning block sees -/

@[simp] theorem uncollect_records (p : Port) (s : State) :
    (∀ c, (uncollect p s).cavern c = s.cavern c) ∧ (∀ st, (uncollect p s).store st = s.store st) ∧
      (∀ t, (uncollect p s).train t = s.train t) ∧ (∀ q, (uncollect p s).events q = s.events q) ∧
      ∀ n, (uncollect p s).slot n = s.slot n := by simp [uncollect]

@[simp] theorem addSlots_records (p : Port) (n : Nat) (s : State) :
    (∀ c, (addSlots p n s).cavern c = s.cavern c) ∧ (∀ st, (addSlots p n s).store st = s.store st) ∧
      (∀ t, (addSlots p n s).train t = s.train t) ∧ (∀ q, (addSlots p n s).events q = s.events q) ∧
      ∀ m, (addSlots p n s).slot m = s.slot m := by simp [addSlots]

@[simp] theorem placeNow_records (p : Port) (bytes : List Byte) (s : State) :
    (∀ c, (placeNow p bytes s).cavern c = s.cavern c) ∧ (∀ st, (placeNow p bytes s).store st = s.store st) ∧
      (∀ t, (placeNow p bytes s).train t = s.train t) ∧ (∀ q, (placeNow p bytes s).events q = s.events q) ∧
      ∀ m, (placeNow p bytes s).slot m = s.slot m := by simp [placeNow]

/-! ## Queues (R167, R168) -/

/-- A queue that is offered a record keeps what it held, its mask and its latches. -/
theorem EventPort.offered_keeps (q : EventPort) (presence : Presence) (r : EventRecord) (p : Port) :
    q.queue <+: (q.offered presence r p).queue ∧ (q.offered presence r p).mask = q.mask ∧
      (q.offered presence r p).latch1 = q.latch1 ∧ (q.offered presence r p).latch2 = q.latch2 := by
  simp only [EventPort.offered, EventPort.take]
  repeat' split
  all_goals simp

/-- A hand-over joins at most one record to each queue and changes no mask. -/
theorem emit_joins (kind : EventKind) (cls : EventClass) (subject : Subject) (w1 w2 : Int) (s : State) :
    EventsOnlyJoin s (emit kind cls subject w1 w2 s) := by
  intro p
  cases p <;> exact ⟨(EventPort.offered_keeps ..).1, (EventPort.offered_keeps ..).2.1⟩

/-- Joining is transitive. -/
theorem EventsOnlyJoin.trans {a b c : State} (h : EventsOnlyJoin a b) (k : EventsOnlyJoin b c) : EventsOnlyJoin a c :=
  fun p => ⟨(h p).1.trans (k p).1, (k p).2.trans (h p).2⟩

/-- A state with the same router is joined to. -/
theorem EventsOnlyJoin.of_eq {a b : State} (h : b.evr = a.evr) : EventsOnlyJoin a b :=
  fun p => by simp [State.events, h]

/-- A capture joins at most its one event. -/
theorem capture_joins (code : ExcCode) (source : ExcSource) (subject : Subject) (slot : Option Nat) (s : State) :
    EventsOnlyJoin s (capture code source subject slot s) := by
  simp only [capture]
  split
  · exact .of_eq rfl
  · exact .trans (.of_eq rfl) (emit_joins _ _ _ _ _ _)

/-- So does what a saturation raises. -/
theorem raise_joins (exc : Option ExcCode) (source : ExcSource) (subject : Subject) (s : State) :
    EventsOnlyJoin s (raise exc source subject s) := by
  simp only [raise]
  split
  · split
    · exact capture_joins _ _ _ _ _
    · exact .of_eq rfl
  · exact .of_eq rfl

/-! ## The generation number and the recheck flag (R94, R95) -/

/-- The generation number advances and nothing else of the engine changes. -/
theorem bumpGeneration_pen (s : State) :
    (bumpGeneration s).pen = { s.pen with generation := s.pen.generation + 1 } := rfl

/-- A recheck request is discarded in CONFIG, and otherwise waits or is started (R94, R112). -/
theorem postRecheck_pen (s : State) :
    (postRecheck s).pen = if s.svc.part = .config then s.pen else s.pen.posted := by
  simp only [postRecheck]; split <;> rfl

/-- The hold monitor writes the two hold states only. -/
theorem evalHold_pen (s : State) :
    (evalHold s).pen = { s.pen with genHold := genReasons s, chgHold := chgReasons s } := by
  simp only [evalHold, emitHold]
  repeat' split
  all_goals simp

end Sys2Proof.Machine
end

