-- ==== Sys2Proof/Tests/Slice0.lean ====
section
/-! SUPPORT. Tests: the refusals of `WellFormed`, the worked cases of the manual, and for each statement with hypotheses
concrete states and operands that meet them. Expected figures come from the manual's worked cases. -/

namespace Sys2Proof.Tests

open Sys2Proof Sys2Proof.Machine

/-! ## Ill-formed terms (WellFormed) -/

theorem test_wf_streamed_foreign : WellFormed (.streamedReport .c 4 0 0 0 0 0 1 1 0) = false := by decide
theorem test_wf_unknown_ambiguous : WellFormed (.unknownCommandCode .c 1) = false := by decide
theorem test_wf_escape_trade : WellFormed (.escapeByte .t) = false := by decide
theorem test_wf_frame_short : WellFormed (.instrumentFrame [1, 2, 3]) = false := by decide
theorem test_wf_plain : WellFormed (.runReport .c 1 0 0 0 0 0 1 1 0) = true := by decide

/-! ## Worked case of chapter 1: cavern CV1, the generation slot, the charge slot -/

theorem test_pressure : pressureEstimate 30000000 63104 3200 = ⟨5510, none⟩ := by decide
theorem test_floor : massAtPressure .up 3500 63104 3200 = ⟨19057284, none⟩ := by decide
theorem test_ceiling : massAtPressure .down 7000 63104 3200 = ⟨38114567, none⟩ := by decide
theorem test_band : bandAmount .guarded 19057283 3 = 1191081 ∧ bandAmount .nearest 19057284 3 = 1191080 := by decide
theorem test_limits : (effectiveLimits 19057284 38114567 1191081 0).effFloor = 20248365 := by decide
theorem test_budget : rateBudget .guarded 400 63104 3200 = ⟨544493, none⟩ := by decide
theorem test_generation_mass : massForPower .up 100000 900 1900 = ⟨131579, none⟩ := by decide
theorem test_generation_heat : heatForMass .up 131579 420 = ⟨55264, none⟩ := by decide
theorem test_heat_constraint : massForHeat .guarded 50000 420 = ⟨119047, none⟩ ∧
    powerFromMass .guarded 119047 1900 = 90475 := by decide
theorem test_air_constraint_held : powerFromMass .guarded 9751635 1900 = 2000000 := by decide
theorem test_charge_store_room : heatForMass .up 76924 380 = ⟨29232, none⟩ := by decide

/-! ## Worked sequences of chapters 3, 5, 6 and 7 -/

/-- HS-A of the worked draw. -/
def coldStack : List Parcel :=
  [⟨4736, some 7431, false, none, 0⟩, ⟨30000, some 6931, false, none, 0⟩, ⟨50000, some 5931, false, none, 0⟩,
    ⟨400000, some 8231, false, none, 0⟩]

theorem test_short_draw : drawStack 6431 42000 coldStack = ⟨coldStack.drop 2, 34736, 7264, false⟩ := by decide
theorem test_reachable : reachableRun 6431 coldStack = (34736, false) := by decide
theorem test_walk_minimum : (heatPower { readBase State.reset with mode := .guarded } 122630 420 1900).val = 221901 := by
  decide
/-- X1 and X2 of the worked splits. -/
def pair : List Share := [⟨.x1, 150000, 40000⟩, ⟨.x2, 120000, 30000⟩]
theorem test_split_even : (plan 100000 pair).targets.map Prod.snd = [55556, 44444] := by decide
theorem test_split_stand_by : (plan 60000 pair).targets.map Prod.snd = [60000] := by decide
theorem test_split_short : plan 30000 pair = ⟨[], .short⟩ ∧
    (plan 300000 pair).targets.map Prod.snd = [150000, 120000] := by decide
theorem test_clamps : powerLimit 120000 = ⟨150000, none⟩ ∧ airLimit 300 10 = ⟨3750, none⟩ ∧
    energyLimit 120000 10 = ⟨416667, none⟩ ∧ heatLimit 3750 380 = ⟨1782, none⟩ := by decide

/-! ## Worked sequence of chapter 8: source 1 -/

/-- Source 1 as the sequence starts: 5,510, GOOD, sequence 17, age 4, on an armed line. -/
def probe : State :=
  { State.reset with ilr := { State.reset.ilr with s1 := ⟨some 5510, .good, some 17, 4, false⟩, line := .collecting [] } }

/-- The record of source 1 after a command. -/
def source1After (c : Instr) (s : State) : Option SourceRec :=
  match exec c s with
  | .next t => some t.ilr.s1
  | _ => none

theorem test_frame_accepted : source1After (.instrumentFrame [1, 0x15, 0x88, 1, 18, 0, 0, 0x4F]) probe
    = some ⟨some 5512, .good, some 18, 0, false⟩ := by decide +kernel
theorem test_frame_out_of_range : source1After (.instrumentFrame [1, 0xA0, 0x28, 1, 19, 0, 0, 0x23]) probe
    = some ⟨some 30000, .fault, some 19, 0, false⟩ := by decide +kernel

/-! ## One byte at a time -/

/-- Every port in a taken frame with a presence. -/
def framed (v : Presence) : PortIface := { PortIface.reset true with presence := v, frame := .taken 0 }
/-- Every port ready. -/
def atPorts (v : Presence) (s : State) : State := { s with spi := ⟨framed v, framed v, framed v⟩ }
/-- The reset state with every port ready and JOINED. -/
def joined : State := atPorts .joined State.reset
/-- The same in SERVICE, every port DECLARED. -/
def service : State := atPorts .declared { State.reset with svc := { State.reset.svc with part := .service } }
/-- The same in PARKED. -/
def parked : State := atPorts .joined { State.reset with svc := { State.reset.svc with part := .parked } }

/-- The result bytes of a port after a command. -/
def resultAfter (p : Port) (c : Instr) (s : State) : Option (List Byte) :=
  match exec c s with
  | .next t => some (t.port p).result
  | _ => none

/-- READ IDENTITY answers DONE, no flags, a body of 8 bytes, part 0x3210 issue 1 (R181, R182, R185). -/
theorem test_read_identity : resultAfter .t (.readIdentity .t) joined
    = some [0, 0, 0, 8, 0x32, 0x10, 1, 3, 1, 2, 0, 0] := by decide
theorem test_unknown : resultAfter .c (.unknownCommandCode .c 0x0F) joined = some [2] := by decide
theorem test_port_column : resultAfter .c (.fetchSettlement .c) joined = some [3, 0, 0, 0] := by decide
theorem test_lock_range : resultAfter .c (.setLockEnable .c 2) joined = some [5, 0, 0, 0] := by decide
theorem test_readTime_bytes : resultAfter .e (.frameEnd .e [0x35]) joined
    = resultAfter .e (.readTime .e) joined := by decide

/-! ## States that meet the hypotheses of the statements -/

/-- A train with the figures of C1 in the worked cases of chapters 6 and 7. -/
def trainFigures : TrainRec :=
  { TrainRec.reset with
    configured := true, rated := 120000, minLoad := 30000, rampLimit := 10000, band := 2000, maxFlow := 300
    cap := 120000 }
/-- C1 attached to CV1 and HS-A under a permit. -/
def attachedC1 (v : Permit) (timing : Timing) (rungs : Nat) : TrainRec :=
  { trainFigures with permit := v, attachment := some ⟨.cv1, .hsA⟩, timing := timing, rungs := rungs, silence := 10 }
/-- A state with a record for C1. -/
def withC1 (r : TrainRec) (s : State) : State := s.modTrain .c1 (fun _ => r)
/-- CV1 of the worked case of chapter 1. -/
def workedCavern : CavernRec :=
  { CavernRec.reset with
    configured := true, gain := 63104, floor := 3500, ceiling := 7000, rate := 400, refTemp := 3000, tol := 50
    mass := 30000000, quality := .tracked, loaded := 30000000, lastTemp := some 3200, estimate := some 5510
    limits := some ⟨19057284, 38114567, 1191081, 0, 20248365, 38114567⟩, budget := some 544493 }
/-- HS-A of the worked cases of chapter 3, with one parcel. -/
def workedStore : StoreRec :=
  { StoreRec.reset with
    configured := true, capacity := 2000000, tBase := 2931, tSpent := 4431, tUse := 6431, tol := 100
    stack := [⟨400000, some 8231, false, none, 0⟩], loadedFlag := true, reachable := 400000, deposited := 400000 }
/-- Both caverns and both stores configured and loaded. -/
def loaded (s : State) : State :=
  { s with ciu := { s.ciu with cv1 := workedCavern, cv2 := workedCavern }
           hsu := { s.hsu with hsA := workedStore, hsB := workedStore } }
/-- The part in SERVICE with a charge slot current and C1 configured. -/
def charging : State :=
  let s := withC1 trainFigures (loaded service)
  { s with dsu := { s.dsu with view := ⟨0, some (-100000), none⟩ } }
/-- The same with no cavern or store to grant. -/
def chargingBare : State :=
  let s := withC1 trainFigures service
  { s with dsu := { s.dsu with view := ⟨0, some (-100000), none⟩ } }
/-- C1 in the permit request queue. -/
def queuedC1 : State :=
  let s := withC1 { trainFigures with permit := .queued, prefs := some ⟨none, none⟩ } (loaded service)
  { s with dsu := { s.dsu with queue := [.c1] } }
/-- An ACTIVE current slot at +30,000 kW. -/
def active : State :=
  service.modSlot 0 (fun x => { x with
    state := .active, power := 30000, band := some ⟨20000, 50000⟩, activity := some ⟨0, 0, 0, 0⟩ })
/-- An OFFERED slot 1 whose offer has expired by plant second 200. -/
def offered : State :=
  let s := service.modSlot 1 (fun x => { x with state := .offered, seq := 1, power := 500, offer := some ⟨500, 120⟩ })
  { s with pck := { s.pck with seconds := 200, expiryMark := some 200 } }
/-- A COMMITTED slot 1. -/
def committed : State := service.modSlot 1 (fun x => { x with state := .committed, seq := 2, power := 500 })
/-- A base with no later slots, as the engine captures it at reset. -/
def bareBase : Base := { readBase State.reset with slots := [] }
/-- A walk in flight. -/
def flying (r : Option Request) (s : State) : State :=
  { s with pen := { s.pen with flight := some ⟨r, bareBase, false⟩ } }
/-- An OFFERED slot 1 at 0 kW whose CONFIRM flies. -/
def confirming : State :=
  flying (some (.confirm 1 1 0))
    (service.modSlot 1 (fun x => { x with state := .offered, seq := 1, offer := some ⟨0, 120⟩ }))
/-- A full ring. -/
def fullRing : State :=
  { service with sbk := { service.sbk with ring := List.replicate 32 (settlementOf (Slot.blank 0 0) 0).1 } }
/-- A record of kind SERVICE STATE. -/
def record : EventRecord := ⟨.serviceState, .notice, .nothing, 0, 2, 1⟩
/-- A queue of a length at the C-port, with its mask set. -/
def queued (n : Nat) : State :=
  { joined with evr := { joined.evr with c := { EventPort.reset with queue := List.replicate n record, mask := true } } }
/-- A port with a result of two bytes, one slot into its frame. -/
def reading : State :=
  joined.modPort .c (fun r => { r with phase := .result, result := [0, 0], frame := .taken 1 })
/-- The RESET pin low. -/
def held : State := { State.reset with pins := { State.reset.pins with resetLow := true } }
/-- A port in stream mode. -/
def streaming : State := (withC1 (attachedC1 .running .onTime 0) (loaded service)).modPort .c (fun r => { r with stream := true })

/-! ## Witnesses: the queue, reset and reads -/

theorem witness_StepRunsFront : (State.reset.withPending [.readTime .c]).pending = [.readTime .c] ∧
    State.reset.pending = [] := ⟨rfl, rfl⟩
theorem witness_ResetPin : State.reset.pins.resetLow = false ∧ held.pins.resetLow = true ∧
    (∀ now, Instr.lineIdleGap ≠ .resetRise now) ∧ exec .lineIdleGap held = .next held :=
  ⟨rfl, rfl, fun _ h => (nomatch h), rfl⟩
theorem witness_ReadsChangeNothing : Ready .c joined ∧ trainOf 5 = some .x2 ∧ storeOf 2 = some .hsB ∧
    settingOf 1 = some true ∧ joined.inWindow 95 = true := ⟨⟨rfl, rfl⟩, by decide⟩
theorem witness_ScanSlots_found : Ready .t offered ∧ scanFigureOf 1 = some .power ∧ comparisonOf 1 = some .equal ∧
    offered.inWindow 0 = true ∧ offered.inWindow 95 = true ∧
    ((scanSlotsFrom offered 0 95 1).find? (fun x => (scanned .power x).any (fun y => Comparison.equal.meets y 500))).isSome
      = true := ⟨⟨rfl, rfl⟩, by decide +kernel⟩
theorem witness_ScanSlots_none : (scanSlotsFrom offered 0 95 1).find?
    (fun x => (scanned .power x).any (fun y => Comparison.equal.meets y 501)) = none := by decide +kernel
theorem witness_ScanSlots_refused : scanFigureOf 5 = none ∧ comparisonOf 0 = none ∧ offered.inWindow 96 = false ∧
    (2000000 : Int) < (2000001 : BitVec 32).toInt ∧ (3 : Byte).toNat ≠ 1 ∧ (3 : Byte).toNat ≠ 2 := by decide
theorem witness_ReadCavern : Ready .e joined ∧ cavernOf 2 = some .cv2 ∧ cavernOf 0 = none := ⟨⟨rfl, rfl⟩, by decide⟩
theorem witness_ReadPosition : Ready .t service ∧ service.svc.figuresSet = false ∧
    service.arith.overflowNotice = false := ⟨⟨rfl, rfl⟩, rfl, rfl⟩
theorem witness_ArithRecord : Ready .c service := ⟨rfl, rfl⟩
theorem witness_FetchEvent : Ready .c (queued 1) ∧ ((queued 1).events .c).queue = [record] ∧
    Ready .c (queued 0) ∧ ((queued 0).events .c).queue = [] := ⟨⟨rfl, rfl⟩, rfl, ⟨rfl, rfl⟩, rfl⟩
theorem witness_EventMask : Ready .c joined ∧ settingOf 0 = some false ∧ settingOf 2 = none := ⟨⟨rfl, rfl⟩, by decide⟩
theorem witness_PortReset_result :
    let s := reading.modPort .c (fun r => { r with frame := .taken 0 })
    s.pins.resetLow = false ∧ (s.port .c).phase = .result ∧ (s.port .c).frame = .taken 0 := ⟨rfl, rfl, rfl⟩
theorem witness_FetchSettlement : Ready .t service ∧ service.sbk.ring = [] ∧ Ready .t fullRing ∧
    fullRing.sbk.ring.length = 32 := ⟨⟨rfl, rfl⟩, rfl, ⟨rfl, rfl⟩, rfl⟩
theorem witness_PortColumn : Ready .c service ∧ Port.c ≠ .t ∧ Ready .t service := ⟨⟨rfl, rfl⟩, by decide, ⟨rfl, rfl⟩⟩

/-! ## Witnesses: configuration -/

theorem witness_SetTiming_bottom : Ready .c joined ∧ settingOf 1 = some true ∧ settingOf 2 = none ∧
    timesFit ⟨60, 5, 0, 10, 30, 2, 4⟩ = true ∧ timesFit ⟨3600, 300, 86400, 300, 900, 60, 255⟩ = true :=
  ⟨⟨rfl, rfl⟩, by decide⟩
theorem witness_SetTiming_refused : timesFit ⟨59, 5, 0, 10, 30, 2, 4⟩ = false ∧
    timesFit ⟨60, 5, 59, 10, 30, 2, 4⟩ = false := by decide
theorem witness_SetFigures : Ready .t service ∧ figuresFit ⟨1900, 2600, 420, 380, 500, 0, 0, 0, 0⟩ = true ∧
    figuresFit ⟨99, 2600, 420, 380, 500, 0, 0, 0, 0⟩ = false := ⟨⟨rfl, rfl⟩, by decide⟩
theorem witness_SetTrain : Ready .c joined ∧ trainOf 1 = some .c1 ∧ trainOf 0 = none ∧ Train.c1.owner = .c ∧
    trainFieldsFit 1000 0 1 1 1 = true ∧ trainFieldsFit 999 0 1 1 1 = false ∧ (joined.train .c1).permit = .off :=
  ⟨⟨rfl, rfl⟩, by decide⟩
theorem witness_SetTrain_refused : Train.x1.owner ≠ .c ∧ Ready .c queuedC1 ∧ (queuedC1.train .c1).permit ≠ .off ∧
    (queuedC1.train .c1).permit ≠ .tripped := ⟨by decide, ⟨rfl, rfl⟩, by decide⟩
theorem witness_SetCavern : Ready .t (loaded service) ∧ (loaded service).lockEffective = false ∧
    cavernOf 1 = some .cv1 ∧ cavernFieldsFit 63104 3500 7000 400 3000 50 = true ∧
    ((loaded service).cavern .cv1).lastTemp = some 3200 := ⟨⟨rfl, rfl⟩, by decide⟩
theorem witness_EnvelopeLock :
    let s := { service with pins := { service.pins with envlock := true }, ciu := { service.ciu with lockEnable := true } }
    Ready .c s ∧ s.pins.envlock = true ∧ s.ciu.lockEnable = true := ⟨⟨rfl, rfl⟩, rfl, rfl⟩
theorem witness_SetReserveBand : Ready .t (loaded service) ∧ (loaded service).lockEffective = false ∧
    bandCodeOf 7 = some 7 ∧ sideOf 2 = some .top ∧ (loaded service).svc.part ≠ .config ∧
    ((loaded service).cavern .cv1).swCode ≠ 7 := ⟨⟨rfl, rfl⟩, by decide⟩
theorem witness_Loads : Ready .t (loaded joined) ∧ (loaded joined).svc.part ≠ .service ∧
    (loaded joined).lockEffective = false ∧ ((loaded joined).cavern .cv1).configured = true ∧
    ((loaded joined).cavern .cv1).attached = [] ∧ (100000000 : BitVec 32).toNat ≤ 100000000 ∧
    ((loaded joined).store .hsA).configured = true ∧ ((loaded joined).store .hsA).flow = .idle ∧
    ((loaded joined).store .hsA).tBase ≤ (9000 : BitVec 16).toNat := ⟨⟨rfl, rfl⟩, by decide⟩
theorem witness_SetStore_held : Ready .t (loaded service) ∧
    storeFieldsFit ((loaded service).store .hsA).content 400000 2931 4431 6431 100 0 = true ∧
    (2931 : BitVec 16).toNat = ((loaded service).store .hsA).tBase ∧ (loaded service).arith.trap = false :=
  ⟨⟨rfl, rfl⟩, by decide⟩
theorem witness_SetStore_empty : storeFieldsFit (joined.store .hsA).content 1 4000 4001 4002 1 50 = true ∧
    (joined.store .hsA).stack = [] := by decide
theorem witness_SetTime : Ready .t joined ∧ joined.svc.part = .config ∧ Ready .t offered ∧
    offered.svc.part ≠ .config ∧ (202 : BitVec 32).toNat ≤ offered.pck.seconds + 2 ∧
    offered.pck.seconds ≤ (202 : BitVec 32).toNat + 2 ∧ offered.pck.seconds + 2 < (203 : BitVec 32).toNat ∧
    (197 : BitVec 32).toNat + 2 < offered.pck.seconds := ⟨⟨rfl, rfl⟩, by decide, ⟨rfl, rfl⟩, by decide⟩
/-- Two seconds back over a boundary are refused though within 2 s (R74). -/
theorem witness_SetTime_back :
    let s := { service with pck := { service.pck with seconds := 900 } }
    Ready .t s ∧ s.svc.part ≠ .config ∧ (899 : BitVec 32).toNat / 900 < s.pck.seconds / 900 :=
  ⟨⟨rfl, rfl⟩, by decide⟩
theorem witness_SetArithMode : Ready .t service ∧ modeOf 1 = some .guarded ∧ service.svc.part = .service ∧
    Mode.guarded = service.arith.mode ∧ modeOf 2 = some .nearest ∧ Mode.nearest ≠ service.arith.mode ∧
    modeOf 3 = none := ⟨⟨rfl, rfl⟩, by decide⟩
theorem witness_Declare : Ready .c parked ∧ parked.presence .c = .joined ∧ parked.svc.part ≠ .config ∧
    Ready .c joined ∧ joined.presence .c = .joined ∧ joined.svc.part = .config ∧
    (completeFlags joined).all id = false ∧ Ready .c service ∧ service.presence .c = .declared :=
  ⟨⟨rfl, rfl⟩, by decide, by decide, ⟨rfl, rfl⟩, by decide, by decide, by decide, ⟨rfl, rfl⟩, by decide⟩
/-- The third declaration. -/
theorem witness_Declare_last :
    let s := { parked with spi := ⟨framed .joined, framed .declared, framed .declared⟩ }
    Ready .c s ∧ s.presence .c = .joined ∧ ∀ q, q ≠ .c → s.presence q = .declared :=
  ⟨⟨rfl, rfl⟩, rfl, fun q h => by cases q <;> first | contradiction | rfl⟩
theorem witness_WithdrawAndPark : Ready .c service ∧ service.presence .c = .declared ∧ service.svc.part = .service ∧
    Ready .c joined ∧ joined.presence .c ≠ .declared := ⟨⟨rfl, rfl⟩, rfl, rfl, ⟨rfl, rfl⟩, by decide⟩
/-- The last DECLARED port. -/
theorem witness_Withdraw_last :
    let s := { service with spi := ⟨framed .declared, framed .joined, framed .joined⟩ }
    Ready .c s ∧ s.svc.part = .service ∧ ∀ q, q ≠ .c → s.presence q ≠ .declared :=
  ⟨⟨rfl, rfl⟩, rfl, fun q h => by cases q <;> first | contradiction | decide⟩

/-! ## Witnesses: trains and stores -/

theorem witness_RequestRun_granted : Ready .c charging ∧ trainOf 1 = some .c1 ∧ cavernPref 0 = some none ∧
    storePref 0 = some none ∧ charging.svc.part = .service ∧ charging.presence .c = .declared ∧
    (charging.train .c1).permit = .off ∧ charging.dsu.view.admits .c1 = true ∧ (charging.train .c1).able = true ∧
    chooseResources charging .c1 ⟨none, none⟩ = some ⟨.cv1, .hsA⟩ := ⟨⟨rfl, rfl⟩, by decide⟩
theorem witness_RequestRun_queued : Ready .c chargingBare ∧ (chargingBare.train .c1).permit = .off ∧
    chargingBare.dsu.view.admits .c1 = true ∧ (chargingBare.train .c1).able = true ∧
    chooseResources chargingBare .c1 ⟨none, none⟩ = none := ⟨⟨rfl, rfl⟩, by decide⟩
theorem witness_RequestRun_refused : trainOf 6 = none ∧ cavernPref 3 = none ∧ storePref 3 = none ∧
    Train.x1.owner ≠ .c ∧ Ready .c joined ∧ joined.svc.part ≠ .service ∧ service.dsu.view.admits .c1 = false ∧
    (let s := withC1 { trainFigures with cap := 29999 } charging
     s.dsu.view.admits .c1 = true ∧ (s.train .c1).able = false) := ⟨by decide, by decide, by decide, by decide,
    ⟨rfl, rfl⟩, by decide⟩
theorem witness_Report_refused : (ReportFields.report ⟨0, 0, 1, 0, 0, 1, 1, 0⟩).isSome = true ∧
    (service.train .c1).permit.attached = false := by decide
theorem witness_Release_queued : Ready .c queuedC1 ∧ QueueMatchesPermits queuedC1 ∧
    (queuedC1.train .c1).permit = .queued :=
  ⟨⟨rfl, rfl⟩, ⟨by decide, fun t => by cases t <;> decide⟩, by decide⟩
theorem witness_Release_granted :
    let s := withC1 (attachedC1 .granted .onTime 0) (loaded service)
    Ready .c s ∧ QueueMatchesPermits s ∧ (s.train .c1).permit = .granted :=
  ⟨⟨rfl, rfl⟩, ⟨by decide, fun t => by cases t <;> decide⟩, by decide⟩
theorem witness_RunReport :
    let s := withC1 (attachedC1 .running .onTime 0) (loaded service)
    Ready .c s ∧ QueueMatchesPermits s ∧ (s.train .c1).permit = .running ∧
      (s.train .c1).permit.attached = true ∧ (s.train .c1).attachment = some ⟨.cv1, .hsA⟩ ∧
      (ReportFields.report ⟨152000, 400000, 4000, 2000, 8031, 1, 1, 0⟩).isSome = true :=
  ⟨⟨rfl, rfl⟩, ⟨by decide, fun t => by cases t <;> decide⟩, by decide⟩
theorem witness_RunReport_active :
    let s := withC1 (attachedC1 .running .onTime 0) active
    Ready .c s ∧ s.sbk.slots.length = 96 ∧ (s.slot s.sbk.current).state = .active ∧
      (s.slot s.sbk.current).activity = some ⟨0, 0, 0, 0⟩ := ⟨⟨rfl, rfl⟩, by decide⟩
theorem witness_StreamedReport : Streaming .c streaming ∧ trainOf 1 = some .c1 ∧
    (streaming.train .c1).permit.attached = true ∧ (streaming.train .c1).attachment = some ⟨.cv1, .hsA⟩ :=
  ⟨⟨rfl, rfl⟩, by decide⟩
theorem witness_ClearTripAndDerate :
    let s := withC1 { trainFigures with permit := .tripped, derated := true } service
    Ready .c s ∧ trainOf 1 = some .c1 ∧ trainOf 0 = none ∧ Train.x1.owner ≠ .c ∧ (s.train .c1).permit = .tripped ∧
      (s.train .c1).derated = true ∧ (service.train .c1).permit ≠ .tripped ∧ (service.train .c1).derated = false :=
  ⟨⟨rfl, rfl⟩, by decide⟩
theorem witness_DiscardTop : Ready .e (loaded service) ∧ Port.e ≠ .t ∧ storeOf 1 = some .hsA ∧ storeOf 3 = none ∧
    ((loaded service).store .hsA).configured = true ∧ ((loaded service).store .hsA).flow = .idle ∧
    ((loaded service).store .hsA).stack = [⟨400000, some 8231, false, none, 0⟩] ∧ Ready .e service ∧
    (service.store .hsA).configured = false :=
  ⟨⟨rfl, rfl⟩, by decide, by decide, by decide, by decide, by decide, by decide, ⟨rfl, rfl⟩, by decide⟩

/-! ## Witnesses: trading and the engine -/

/-- SERVICE with no direction held. -/
def free : State :=
  { service with pen := { service.pen with
    genHold := { service.pen.genHold with port := false }, chgHold := { service.pen.chgHold with port := false } } }
theorem witness_Offer_waits : Ready .t free ∧ free.svc.part = .service ∧ free.presence .t = .declared ∧
    free.inWindow 95 = true ∧ free.sbk.current < 95 ∧ (free.slot 95).state = .empty ∧
    (2000000 : BitVec 32).toInt ≤ 2000000 ∧ heldFor free 2000000 1000000 1000000 = false := ⟨⟨rfl, rfl⟩, by decide⟩
theorem witness_Confirm_waits :
    let s := { offered with pen := free.pen }
    Ready .t s ∧ identify 1 1 s = .fits ∧ (s.slot 1).state = .offered ∧
      (s.slot 1).offer.map Offered.held = some (500 : BitVec 32).toInt ∧
      heldFor s (s.slot 1).power (s.slot 1).up (s.slot 1).down = false := ⟨⟨rfl, rfl⟩, by decide⟩
/-- The window ends at k + 95: 95 is in it and 96 is not (04, 4.3). -/
theorem witness_SlotIdentity : Ready .t service ∧ service.sbk.current + 96 ≤ (96 : BitVec 32).toNat ∧
    (95 : BitVec 32).toNat < service.sbk.current + 96 ∧ (service.slot 95).seq ≠ 1 := ⟨⟨rfl, rfl⟩, by decide⟩
/-- An interval below the window. -/
theorem witness_SlotIdentity_below :
    let s := { service with sbk := rebuildWindow 100 service.sbk }
    Ready .t s ∧ (99 : BitVec 32).toNat < s.sbk.current := ⟨⟨rfl, rfl⟩, by decide⟩
theorem witness_WithdrawAndVoid : Ready .t offered ∧ offered.sbk.slots.length = 96 ∧ identify 1 1 offered = .fits ∧
    (offered.slot 1).state = .offered ∧ Ready .t committed ∧ identify 1 2 committed = .fits ∧
    (committed.slot 1).state = .committed ∧ (committed.slot 1).state ≠ .offered :=
  ⟨⟨rfl, rfl⟩, by decide, by decide, by decide, ⟨rfl, rfl⟩, by decide⟩
theorem witness_ActivateReserve : Ready .t active ∧ active.sbk.slots.length = 96 ∧ identify 0 0 active = .fits ∧
    (0 : BitVec 32).toNat = active.sbk.current ∧ (active.slot 0).state = .active ∧
    (active.slot 0).activity = some ⟨0, 0, 0, 0⟩ := ⟨⟨rfl, rfl⟩, by decide⟩
theorem witness_WalkStart_recheck :
    let s := { service with pen := { service.pen with recheckFlag := true } }
    s.pins.resetLow = false ∧ s.pen.flight = none ∧ undefinedAt s = none ∧ s.pen.recheckFlag = true := by decide
theorem witness_WalkStart_offer :
    let s := { service with pen := { service.pen with waiting := some (.offer 1 500 0 0 0) } }
    s.pen.flight = none ∧ undefinedAt s = none ∧ s.pen.recheckFlag = false ∧ s.sbk.current < 1 := by decide
theorem witness_OfferCompletes :
    let s := flying (some (.offer 1 0 0 0 7)) service
    s.pins.resetLow = false ∧ s.sbk.slots.length = 96 ∧ bareBase.generation = s.pen.generation ∧
      (requestAbility (.offer 1 0 0 0 7) bareBase).1.carried = true := by decide +kernel
theorem witness_OfferCompletes_noAbility :
    let a := (requestAbility (.offer 1 500 0 0 7) { bareBase with figures := ⟨1900, 2600, 420, 380, 0, 0, 0, 0, 0⟩ }).1
    a.carried = true ∧ a.amount = 0 := by decide +kernel
theorem witness_ConfirmCompletes : confirming.pins.resetLow = false ∧ confirming.sbk.slots.length = 96 ∧
    bareBase.generation = confirming.pen.generation ∧ confirmStands 1 1 confirming = true ∧
    (requestAbility (.confirm 1 1 0) bareBase).1.carried = true := by decide +kernel
/-- A base of 100,000 kg and heat to match, for a CONFIRM that falls short. -/
theorem witness_ConfirmCompletes_shortfall :
    let b := { readBase State.reset with
      air := 100000, heat := 100000, rate := 100000, expansion := 150000
      figures := ⟨1900, 2600, 420, 380, 0, 0, 0, 0, 0⟩ }
    let a := (requestAbility (.confirm 1 1 100000) b).1
    a.carried = true ∧ a.pMax < 100000 ∧ 0 < a.pMax ∧
      (requestAbility (.confirm 1 1 100000) { b with air := 0 }).1.pMax = 0 := by decide +kernel
theorem witness_Recheck : (flying none service).pins.resetLow = false ∧
    (flying none service).pen.flight = some ⟨none, bareBase, false⟩ := ⟨rfl, rfl⟩

/-! ## Witnesses: pins, clock and line -/

theorem witness_Frames : State.reset.pins.resetLow = false ∧ joined.presence .c ≠ .absent ∧
    State.reset.presence .c = .absent ∧ (reading.port .c).frame = .taken 1 ∧ (reading.port .c).phase = .result ∧
    (reading.port .c).deferred = false ∧ (reading.port .c).read + 1 < (reading.port .c).result.length ∧
    catalogueLength 0x0F = none ∧ Port.owns .c 4 = false := by decide
theorem witness_Frames_ready : Ready .c joined ∧ Streaming .c streaming := ⟨⟨rfl, rfl⟩, ⟨rfl, rfl⟩⟩
/-- All PRESENT pins high. -/
def present : State := { service with pins := { service.pins with presentC := true, presentE := true, presentT := true } }
theorem witness_PresencePins : present.pins.resetLow = false ∧ QueueMatchesPermits present ∧
    present.pins.present .t = true ∧ QueueMatchesPermits service ∧ service.pins.present .t = false :=
  ⟨rfl, ⟨by decide, fun t => by cases t <;> decide⟩, rfl, ⟨by decide, fun t => by cases t <;> decide⟩, rfl⟩
theorem witness_BandPins : (loaded service).pins.resetLow = false ∧ (loaded service).svc.part ≠ .config ∧
    (loaded service).ciu.hwCode ≠ 5 ∧ (loaded service).ciu.hwCode = 0 ∧ (loaded service).ciu.hwSide = .top := by decide
/-- The edge exactly half a second after the last advance counts, and one tick sooner does not (R72). -/
theorem witness_Edges : service.pins.resetLow = false ∧ service.pck.seconds < 4294967295 ∧
    service.pck.lastAdvance + 12500000 ≤ max service.pck.moment 12500000 ∧
    max service.pck.moment 12499999 < service.pck.lastAdvance + 12500000 ∧ service.pck.holdover = false ∧
    service.pck.lastAdvance + 37500000 ≤ max service.pck.moment 37500000 := by decide
theorem witness_Holdover :
    let s := { service with pck := { service.pck with holdover := true } }
    s.pck.holdover = true ∧ s.pck.lastAdvance + 25000000 ≤ max s.pck.moment 25000000 ∧
      s.pck.holdCount < 4294967295 := by decide
theorem witness_Staging :
    let s := { service with pck := { service.pck with stagingDue := some 0, boundaryDue := true } }
    s.pins.resetLow = false ∧ s.pck.stagingDue = some 0 ∧ s.pck.boundaryDue = true ∧ s.svc.part ≠ .config ∧
      s.sbk.slots.length = 96 := by decide
theorem witness_Aging :
    let s := { service with hsu := { service.hsu with agingDue := true } }
    s.pins.resetLow = false ∧ s.hsu.agingDue = true ∧ s.svc.part ≠ .config := by decide
theorem witness_Expiry : offered.sbk.slots.length = 96 ∧ offered.inWindow 1 = true ∧
    (offered.slot 1).state = .offered ∧ (offered.slot 1).offer = some ⟨500, 120⟩ ∧
    offered.pck.expiryMark = some 200 ∧ 120 ≤ 200 := by decide
theorem witness_Ladder_late :
    let s := withC1 (attachedC1 .running .onTime 1) service
    s.pins.resetLow = false ∧ (s.train .c1).permit.attached = true ∧ 1 ≤ (s.train .c1).rungs ∧
      (s.train .c1).timing = .onTime := by decide
theorem witness_Ladder_overdue :
    let s := withC1 (attachedC1 .stopping .late 2) service
    (s.train .c1).permit.attached = true ∧ 2 ≤ (s.train .c1).rungs ∧ (s.train .c1).timing = .late := by decide
theorem witness_Ladder_lost :
    let s := withC1 (attachedC1 .stopping .overdue 3) service
    (s.train .c1).permit.attached = true ∧ 3 ≤ (s.train .c1).rungs ∧ (s.train .c1).timing = .overdue ∧
      QueueMatchesPermits s ∧ (s.train .c1).attachment = some ⟨.cv1, .hsA⟩ :=
  ⟨by decide, by decide, by decide, ⟨by decide, fun t => by cases t <;> decide⟩, by decide⟩
theorem witness_InstrumentFrame : probe.pins.resetLow = false ∧ probe.ilr.line = .collecting [] ∧
    (([1, 0x15, 0x88, 1, 18, 0, 0, 0x4F] : List Byte).map BitVec.toNat).sum % 256 = 0 ∧
    sourceOf 1 = some .s1 ∧ (probe.ilr.get .s1).lastSeq ≠ some 18 ∧ sourceOf 7 = none ∧
    (probe.ilr.get .s1).lastSeq = some 17 := by
  refine ⟨rfl, rfl, ?_, rfl, ?_, rfl, rfl⟩ <;> decide
theorem witness_Stale :
    let s := { probe with ilr := { probe.ilr with s1 := { probe.ilr.s1 with staleDue := true } } }
    (s.ilr.get .s1).staleDue = true ∧ (s.ilr.get .s1).validity ≠ .stale := by decide

/-! ## Witnesses: operations and invariants -/

theorem witness_Router : routedTo .joined record .c = true ∧ routedTo .absent record .c = false ∧
    ((queued 15).events .c).queue.length < 16 ∧ 16 ≤ ((queued 16).events .c).queue.length ∧
    ((queued 1).events .c).mask = true := by decide
theorem witness_Rounding : roundDiv .nearest 5 2 = 3 ∧ 0 < 2 := by decide
theorem witness_Split : (∀ x, x ∈ pair → x.min ≤ x.cap) ∧ (plan 100000 pair).ending = .covered := by decide
theorem witness_AirAccount :
    let c := (loaded service).cavern .cv1
    c.mass ≤ 100000000 ∧ (c.mass : Int) = c.loaded + c.filled - c.withdrawn + c.reconciled ∧ 0 ≤ c.filled ∧
      c.filled + 4000 ≤ 9223372036854775807 ∧ 0 ≤ c.withdrawn := by decide
theorem witness_CommandBytes : wire (.setTime .t 5 0) = some (.t, 0x0A, [0, 0, 0, 5]) ∧
    joined.pins.resetLow = false ∧ noLaterThan joined.pck.moment (.setTime .t 5 0) = true := by decide
/-- The reset state has every bound and law that a step keeps, and steps. -/
theorem witness_bounds : QueuesBounded State.reset ∧ RingBounded State.reset ∧ StacksBounded State.reset ∧
    QueueMatchesPermits State.reset ∧ OrdersLawful State.reset ∧ step State.reset = .next State.reset :=
  ⟨fun p => by cases p <;> decide, by simp only [RingBounded]; decide, fun st => by cases st <;> decide,
    ⟨by decide, fun t => by cases t <;> decide⟩, fun t => by cases t <;> decide, rfl⟩
theorem witness_window : BookIndexed State.reset := ⟨rfl, by decide +kernel⟩
theorem witness_OnlyConfirmCommits :
    (match exec .confirmWalkCompletion confirming with
      | .next t => decide ((t.slot 1).state = .committed ∧ (confirming.slot 1).state ≠ .committed)
      | _ => false) = true := by decide +kernel

/-! ## Witnesses: refusals, other methods and other endings -/

/-- READ POSITION with figures set, the notice on, and a power that saturates (R22, R116). -/
theorem witness_ReadPosition_notice :
    let s : State := { loaded service with
      svc := { service.svc with figuresSet := true, figures := ⟨1900, 2600, 1, 380, 500, 0, 0, 0, 0⟩ }
      arith := { service.arith with overflowNotice := true } }
    Ready .t s ∧ s.svc.figuresSet = true ∧ s.arith.overflowNotice = true ∧ (standingGen s).exc.isSome = true :=
  ⟨⟨rfl, rfl⟩, by decide +kernel⟩
theorem witness_Reads_refused : trainOf 6 = none ∧ storeOf 0 = none ∧ settingOf 2 = none ∧
    joined.inWindow 96 = false ∧ (0 : Byte).toNat < 1 ∧ 96 < (97 : Byte).toNat := by decide
theorem witness_SetFigures_parts : joined.svc.part ≠ .service ∧ service.svc.part = .service := by decide
theorem witness_SetCavern_refused : cavernOf 3 = none ∧ cavernFieldsFit 63104 7000 7000 400 3000 50 = false := by decide
/-- The two breach conditions at a SUSPECT pressure at its floor, and a FAULT one (R39). -/
theorem witness_SetCavern_pressure :
    let s (v : Validity) : State := { loaded service with
      ciu := { (loaded service).ciu with cv1 := { workedCavern with pressure := some 3500, pressureV := v } } }
    Ready .t (s .suspect) ∧ (s .suspect).lockEffective = false ∧ ((s .suspect).cavern .cv1).pressure = some 3500 ∧
      ((s .suspect).cavern .cv1).pressureV = .suspect ∧ ((s .fault).cavern .cv1).pressureV ≠ .good ∧
      ((s .fault).cavern .cv1).pressureV ≠ .suspect := ⟨⟨rfl, rfl⟩, by decide⟩
theorem witness_SetReserveBand_refused : bandCodeOf 8 = none ∧ sideOf 0 = none ∧ sideOf 3 = none ∧
    (service.cavern .cv1).configured = false ∧ (service.cavern .cv1).limits = none := by decide
/-- FROM_MEASURED on two GOOD copies. -/
theorem witness_Loads_measured :
    let r : CavernRec := { workedCavern with
      pressure := some 5510, pressureV := .good, temp := some 3200, tempV := .good }
    let s : State := { loaded joined with ciu := { (loaded joined).ciu with cv1 := r } }
    Ready .t s ∧ s.lockEffective = false ∧ s.svc.part ≠ .service ∧ (s.cavern .cv1).configured = true ∧
      (s.cavern .cv1).attached = [] ∧ (s.cavern .cv1).pressureV = .good ∧ (s.cavern .cv1).tempV = .good ∧
      (s.cavern .cv1).pressure = some 5510 ∧ (s.cavern .cv1).temp = some 3200 := ⟨⟨rfl, rfl⟩, by decide⟩
theorem witness_Loads_refused : cavernOf 0 = none ∧ storeOf 3 = none ∧ (loaded service).svc.part = .service ∧
    (joined.cavern .cv1).configured = false ∧ ((loaded joined).cavern .cv1).pressureV ≠ .good ∧
    100000000 < (100000001 : BitVec 32).toNat ∧ (joined.store .hsA).configured = false ∧
    ((loaded joined).store .hsA).capacity < (2000001 : BitVec 32).toNat ∧ 9000 < (9001 : BitVec 16).toNat := by decide
theorem witness_SetStore_refused : storeOf 3 = none ∧
    storeFieldsFit ((loaded service).store .hsA).content 399999 2931 4431 6431 100 0 = false ∧
    ((loaded service).store .hsA).stack ≠ [] ∧ (2930 : BitVec 16).toNat ≠ ((loaded service).store .hsA).tBase := by decide
/-- Settings with bits 4 to 7 set, and a change of mode outside SERVICE. -/
theorem witness_SetArithMode_parked : Ready .t parked ∧ parked.svc.part ≠ .service ∧ parked.svc.part ≠ .config ∧
    modeOf 2 = some .nearest ∧ Mode.nearest ≠ parked.arith.mode ∧ (0xF5 : Byte).getLsbD 2 = true :=
  ⟨⟨rfl, rfl⟩, by decide⟩
/-- At PARK the E-port collects a streamed report: DECLARED it loses it, JOINED it keeps it (R154, R173). -/
theorem witness_Park_streams :
    let s (v : Presence) : State := service.modPort .e (fun r => { r with
      presence := v, stream := true, streamed := true, phase := .command, collected := [4] })
    Ready .c (s .declared) ∧ (s .declared).presence .c = .declared ∧ (s .declared).presence .e = .declared ∧
      Ready .c (s .joined) ∧ (s .joined).presence .e ≠ .declared := ⟨⟨rfl, rfl⟩, rfl, rfl, ⟨rfl, rfl⟩, by decide⟩
theorem witness_Report_range : conditionOf 4 = none ∧ outletMarkOf 3 = none ∧
    (ReportFields.report ⟨0, 0, 0, 0, 0, 1, 4, 0x5C⟩) = none := by decide
theorem witness_Release_refused : trainOf 0 = none ∧ Train.x2.owner ≠ .c ∧ (service.train .c1).permit = .off := by decide
theorem witness_Release_running :
    let s := withC1 (attachedC1 .running .onTime 0) (loaded service)
    Ready .c s ∧ QueueMatchesPermits s ∧ (s.train .c1).permit = .running :=
  ⟨⟨rfl, rfl⟩, ⟨by decide, fun t => by cases t <;> decide⟩, by decide⟩
/-- The cases of a report at the Dispatch Unit: first flow, no flow of a STOPPING train, the settle check at its limit. -/
theorem witness_ReportDispatched :
    let s (v : Permit) (pending : Bool) : State := withC1 { attachedC1 v .onTime 0 with
      settlePending := pending, settleCount := 29, order := ⟨60000, 10000, 1, false⟩ } (loaded service)
    QueueMatchesPermits (s .granted true) ∧ ((s .granted true).train .c1).permit.attached = true ∧
      ((s .stopping false).train .c1).permit = .stopping ∧ ((s .granted true).train .c1).settlePending = true ∧
      (min 60000 50000) + 2000 < max 60000 50000 ∧ ¬((min 60000 58000) + 2000 < max 60000 58000) ∧
      (s .granted true).svc.times.settle ≤ 29 + 1 ∧ ∀ st, ((s .granted true).store st).short = false :=
  ⟨⟨by decide, fun t => by cases t <;> decide⟩, by decide, by decide, by decide, by decide, by decide, by decide,
    fun st => by cases st <;> decide⟩
/-- A draw that meets an UNKNOWN parcel under the trap is abandoned; one that does not takes its heat (R58, R60). -/
theorem witness_StoreDrawn :
    (drawStack 6431 500 [⟨400, some 8231, false, none, 0⟩, ⟨400, none, false, none, 0⟩]).unknown = true ∧
      (drawStack 6431 400 [⟨400, some 8231, false, none, 0⟩, ⟨400, none, false, none, 0⟩]).unknown = false := by decide
/-- A deposit with no free capacity, a cold outlet at T_base, and a stack of 24 without an OPEN parcel (R51 to R53). -/
theorem witness_StoreCharged :
    { workedStore with capacity := 400000 }.free = 0 ∧ (some 2931).any (fun o => o ≤ workedStore.tBase) = true ∧
      { workedStore with stack := List.replicate 24 ⟨10, some 8231, false, none, 0⟩ }.hasOpen = false := by decide
theorem witness_OfferAndConfirm_refused : Ready .t joined ∧ joined.svc.part ≠ .service ∧ Ready .t free ∧
    free.inWindow 96 = false ∧ ¬(free.sbk.current < 0) ∧ 1000000 < (1000001 : BitVec 32).toNat ∧
    (offered.slot 1).state ≠ .empty ∧ heldFor service 500 0 0 = true ∧ (offered.slot 2).state ≠ .offered ∧
    (offered.slot 1).offer.map Offered.held ≠ some (501 : BitVec 32).toInt :=
  ⟨⟨rfl, rfl⟩, by decide, ⟨rfl, rfl⟩, by decide⟩
/-- The engine busy, and free with a recheck flag set. -/
theorem witness_RequestTaken : (flying none free).pen.flight.isSome = true ∧ free.pen.flight = none ∧
    free.pen.recheckFlag = false ∧
    (let s : State := { free with pen := { free.pen with recheckFlag := true } }
     s.pen.flight = none ∧ s.pen.recheckFlag = true) := by decide
theorem witness_ActivateReserve_refused : Ready .t offered ∧ identify 1 1 offered = .fits ∧
    (offered.slot 1).state ≠ .active := ⟨⟨rfl, rfl⟩, by decide⟩
/-- The frames whose bytes shift out: refused, closed, EXECUTING, and the frame in which the result was placed. -/
theorem witness_Frames_out :
    let s := State.reset.modPort .c (fun r => { r with frame := .refused })
    (s.port .c).frame = .refused ∧ (State.reset.port .c).frame = .closed := ⟨rfl, rfl⟩
theorem witness_Frames_deferred :
    let s := reading.modPort .c (fun r => { r with deferred := true })
    let u := joined.modPort .c (fun r => { r with phase := .executing, frame := .taken 1 })
    (s.port .c).frame = .taken 1 ∧ (s.port .c).phase = .result ∧ (s.port .c).deferred = true ∧
      (u.port .c).phase = .executing ∧ shiftedOut .c [1, 2] u = [0, 0] := by decide
theorem witness_Frames_status :
    let s := reading.modPort .c (fun r => { r with frame := .taken 0, status := 0x49, result := [7, 8] })
    (0 : Byte) ≠ 0x3F ∧ (s.port .c).frame = .taken 0 ∧ (s.port .c).deferred = false ∧
      shiftedOut .c [0, 0, 0, 0] s = [0x49, 7, 8, 0] := by decide
theorem witness_BandPins_limits : (loaded service).pins.resetLow = false ∧
    ((loaded service).cavern .cv1).configured = true ∧
    ((loaded service).cavern .cv1).limits = some ⟨19057284, 38114567, 1191081, 0, 20248365, 38114567⟩ ∧
    (loaded service).ciu.hwCode ≠ 3 := by decide
theorem witness_NothingDue : NothingDue State.reset :=
  ⟨rfl, fun src => by cases src <;> rfl, fun tr => by cases tr <;> rfl, rfl, rfl, rfl, rfl, rfl, fun _ h => by cases h⟩
/-- The watch and the second of holdover before their time. -/
theorem witness_Holdover_early : max service.pck.moment 37499999 < service.pck.lastAdvance + 37500000 ∧
    max service.pck.moment 24999999 < service.pck.lastAdvance + 25000000 := by decide
/-- A due boundary over an ACTIVE slot 0 and a slot 1 in a state. -/
def closing (v : SlotState) : State :=
  let s := active.modSlot 1 (fun x => { x with state := v, power := 500, offer := some ⟨500, 120⟩ })
  { s with pck := { s.pck with boundaryDue := true } }
theorem witness_Boundary : (closing .committed).pck.boundaryDue = true ∧ (closing .committed).svc.part ≠ .config ∧
    (closing .committed).sbk.slots.length = 96 ∧ ((closing .committed).slot 0).state = .active ∧
    ((closing .committed).slot 0).activity = some ⟨0, 0, 0, 0⟩ ∧ ((closing .committed).slot 1).state = .committed ∧
    ((closing .offered).slot 1).state = .offered ∧ ((closing .voided).slot 1).state = .voided ∧
    (closing .committed).pen.request = none := by decide
theorem witness_Boundary_indexed : BookIndexed (closing .committed) := ⟨by decide, by decide +kernel⟩
/-- A slot 0 that ends VOIDED, a full ring, and a walk for the interval that becomes current. -/
theorem witness_Boundary_other : ((service.modSlot 0 (fun x => { x with state := .voided })).slot 0).state = .voided ∧
    ¬(fullRing.sbk.ring.length < 32) ∧
    (flying (some (.offer 1 500 0 0 7)) service).pen.request = some (.offer 1 500 0 0 7) ∧
    (Request.offer 1 500 0 0 7).interval = service.sbk.current + 1 := by decide
theorem witness_Aging_store :
    let s : State := { loaded service with hsu := { (loaded service).hsu with agingDue := true } }
    s.pins.resetLow = false ∧ s.hsu.agingDue = true ∧ (s.store .hsA).configured = true ∧ (s.store .hsA).stack ≠ [] ∧
      s.arith.trap = false ∧ (service.store .hsA).configured = false := by decide
/-- A pressure frame that reconciles CV1, a temperature frame that moves its limits, a top frame on HS-A. -/
def measured : State :=
  let s := loaded service
  { s with ciu := { s.ciu with cv1 := { workedCavern with temp := some 3200, tempV := .good, stableTimer := 300 } }
           ilr := { s.ilr with line := .collecting [], s2 := { s.ilr.s2 with validity := .good, age := 30, staleDue := true } } }
theorem witness_PressureTaken : measured.pins.resetLow = false ∧ measured.ilr.line = .collecting [] ∧
    (measured.cavern .cv1).configured = true ∧ (measured.cavern .cv1).quality ≠ .unknown ∧
    (measured.cavern .cv1).flow = .idle ∧ measured.svc.times.stable ≤ (measured.cavern .cv1).stableTimer ∧
    (measured.cavern .cv1).tempV = .good ∧ (measured.cavern .cv1).temp = some 3200 ∧
    (measured.cavern .cv1).estimate = some 5510 ∧ (measured.cavern .cv1).tol = 50 := by decide
theorem witness_TemperatureTaken : (measured.cavern .cv1).lastTemp = some 3200 ∧ temperatureSource .cv1 = .s2 ∧
    (measured.ilr.get .s2).due = true ∧ sourceAfter measured .s5 .s2 = (measured.ilr.get .s2) := by decide
theorem witness_TopTaken : (measured.store .hsA).configured = true ∧ (measured.store .hsA).loadedFlag = true ∧
    (measured.store .hsA).flow = .idle ∧ (measured.store .hsA).stack = [⟨400000, some 8231, false, none, 0⟩] ∧
    (⟨400000, some 8231, false, none, 0⟩ : Parcel).disagrees 100 8131 = false ∧
    (⟨400000, some 8231, false, none, 0⟩ : Parcel).disagrees 100 8130 = true ∧
    (service.store .hsA).eligible = false := by decide
theorem witness_Stale_order :
    let s : State := { measured with ilr := { measured.ilr with
      s1 := { measured.ilr.s1 with validity := .good, age := 31, staleDue := true } } }
    (s.ilr.get .s2).due = true ∧ s.presence .t ≠ .absent ∧ (staleRecords s .s2).length = 2 ∧
      (s.events .t).queue.length + (staleRecords s .s2).length ≤ 16 ∧ (s.ilr.get .s3).due = false := by decide
/-- A started walk whose capture is to come, of an interval ahead and of one overtaken. -/
def started (r : Option Request) (s : State) : State := { s with pen := { s.pen with flight := some ⟨r, none, false⟩ } }
theorem witness_WalkStart_started : (started none service).pen.flight = some ⟨none, none, false⟩ ∧
    undefinedAt (started none service) = none ∧ Request.overtaken 0 (some (.offer 1 500 0 0 7)) = false ∧
    Request.overtaken 0 (some (.offer 0 500 0 0 7)) = true := by decide
theorem witness_WalkStart_undefined :
    let s : State := { service with arith := { service.arith with trap := true } }
    undefinedAt s = some (.cavern .cv1) ∧ undefinedAt { loaded s with arith := s.arith } = none := by decide
/-- A walk whose base is one generation behind: restarted at first, STALE after its restart (R103). -/
theorem witness_Walks_moved :
    let b := { bareBase with generation := 9 }
    let s (re : Bool) : State := { confirming with pen := { confirming.pen with
      flight := some ⟨some (.confirm 1 1 0), some b, re⟩ } }
    (s false).pins.resetLow = false ∧ (s false).sbk.slots.length = 96 ∧
      (b.generation != (s false).pen.generation) = true ∧ confirmStands 1 1 (s true) = true ∧
      confirmStands 1 0 (s true) = false := by decide +kernel
/-- A COMMITTED slot 1 that a recheck examines. -/
theorem witness_Recheck_examined :
    let s := committed
    let b := readBase s
    let xs := (examined b (walk b none)).filter (fun e => s.inWindow e.1.interval &&
      (s.slot e.1.interval).interval == e.1.interval && (s.slot e.1.interval).seq == e.1.seq)
    xs.map (fun e => e.1.interval) = [1] ∧ (b.slots.map Slot.interval).Nodup := by decide +kernel
theorem witness_Routes : EventKind.trainTripped.route = .owner ∧ EventKind.offerLapsed.route = .schedule ∧
    EventKind.serviceState.route = .plantWide ∧
    (⟨.trainTripped, .alert, .train .x1, 0, 0, 0⟩ : EventRecord).subject = .train .x1 := by decide
theorem witness_balanced : AccountsBalanced State.reset ∧ AccountsBalanced (loaded service) ∧
    CountersRoomy (loaded service) ∧ EngineSettled State.reset := by
  refine ⟨⟨fun c => ?_, fun st => ?_⟩, ⟨fun c => ?_, fun st => ?_⟩, ⟨fun c => ?_, fun st => ?_⟩, fun _ _ => ⟨rfl, rfl⟩⟩
  · cases c <;> simp only [CavernBalanced] <;> decide
  · cases st <;> simp only [StoreBalanced] <;> decide
  · cases c <;> simp only [CavernBalanced] <;> decide
  · cases st <;> simp only [StoreBalanced] <;> decide
  · cases c <;> simp only [Roomy] <;> decide
  · cases st <;> simp only [Roomy] <;> decide
/-- A streaming state whose permit queue holds no attached train (O58). -/
theorem witness_StreamedReport_queue : Streaming .c streaming ∧ QueueMatchesPermits streaming ∧
    Train.c1.owner = .c ∧ (streaming.train .c1).permit.attached = true ∧
    (ReportFields.report ⟨60000, 15000, 90, 27000, 8231, 1, 1, 0xC5⟩).isSome = true :=
  ⟨⟨rfl, rfl⟩, ⟨by decide, fun t => by cases t <;> decide⟩, by decide⟩
/-- Nothing due in CONFIG and in SERVICE, with a value 2 s ahead and one 3 s ahead. -/
theorem witness_SetTime_nothing : Ready .t joined ∧ NothingDue joined ∧ Ready .t service ∧ NothingDue service ∧
    (2 : BitVec 32).toNat ≤ service.pck.seconds + 2 ∧ service.pck.seconds + 2 < (3 : BitVec 32).toNat :=
  ⟨⟨rfl, rfl⟩, ⟨rfl, fun src => by cases src <;> rfl, fun tr => by cases tr <;> rfl, rfl, rfl, rfl, rfl, rfl, nofun⟩,
    ⟨rfl, rfl⟩, ⟨rfl, fun src => by cases src <;> rfl, fun tr => by cases tr <;> rfl, rfl, rfl, rfl, rfl, rfl, nofun⟩,
    by decide⟩
/-- A changed mode over a measured cavern; the trap turned off over a cavern without a temperature whose budget is
absent and whose estimate was kept, and over one whose limits were kept; the trap turned off with nothing to redo. -/
theorem witness_SetArithMode_reworked :
    let s (x : CavernRec) : State :=
      { loaded parked with ciu := { (loaded parked).ciu with cv1 := x }, arith := { parked.arith with trap := true } }
    let bare := s { workedCavern with lastTemp := none, budget := none, keptEstimate := true }
    let kept := s { workedCavern with keptLimits := true }
    Ready .t (loaded parked) ∧ ((loaded parked).cavern .cv1).configured = true ∧
      ((loaded parked).cavern .cv1).lastTemp = some 3200 ∧ Mode.nearest ≠ (loaded parked).arith.mode ∧
      bare.arith.trap = true ∧ (bare.cavern .cv1).lastTemp = none ∧ (bare.cavern .cv1).budget = none ∧
      (bare.cavern .cv1).keptEstimate = true ∧ (kept.cavern .cv1).keptLimits = true ∧
      (bare.cavern .cv2).keptLimits = false ∧ (bare.cavern .cv2).limits.isSome = true := ⟨⟨rfl, rfl⟩, by decide⟩
/-- OFFERED slots under a T-port walk, a command from another port, and a port DECLARED outside SERVICE. -/
theorem witness_Park_offers :
    let s := flying (some (.offer 2 500 0 0 7)) offered
    let u : State := { service with svc := { service.svc with part := .config } }
    Ready .c s ∧ s.presence .c = .declared ∧ s.svc.part = .service ∧ s.sbk.slots.length = 96 ∧
      (s.slot 1).state = .offered ∧ (committed.slot 1).state ≠ .offered ∧ s.pen.request.isSome = true ∧
      Ready .c u ∧ u.presence .c = .declared ∧ u.svc.part ≠ .service := ⟨⟨rfl, rfl⟩, by decide, by decide, by decide,
    by decide, by decide, by decide, ⟨rfl, rfl⟩, by decide⟩
/-- The fall of the T-port's PRESENT over an OFFERED slot and a walk. -/
theorem witness_PresencePins_offers :
    let s := flying (some (.offer 2 500 0 0 7)) { offered with pins := present.pins }
    s.pins.resetLow = false ∧ QueueMatchesPermits s ∧ s.pins.present .t = true ∧ s.sbk.slots.length = 96 ∧
      (s.slot 1).state = .offered ∧ s.pen.flight.bind Flight.request = some (.offer 2 500 0 0 7) :=
  ⟨rfl, ⟨by decide, fun t => by cases t <;> decide⟩, by decide⟩
/-- A figure below, between and at twice its threshold (R114). -/
theorem witness_HoldEvaluated : ReasonStands 4 5 false true ∧ ReasonStands 7 5 true true ∧ ReasonStands 7 5 false false ∧
    ReasonStands 10 5 true false := by
  simp only [ReasonStands]; decide
/-- The worked rule of R114: usable air below the GEN threshold, with every port DECLARED, holds GEN for AIR alone. -/
theorem test_hold_air :
    let s := loaded { service with svc := { service.svc with figures := { service.svc.figures with genAir := 60000000 } } }
    (evalHold s).pen.genHold = { HoldReasons.portOnly with air := true, port := false } ∧
      (evalHold s).pen.chgHold.held = false := by decide
/-- One draw leaves FULL and enters SHORT: the departure from FULL is handed on first, so that a QUEUED train is granted
and, where it draws from that store, stopped with it (R70, R124, R130). -/
theorem test_full_before_short :
    let full : StoreRec := { workedStore with capacity := 1000, full := true, drawing := [.x1], margin := 2, tUse := 6431
                                              stack := [⟨900, some 8231, false, none, 0⟩, ⟨100, some 3000, false, none, 0⟩] }
    let after : StoreRec := { full with full := false, short := true, stack := [⟨100, some 8231, false, none, 0⟩] }
    let s : State :=
      let u := { loaded service with hsu := { (loaded service).hsu with hsA := full, hsB := StoreRec.reset } }
      let v := (u.modTrain .x1 (fun _ => attachedC1 .running .onTime 0)).modTrain .x2 (fun _ =>
        { trainFigures with permit := .queued, prefs := some ⟨none, none⟩ })
      { v with dsu := { v.dsu with queue := [.x2], view := ⟨0, some 50000, none⟩ } }
    let t := plantEvent (fun s => { s with hsu := { s.hsu with hsA := after } }) s
    (t.train .x2).permit = .stopping ∧ (t.train .x1).permit = .stopping ∧ (t.store .hsA).drawing = [.x1, .x2] := by decide
/-- A cavern and a store that fit, and the order between two (R121, R122). -/
theorem witness_Resources : CavernFits charging .c1 none .cv1 ∧ CavernFits charging .c1 none .cv2 ∧
    CavernBefore charging .c1 .cv1 .cv2 ∧ StoreFits charging .c1 (some .hsB) .hsB ∧ StoreBefore charging .c1 .hsA .hsB ∧
    ¬CavernFits chargingBare .c1 none .cv1 := by
  refine ⟨?_, ?_, ?_, ?_, ?_, ?_⟩ <;> simp only [CavernFits, StoreFits, CavernBefore, StoreBefore] <;> decide
/-- A streamed report with an unknown condition code, and one of a train without a permit. -/
theorem witness_StreamedReport_refused :
    let s := service.modPort .c (fun r => { r with stream := true })
    Streaming .c s ∧ trainOf 1 = some .c1 ∧ Train.c1.owner = .c ∧ conditionOf 4 = none ∧
      (s.train .c1).permit.attached = false ∧
      (ReportFields.report ⟨0, 0, 1, 0, 0, 1, 1, 0xC5⟩).isSome = true := ⟨⟨rfl, rfl⟩, by decide⟩
/-- The last DECLARED port falls in SERVICE; a JOINED port falls; PRESENT rises outside SERVICE. -/
theorem witness_PresencePins_part :
    let s := { present with spi := ⟨framed .declared, framed .joined, framed .joined⟩ }
    s.pins.resetLow = false ∧ QueueMatchesPermits s ∧ s.pins.present .c = true ∧ s.svc.part = .service ∧
      s.presence .c = .declared ∧ (∀ q, q ≠ .c → s.presence q ≠ .declared) ∧ s.presence .e ≠ .declared ∧
      (∀ tr, (s.train tr).permit ≠ .granted) ∧ parked.pins.present .t = false ∧ parked.svc.part ≠ .service :=
  ⟨rfl, ⟨by decide, fun t => by cases t <;> decide⟩, rfl, rfl, rfl, fun q h => by cases q <;> first | contradiction | decide,
    by decide, fun tr => by cases tr <;> decide, rfl, by decide⟩
/-- What an advance leaves due at the second before a boundary, and at the staging point. -/
theorem test_advance_due :
    let s (n : Nat) : State := { service with pck := { service.pck with seconds := n } }
    (countAdvance (s 899)).pck.boundaryDue = true ∧ (countAdvance (s 899)).pck.stagingDue = some 0 ∧
      (countAdvance (s 839)).pck.stagingDue = some 0 ∧ (countAdvance (s 838)).pck.stagingDue = none ∧
      (countAdvance (s 838)).pck.boundaryDue = false := by decide

end Sys2Proof.Tests
end

section
/-! PROOFS. The rounding laws, the reset values, and the commands of the position arithmetic, with what they rest on:
a command at a ready port, the hand-offs of one event, and the recomputation of a cavern's figures. -/

namespace Sys2Proof.Machine

/-! ## Rounding (R2, R3) -/

theorem roundDiv_up_bounds {d : Nat} (hd : 0 < d) (n : Nat) :
    n ≤ roundDiv .up n d * d ∧ roundDiv .up n d * d < n + d := by
  have hq : d * ((n + (d - 1)) / d) + (n + (d - 1)) % d = n + (d - 1) := Nat.div_add_mod _ _
  have hr : (n + (d - 1)) % d < d := Nat.mod_lt _ hd
  rw [roundDiv, Nat.mul_comm]
  omega

theorem roundDiv_down_bounds {d : Nat} (hd : 0 < d) (n : Nat) :
    roundDiv .down n d * d ≤ n ∧ n < roundDiv .down n d * d + d := by
  have hq : d * (n / d) + n % d = n := Nat.div_add_mod _ _
  have hr : n % d < d := Nat.mod_lt _ hd
  rw [roundDiv, Nat.mul_comm]
  omega

theorem roundDiv_nearest_bounds {d : Nat} (hd : 0 < d) (n : Nat) :
    2 * n < 2 * (roundDiv .nearest n d * d) + d ∧ 2 * (roundDiv .nearest n d * d) ≤ 2 * n + d := by
  have hq : 2 * d * ((2 * n + d) / (2 * d)) + (2 * n + d) % (2 * d) = 2 * n + d := Nat.div_add_mod _ _
  have hr : (2 * n + d) % (2 * d) < 2 * d := Nat.mod_lt _ (by omega)
  rw [roundDiv, Nat.mul_comm _ d]
  rw [Nat.mul_assoc] at hq
  omega

/-- Settles O50: the rounding of each class is read off `roundingOf`, and each quotient's bounds are those of division
with remainder. -/
theorem roundingLaws : Obligations.RoundingLaws :=
  ⟨⟨rfl, rfl, rfl, fun _ => rfl⟩, fun n _ hd =>
    ⟨roundDiv_up_bounds hd n, roundDiv_down_bounds hd n, roundDiv_nearest_bounds hd n⟩⟩

/-! ## The reset values, record by record (R191) -/

section ResetRecords
variable (pins : Pins) (now : Nat) (waiting : List Instr)

theorem afterReset_cavern (c : Cavern) : (State.afterReset pins now waiting).cavern c = .reset := by cases c <;> rfl
theorem afterReset_store (st : Store) : (State.afterReset pins now waiting).store st = .reset := by cases st <;> rfl
theorem afterReset_train (tr : Train) : (State.afterReset pins now waiting).train tr = .reset := by cases tr <;> rfl
theorem afterReset_source (src : Source) : (State.afterReset pins now waiting).ilr.get src = .reset := by
  cases src <;> rfl
theorem afterReset_events (p : Port) : (State.afterReset pins now waiting).events p = .reset := by cases p <;> rfl
theorem afterReset_port (p : Port) : (State.afterReset pins now waiting).port p = .reset (pins.present p) := by
  cases p <;> rfl
theorem afterReset_slot {n : Nat} (h : n < 96) : (State.afterReset pins now waiting).slot n = Slot.blank n 0 := by
  simp [State.slot, State.afterReset, Sbk.reset, Config.slotCount, Nat.mod_eq_of_lt h, h]

end ResetRecords

/-- Settles O2: each record of the reset state is the reset record of its block. -/
theorem resetValues : Obligations.ResetValues := by
  intro pins now waiting
  simp only [afterReset_cavern, afterReset_store, afterReset_train, afterReset_source, afterReset_events,
    afterReset_port, State.presence]
  refine ⟨rfl, rfl, rfl, rfl, rfl, rfl, rfl, rfl, rfl, fun _ => ?cavern, fun _ => ?store,
    fun _ h => afterReset_slot pins now waiting h, rfl, rfl, fun _ => ?train, rfl, fun _ => ?source,
    fun _ => ?port, rfl, rfl, rfl, rfl, rfl, rfl, rfl, rfl, rfl, rfl, fun _ => ?cavernRest, fun _ => ?storeRest, rfl,
    fun _ => ?trainRest, rfl, rfl, rfl, rfl, fun _ => ?latches, rfl, rfl, rfl, rfl, rfl, rfl, rfl⟩
  case cavern => simp [CavernRec.reset]
  case cavernRest => simp [CavernRec.reset]
  case store => simp [StoreRec.reset]
  case storeRest => simp [StoreRec.reset]
  case train => simp [TrainRec.reset]
  case trainRest => simp [TrainRec.reset]
  case source => simp [SourceRec.reset]
  case port => simp [EventPort.reset, PortIface.reset]
  case latches => simp [EventPort.reset]

/-! ## A command at a ready port (R175, R176, R181) -/

/-- A port differs alone, step after step. -/
theorem OnlyPort.trans {p : Port} {a b c : State} (h : OnlyPort p a b) (k : OnlyPort p b c) : OnlyPort p a c :=
  ⟨k.1.trans (by rw [h.1]), fun q hq => (k.2 q hq).trans (h.2 q hq)⟩

theorem modPort_onlyPort (p : Port) (f : PortIface → PortIface) (s : State) : OnlyPort p s (s.modPort p f) :=
  ⟨rfl, fun q hq => by simp [hq]⟩

/-- What the owning block of a command of `n` bytes sees differs from the state before at the port only. -/
theorem uncollect_onlyPort (p : Port) (n : Nat) (s : State) : OnlyPort p s (uncollect p (addSlots p n s)) :=
  (modPort_onlyPort p _ s).trans (modPort_onlyPort p _ _)

/-- At a ready port a command that its block answers at the taking leaves that answer over what the block left. -/
theorem command_answered {p : Port} {s t : State} (h : Ready p s) {code : Byte} {params : List Byte}
    {take : State → Taken} {a : Answer} (hp : admits code.toNat p = true)
    (ht : take (uncollect p (addSlots p (1 + params.length) s)) = (t, some a)) :
    command p code params take s = placeNow p a.full t := by
  rw [command_ready h, takeAt_admitted hp, ht, placeTaken]

/-- A command whose block answers and changes nothing only answers. -/
theorem command_answersOnly {p : Port} {s : State} (h : Ready p s) {code : Byte} {params : List Byte}
    {take : State → Taken} {a : Answer} (hp : admits code.toNat p = true)
    (ht : ∀ u, OnlyPort p s u → take u = (u, some a)) :
    Answers p a (command p code params take s) ∧ OnlyPort p s (command p code params take s) := by
  have hu := uncollect_onlyPort p (1 + params.length) s
  rw [command_answered h hp (ht _ hu)]
  exact ⟨placeNow_answers p a _, hu.trans (modPort_onlyPort p _ _)⟩

/-! ## The arithmetic commands (R24) -/

theorem exec_readArith (p : Port) (s : State) :
    exec (.readArith p) s = .next (command p 0x33 [] takeReadArith s) := rfl
theorem exec_clearArith (p : Port) (s : State) :
    exec (.clearArith p) s = .next (command p 0x34 [] takeClearArith s) := rfl

/-- Settles O8: READ ARITH only answers, with the body of the record as it stands, and CLEAR ARITH answers over a part
in which the record alone is cleared. -/
theorem arithRecord : Obligations.ArithRecord := by
  intro p s h
  refine ⟨⟨_, exec_readArith p s, command_answersOnly h rfl fun u hu => ?_⟩, ?_⟩
  · have harith : u.arith = s.arith := by rw [hu.1]
    rw [takeReadArith, harith, arithBody]
    cases s.arith.capture <;> simp [putBE, putFlag, putOpt]
  · have hu := uncollect_onlyPort p 1 s
    rw [exec_clearArith, command_answered h rfl rfl]
    exact ⟨_, rfl, placeNow_answers p _ _, rfl, rfl, fun q hq => (placeNow_otherPorts p _ _ q hq).trans (hu.2 q hq)⟩

/-! ## What a step may change: reflexivity, transitivity, and hand-overs (R165 to R168) -/

theorem TrainKept.trans {tr : Train} {a b c : State} (h : TrainKept tr a b) (k : TrainKept tr b c) :
    TrainKept tr a c := Eq.trans k (by rw [h])

theorem CavernKept.trans {d : Cavern} {a b c : State} (h : CavernKept d a b) (k : CavernKept d b c) :
    CavernKept d a c := Eq.trans k (by rw [h])

theorem StoreKept.trans {st : Store} {a b c : State} (h : StoreKept st a b) (k : StoreKept st b c) :
    StoreKept st a c := Eq.trans k (by rw [h])

theorem BookKept.trans {a b c : State} (h : BookKept a b) (k : BookKept b c) : BookKept a c :=
  ⟨k.1.trans (by rw [h.1]), fun n => (k.2 n).trans (by rw [h.2 n])⟩

theorem ArithKept.trans {a b c : State} (h : ArithKept a b) (k : ArithKept b c) : ArithKept a c :=
  Eq.trans k (by rw [h])

/-- What the answers of the Dispatch Unit to an event leave as they were: queued records and masks, the book but for
SHORT marks, the trains but for permits and orders, and caverns and stores but for their attached trains (R122 to
R136). -/
structure DispatchKept (s t : State) : Prop where
  joins : EventsOnlyJoin s t
  book : BookKept s t
  trains : ∀ tr, TrainKept tr s t
  caverns : ∀ c, CavernKept c s t
  stores : ∀ st, StoreKept st s t

namespace DispatchKept

theorem refl (s : State) : DispatchKept s s :=
  ⟨.of_eq rfl, ⟨rfl, fun _ => rfl⟩, fun _ => rfl, fun _ => rfl, fun _ => rfl⟩

theorem trans {a b c : State} (h : DispatchKept a b) (k : DispatchKept b c) : DispatchKept a c :=
  ⟨h.joins.trans k.joins, h.book.trans k.book, fun tr => (h.trains tr).trans (k.trains tr),
    fun d => (h.caverns d).trans (k.caverns d), fun st => (h.stores st).trans (k.stores st)⟩

theorem foldl {α : Type} {f : State → α → State} (hf : ∀ s x, DispatchKept s (f s x)) (l : List α) (s : State) :
    DispatchKept s (l.foldl f s) := by
  induction l generalizing s with
  | nil => exact refl s
  | cons x l ih => exact (hf s x).trans (ih (f s x))

/-- States with the same records in every block concerned. -/
theorem of_eq {s t : State} (he : EventsOnlyJoin s t) (hb : t.sbk = s.sbk) (hd : ∀ tr, t.train tr = s.train tr)
    (hc : t.ciu = s.ciu) (hs : t.hsu = s.hsu) : DispatchKept s t where
  joins := he
  book := ⟨by rw [hb], fun n => by simp [State.slot, hb]⟩
  trains tr := by simp [TrainKept, hd tr]
  caverns c := by simp [CavernKept, State.cavern, hc]
  stores st := by simp [StoreKept, State.store, hs]

theorem emit (kind : EventKind) (cls : EventClass) (subject : Subject) (w1 w2 : Int) (s : State) :
    DispatchKept s (emit kind cls subject w1 w2 s) :=
  of_eq (emit_joins _ _ _ _ _ s) (by simp) (by simp [State.train]) (by simp) (by simp)

/-- A changed train that keeps what TrainKept names. -/
theorem modTrain {s : State} {tr : Train} {f : TrainRec → TrainRec} (h : TrainKept tr s (s.modTrain tr f)) :
    DispatchKept s (s.modTrain tr f) where
  joins := .of_eq rfl
  book := ⟨rfl, fun _ => rfl⟩
  trains x := by
    by_cases hx : x = tr
    · exact hx ▸ h
    · simp [TrainKept, hx]
  caverns _ := rfl
  stores _ := rfl

/-- A slot whose SHORT marks alone change. -/
theorem modSlot (s : State) (n : Nat) (f : Slot → Slot)
    (hf : ∀ x, f x = { x with short := (f x).short, shortSeen := (f x).shortSeen }) :
    DispatchKept s (s.modSlot n f) where
  joins := .of_eq rfl
  book := by
    refine ⟨rfl, fun m => ?_⟩
    have hslot : (s.modSlot n f).slot m = s.slot m ∨ (s.modSlot n f).slot m = f (s.slot m) := by
      simp only [State.modSlot, State.slot, List.getD_eq_getElem?_getD, List.getElem?_set]
      by_cases e : n % Config.slotCount = m % Config.slotCount
      · by_cases hn : m % Config.slotCount < s.sbk.slots.length <;> simp [e, hn]
      · simp [e]
    rcases hslot with e | e <;> rw [e]
    exact hf _
  trains _ := rfl
  caverns _ := rfl
  stores _ := rfl

/-! ### The split, the staged split and the queue (R124, R133 to R136) -/

theorem markShort (pl : Plan) (power : Nat) (s : State) : DispatchKept s (markShort pl power s) := by
  simp only [Machine.markShort]
  repeat' split
  · exact modSlot s _ _ fun _ => rfl
  · exact (modSlot s _ _ fun _ => rfl).trans (emit ..)
  · exact (modSlot s _ _ fun _ => rfl).trans (emit ..)
  · exact refl s
  · exact refl s

theorem split (s : State) : DispatchKept s (split s) :=
  (foldl (fun s t => modTrain (by simp [TrainKept])) allTrains s).trans (markShort ..)

theorem commitOrder (before : Dsu) (s : State) (t : Train) : DispatchKept s (commitOrder before s t) := by
  simp only [Machine.commitOrder]
  split
  · exact refl s
  · exact (modTrain (by simp [TrainKept])).trans (emit ..)

theorem stageOrder (pl : Plan) (interval : Nat) (s : State) (t : Train) :
    DispatchKept s (stageOrder pl interval s t) := by
  simp only [Machine.stageOrder]
  repeat' split
  · exact modTrain (by simp [TrainKept])
  · exact ((modTrain (by simp [TrainKept])).trans (modTrain (by simp [TrainKept]))).trans (emit ..)
  · exact modTrain (by simp [TrainKept])

theorem stagedSplit (s : State) : DispatchKept s (stagedSplit s) := by
  simp only [Machine.stagedSplit]
  repeat' split
  · exact foldl (stageOrder _ _) allTrains s
  · exact refl s
  · exact refl s

theorem runSplit (before : Dsu) (s : State) : DispatchKept s (runSplit before s) :=
  ((split s).trans (foldl (commitOrder before) allTrains _)).trans (stagedSplit _)

theorem attachCavern (c : Cavern) (t : Train) (s : State) : DispatchKept s (attachCavern c t s) where
  joins := .of_eq rfl
  book := ⟨rfl, fun _ => rfl⟩
  trains _ := rfl
  caverns d := by simp only [CavernKept, Machine.attachCavern, State.modCavern_cavern]; split <;> simp [*]
  stores _ := rfl

theorem attachStore (st : Store) (t : Train) (s : State) : DispatchKept s (attachStore st t s) where
  joins := .of_eq rfl
  book := ⟨rfl, fun _ => rfl⟩
  trains _ := rfl
  caverns _ := rfl
  stores x := by
    simp only [StoreKept, Machine.attachStore, State.modStore_store]
    repeat' split
    all_goals simp [*]

theorem attachTrain (t : Train) (a : Attachment) (s : State) : DispatchKept s (attachTrain t a s) :=
  ((modTrain (by simp [TrainKept])).trans (attachCavern a.cavern t _)).trans (attachStore a.store t _)

theorem grantQueued (t : Train) (a : Attachment) (s : State) : DispatchKept s (grantQueued t a s) := by
  have hqueue : DispatchKept s { s with dsu := { s.dsu with queue := s.dsu.queue.filter (fun x => x ≠ t) } } :=
    of_eq (.of_eq rfl) rfl (fun tr => by cases tr <;> rfl) rfl rfl
  exact ((hqueue.trans (attachTrain t a _)).trans (emit ..)).trans (runSplit ..)

theorem examineEntry (s : State) (t : Train) : DispatchKept s (examineEntry s t) := by
  simp only [Machine.examineEntry]
  repeat' split
  · exact grantQueued ..
  · exact refl s
  · exact refl s

theorem examineIf (asked : Bool) (s : State) : DispatchKept s (examineIf asked s) := by
  rw [Machine.examineIf]
  split
  · exact foldl examineEntry s.dsu.queue s
  · exact refl s

/-! ### The answers to an event of the two units (R130, R131, R45, R70) -/

theorem stopTrain (s : State) (t : Train) : DispatchKept s (stopTrain s t) :=
  modTrain (by simp only [TrainKept, State.modTrain_train, if_true]; split <;> rfl)

theorem holdTrain (s : State) (t : Train) : DispatchKept s (holdTrain s t) :=
  modTrain (by simp only [TrainKept, State.modTrain_train, if_true]; split <;> rfl)

theorem unholdTrain (s : State) (t : Train) : DispatchKept s (unholdTrain s t) :=
  modTrain (by simp [TrainKept])

theorem respond (before : State) (atBoundary : Bool) (s : State) : DispatchKept s (respond before atBoundary s) := by
  rw [Machine.respond]
  generalize (if atBoundary = true then [] else freeList before s) = frees
  split
  · exact (((foldl stopTrain _ s).trans (foldl holdTrain _ _)).trans (foldl unholdTrain _ _)).trans (runSplit ..)
  · exact refl s

end DispatchKept

/-- HOLD and RESUME join the queues, and the generation number is no part of them. -/
theorem inventoryChange_joins (s : State) : EventsOnlyJoin s (inventoryChange s) := by
  have hemit (n : Nat) (a b : HoldReasons) (u : State) : EventsOnlyJoin u (emitHold n a b u) := by
    simp only [emitHold]
    repeat' split
    · exact .of_eq rfl
    · exact emit_joins _ _ _ _ _ _
    · exact emit_joins _ _ _ _ _ _
  have hset : EventsOnlyJoin s { bumpGeneration s with pen := { (bumpGeneration s).pen with
      genHold := genReasons (bumpGeneration s), chgHold := chgReasons (bumpGeneration s) } } := .of_eq rfl
  exact (hset.trans (hemit _ _ _ _)).trans (hemit _ _ _ _)

/-- The hand-offs of one event, as far as the records go (R40, R45, R70). -/
theorem handOn_kept (before : State) (atBoundary always : Bool) (s : State) :
    DispatchKept s (handOn before atBoundary always s) := by
  have hchange (x : Bool) (u : State) : DispatchKept u (inventoryChangeIf x u) := by
    rw [inventoryChangeIf]
    split
    · exact .of_eq (inventoryChange_joins u) (by simp) (by simp [State.train]) (by simp) (by simp)
    · exact .refl u
  exact (((DispatchKept.examineIf _ s).trans (.respond before atBoundary _)).trans (.examineIf _ _)).trans (hchange _ _)

/-- The hand-offs of one event move the generation number and the hold states of the engine and nothing else of it. -/
theorem handOn_pen (before : State) (atBoundary always : Bool) (s : State) :
    let x := (handOn before atBoundary always s).pen
    x = { s.pen with generation := x.generation, genHold := x.genHold, chgHold := x.chgHold } := by
  simp only [handOn, inventoryChangeIf]
  split <;> simp [inventoryChange, evalHold_pen, bumpGeneration_pen]

/-- An event that changed nothing hands nothing on. -/
theorem handOn_unchanged (s : State) : handOn s false false s = s := by
  have hstop : stopList s s = [] := by simp [stopList, CavernRec.stops, StoreRec.stops, entered]
  have hhold : holdList s s = [] := by simp [holdList, entered]
  have hfree : freeList s s = [] := by simp [freeList, left]
  have hfull : leftFull s s = false := by simp [leftFull, left]
  have heased : eased s s = false := by
    have hstore (x : StoreRec) : x.eased x = false := by
      simp only [StoreRec.eased, Bool.not_and_self, Bool.or_false]
      cases x.reachable <;> simp
    simp [eased, CavernRec.eased, left, hstore]
  have hmoved : moved s s = false := by simp [moved, CavernRec.moved, StoreRec.moved]
  simp [handOn, examineIf, respond, inventoryChangeIf, hstop, hhold, hfree, hfull, heased, hmoved]

/-! ## Recomputed figures and their conditions (R23, R30, R37, R38) -/

/-- A cavern differs in the figures that a recomputation writes, their marks, and the conditions that follow from them
only (R30, R37, R38). -/
def FiguresOnly (c : Cavern) (s t : State) : Prop :=
  let x := t.cavern c
  x = { s.cavern c with
    estimate := x.estimate, limits := x.limits, budget := x.budget, inReserve := x.inReserve
    atCeiling := x.atCeiling, rateHold := x.rateHold, keptLimits := x.keptLimits, keptBudget := x.keptBudget
    keptEstimate := x.keptEstimate }

/-- What the recomputation of one cavern's figures may change (R20, R30, R40). -/
structure Recomputes (c : Cavern) (s t : State) : Prop where
  joins : EventsOnlyJoin s t
  arith : ArithKept s t
  others : ∀ d, d ≠ c → t.cavern d = s.cavern d
  figures : FiguresOnly c s t

@[simp] theorem raise_cavern (exc : Option ExcCode) (source : ExcSource) (subject : Subject) (s : State) (d : Cavern) :
    (raise exc source subject s).cavern d = s.cavern d := by simp [State.cavern]

namespace Recomputes

theorem refl (c : Cavern) (s : State) : Recomputes c s s := ⟨.of_eq rfl, rfl, fun _ _ => rfl, rfl⟩

theorem trans {c : Cavern} {a b t : State} (h : Recomputes c a b) (k : Recomputes c b t) : Recomputes c a t :=
  ⟨h.joins.trans k.joins, h.arith.trans k.arith, fun d hd => (k.others d hd).trans (h.others d hd),
    Eq.trans k.figures (by rw [h.figures])⟩

/-- Every cavern keeps what is no figure. -/
theorem figuresOnly {c : Cavern} {s t : State} (h : Recomputes c s t) (d : Cavern) : FiguresOnly d s t := by
  by_cases hd : d = c
  · exact hd ▸ h.figures
  · simp [FiguresOnly, h.others d hd]

theorem ite {c : Cavern} {s t : State} (p : Prop) [Decidable p] (h : Recomputes c s t) :
    Recomputes c s (if p then t else s) := by
  split
  · exact h
  · exact refl c s

theorem modCavern {c : Cavern} {s : State} {f : CavernRec → CavernRec} (h : FiguresOnly c s (s.modCavern c f)) :
    Recomputes c s (s.modCavern c f) :=
  ⟨.of_eq rfl, rfl, fun d hd => by simp [hd], h⟩

theorem raise (c : Cavern) (exc : Option ExcCode) (source : ExcSource) (subject : Subject) (s : State) :
    Recomputes c s (raise exc source subject s) where
  joins := raise_joins exc source subject s
  arith := by
    simp only [Machine.raise, capture, ArithKept]
    repeat' split
    all_goals simp
  others d _ := raise_cavern ..
  figures := by simp [FiguresOnly]

theorem recomputeBands (c : Cavern) (s : State) : Recomputes c s (recomputeBands c s) :=
  modCavern (by simp only [FiguresOnly, State.modCavern_cavern, if_true]; split <;> rfl)

theorem recomputeLimits (c : Cavern) (s : State) : Recomputes c s (recomputeLimits c s) := by
  simp only [Machine.recomputeLimits]
  repeat' split
  · exact (modCavern (by simp [FiguresOnly])).trans (raise ..)
  · exact (((modCavern (by simp [FiguresOnly])).trans (raise ..)).trans (raise ..)).trans (recomputeBands ..)
  · exact refl c s

theorem recomputeBudget (c : Cavern) (s : State) : Recomputes c s (recomputeBudget c s) := by
  simp only [Machine.recomputeBudget]
  repeat' split
  · exact (modCavern (by simp [FiguresOnly])).trans (raise ..)
  · exact (modCavern (by simp [FiguresOnly])).trans (raise ..)
  · exact refl c s

theorem recomputeEstimate (c : Cavern) (s : State) : Recomputes c s (recomputeEstimate c s) := by
  simp only [Machine.recomputeEstimate]
  repeat' split
  · exact (modCavern (by simp [FiguresOnly])).trans (raise ..)
  · exact (modCavern (by simp [FiguresOnly])).trans (raise ..)
  · exact refl c s

theorem recomputeKept (c : Cavern) (s : State) : Recomputes c s (recomputeKept c s) :=
  ((ite _ (recomputeLimits c s)).trans (ite _ (recomputeBudget c _))).trans (ite _ (recomputeEstimate c _))

end Recomputes

/-! ### The conditions -/

/-- A condition brought to a value has that value, and no other record changes. -/
theorem changeCond_cavern (c d : Cavern) (k : CavernCond) (v : Bool) (s : State) :
    (changeCond c k v s).cavern d = if d = c then (s.cavern c).setCond k v else s.cavern d := by
  have hset (r : CavernRec) (h : r.cond k = v) : r.setCond k v = r := by subst h; cases k <;> rfl
  simp only [changeCond]
  split
  next h => rw [hset _ h]; split <;> simp [*]
  next => simp [State.cavern, State.modCavern]

/-- The event of a changed condition joins; the latches that a breach entry sets are no part of queue or mask. -/
theorem changeCond_joins (c : Cavern) (k : CavernCond) (v : Bool) (s : State) :
    EventsOnlyJoin s (changeCond c k v s) := by
  have hlatch (p : Port) (u : State) : EventsOnlyJoin u (setLatchOf c p u) := by
    rw [setLatchOf]
    split
    · exact .of_eq rfl
    · intro q
      rw [State.modEvents_events]
      split
      next h => subst h; cases c <;> exact ⟨List.prefix_rfl, rfl⟩
      next => exact ⟨List.prefix_rfl, rfl⟩
  have hlatches (u : State) : EventsOnlyJoin u (setLatches c u) :=
    ((hlatch .c u).trans (hlatch .e _)).trans (hlatch .t _)
  have hset : EventsOnlyJoin s (s.modCavern c (fun r => r.setCond k v)) := .of_eq rfl
  rw [changeCond]
  split
  · exact .of_eq rfl
  · refine hset.trans ?_
    cases k <;> simp only [emitCond]
    case breachLow => split; exacts [(emit_joins _ _ _ _ _ _).trans (hlatches _), emit_joins _ _ _ _ _ _]
    case breachHigh => split; exacts [(emit_joins _ _ _ _ _ _).trans (hlatches _), emit_joins _ _ _ _ _ _]
    all_goals exact emit_joins _ _ _ _ _ _

/-- A change of a condition that follows from the recomputed figures. -/
theorem Recomputes.changeCond (c : Cavern) (k : CavernCond) (hk : k = .inReserve ∨ k = .atCeiling ∨ k = .rateHold)
    (v : Bool) (s : State) : Recomputes c s (changeCond c k v s) where
  joins := changeCond_joins c k v s
  arith := by simp [ArithKept]
  others d hd := by rw [changeCond_cavern, if_neg hd]
  figures := by
    rw [FiguresOnly, changeCond_cavern, if_pos rfl]
    rcases hk with rfl | rfl | rfl <;> rfl

theorem Recomputes.evalMassConds (c : Cavern) (s : State) : Recomputes c s (evalMassConds c s) := by
  simp only [Machine.evalMassConds]
  split
  · exact (changeCond c _ (by simp) _ s).trans (changeCond c _ (by simp) _ _)
  · exact refl c s

theorem Recomputes.evalRateHold (c : Cavern) (s : State) : Recomputes c s (evalRateHold c s) := by
  simp only [Machine.evalRateHold]
  split
  · exact changeCond c _ (by simp) _ s
  · exact refl c s

/-- IN_RESERVE and AT_CEILING of a configured cavern follow its limits, where it has any. -/
theorem evalMassConds_cavern {c : Cavern} {s : State} (hc : (s.cavern c).configured = true) :
    ∃ a b, (evalMassConds c s).cavern c = { s.cavern c with inReserve := a, atCeiling := b } ∧
      ∀ l, (s.cavern c).limits = some l →
        a = decide ((s.cavern c).mass ≤ l.effFloor) ∧ b = decide (l.effCeiling ≤ (s.cavern c).mass) := by
  rw [evalMassConds, hc]
  cases (s.cavern c).limits with
  | none => exact ⟨_, _, rfl, nofun⟩
  | some l =>
    refine ⟨_, _, by simp only [changeCond_cavern, if_true, CavernRec.setCond]; rfl, ?_⟩
    rintro _ ⟨⟩
    exact ⟨rfl, rfl⟩

/-- RATE_HOLD of a configured cavern follows its rate budget, where it has one. -/
theorem evalRateHold_cavern {c : Cavern} {s : State} (hc : (s.cavern c).configured = true) :
    ∃ h, (evalRateHold c s).cavern c = { s.cavern c with rateHold := h } ∧
      ∀ q, (s.cavern c).budget = some q → h = decide (q ≤ (s.cavern c).spent) := by
  rw [evalRateHold, hc]
  cases (s.cavern c).budget with
  | none => exact ⟨_, rfl, nofun⟩
  | some q =>
    refine ⟨_, by simp only [changeCond_cavern, if_true, CavernRec.setCond]; rfl, ?_⟩
    rintro _ ⟨⟩
    rfl

/-- The conditions that both evaluations leave, on the figures as they stand. -/
theorem evalConds_cavern {c : Cavern} {s : State} (hc : (s.cavern c).configured = true) :
    ∃ a b h, (evalRateHold c (evalMassConds c s)).cavern c =
        { s.cavern c with inReserve := a, atCeiling := b, rateHold := h } ∧
      (∀ l, (s.cavern c).limits = some l →
        a = decide ((s.cavern c).mass ≤ l.effFloor) ∧ b = decide (l.effCeiling ≤ (s.cavern c).mass)) ∧
      ∀ q, (s.cavern c).budget = some q → h = decide (q ≤ (s.cavern c).spent) := by
  obtain ⟨a, b, hmass, hab⟩ := evalMassConds_cavern hc
  have hc' : ((evalMassConds c s).cavern c).configured = true := by rw [hmass]; exact hc
  obtain ⟨h, hrate, hh⟩ := evalRateHold_cavern hc'
  rw [hmass] at hrate hh
  exact ⟨a, b, h, hrate, hab, hh⟩

/-! ### A cavern with a temperature to convert at (R4, R20) -/

/-- A conversion of a cavern runs, at a temperature and in a mode. -/
structure ConvertsAt (c : Cavern) (T : Nat) (mode : Mode) (s : State) : Prop where
  configured : (s.cavern c).configured = true
  temp : selectTemp s (s.cavern c) = some T
  mode : s.arith.mode = mode

theorem ConvertsAt.recomputed {c d : Cavern} {T : Nat} {mode : Mode} {s t : State} (h : ConvertsAt c T mode s)
    (k : Recomputes d s t) : ConvertsAt c T mode t where
  configured := by rw [k.figuresOnly c]; exact h.configured
  temp := by rw [selectTemp, k.figuresOnly c, k.arith]; exact h.temp
  mode := by rw [k.arith]; exact h.mode

/-- Limits with the raw masses that A2 gives at a record's floor and ceiling (R5). -/
def Limits.RawAt (l : Limits) (mode : Mode) (T : Nat) (r : CavernRec) : Prop :=
  l.rawFloor = (massAtPressure (roundingOf mode .requirement) r.floor r.gain T).val ∧
    l.rawCeiling = (massAtPressure (roundingOf mode .availability) r.ceiling r.gain T).val

/-- The bands leave the raw masses they are laid on. -/
theorem effectiveLimits_raw (f g b t : Nat) :
    (effectiveLimits f g b t).rawFloor = f ∧ (effectiveLimits f g b t).rawCeiling = g := by
  simp only [effectiveLimits]
  split <;> exact ⟨rfl, rfl⟩

section Converted
variable {c : Cavern} {T : Nat} {mode : Mode} {s : State}

/-- The raw masses by A2, and the limits that follow from them with the bands. -/
theorem recomputeLimits_cavern (h : ConvertsAt c T mode s) :
    ∃ l : Limits, l.RawAt mode T (s.cavern c) ∧
      (recomputeLimits c s).cavern c = { s.cavern c with limits := some l, keptLimits := false } := by
  simp only [recomputeLimits, h.configured, h.temp, if_true, h.mode, recomputeBands, State.modCavern_cavern,
    raise_cavern]
  exact ⟨_, effectiveLimits_raw .., rfl⟩

/-- The rate budget by A4. -/
theorem recomputeBudget_cavern (h : ConvertsAt c T mode s) : (recomputeBudget c s).cavern c =
    { s.cavern c with
      budget := some (rateBudget mode (s.cavern c).rate (s.cavern c).gain T).val, keptBudget := false } := by
  simp only [recomputeBudget, h.configured, h.temp, if_true, h.mode, raise_cavern, State.modCavern_cavern]

/-- The pressure estimate by A1. -/
theorem recomputeEstimate_cavern (h : ConvertsAt c T mode s) : (recomputeEstimate c s).cavern c =
    { s.cavern c with
      estimate := some (pressureEstimate (s.cavern c).mass (s.cavern c).gain T).val, keptEstimate := false } := by
  simp only [recomputeEstimate, h.configured, h.temp, if_true, raise_cavern, State.modCavern_cavern]

/-- Limits recomputed where they were absent or kept are then kept no more; so for the two other figures. -/
theorem recomputeLimits_if (h : ConvertsAt c T mode s) {redo : Prop} [Decidable redo]
    (hr : ¬redo → (s.cavern c).keptLimits = false) :
    ∃ l : Limits, l.RawAt mode T (s.cavern c) ∧
      (if redo then recomputeLimits c s else s).cavern c =
        { s.cavern c with limits := if redo then some l else (s.cavern c).limits, keptLimits := false } := by
  obtain ⟨l, hraw, hrec⟩ := recomputeLimits_cavern h
  refine ⟨l, hraw, ?_⟩
  by_cases hk : redo
  · simp only [if_pos hk, hrec]
  · simp only [if_neg hk, ← hr hk]

theorem recomputeBudget_if (h : ConvertsAt c T mode s) {redo : Prop} [Decidable redo]
    (hr : ¬redo → (s.cavern c).keptBudget = false) :
    (if redo then recomputeBudget c s else s).cavern c = { s.cavern c with
      budget := if redo then some (rateBudget mode (s.cavern c).rate (s.cavern c).gain T).val else (s.cavern c).budget
      keptBudget := false } := by
  by_cases hk : redo
  · simp only [if_pos hk, recomputeBudget_cavern h]
  · simp only [if_neg hk, ← hr hk]

theorem recomputeEstimate_if (h : ConvertsAt c T mode s) {redo : Prop} [Decidable redo]
    (hr : ¬redo → (s.cavern c).keptEstimate = false) :
    (if redo then recomputeEstimate c s else s).cavern c = { s.cavern c with
      estimate :=
        if redo then some (pressureEstimate (s.cavern c).mass (s.cavern c).gain T).val else (s.cavern c).estimate
      keptEstimate := false } := by
  by_cases hk : redo
  · simp only [if_pos hk, recomputeEstimate_cavern h]
  · simp only [if_neg hk, ← hr hk]

/-- Every figure that was absent or kept is computed, and the others stay (R23). -/
theorem recomputeKept_cavern (h : ConvertsAt c T mode s) :
    let r := s.cavern c
    ∃ l : Limits, l.RawAt mode T r ∧
      (recomputeKept c s).cavern c = { r with
        limits := if r.keptLimits ∨ r.limits = none then some l else r.limits
        keptLimits := false
        budget := if r.keptBudget ∨ r.budget = none then some (rateBudget mode r.rate r.gain T).val else r.budget
        keptBudget := false
        estimate :=
          if r.keptEstimate ∨ r.estimate = none then some (pressureEstimate r.mass r.gain T).val else r.estimate
        keptEstimate := false } := by
  have hkept {k : Bool} {p : Prop} (hn : ¬(k = true ∨ p)) : k = false := Bool.eq_false_iff.2 (not_or.1 hn).1
  intro r
  obtain ⟨l, hraw, e1⟩ := recomputeLimits_if h (redo := r.keptLimits ∨ r.limits = none) hkept
  have h1 := h.recomputed (.ite (r.keptLimits ∨ r.limits = none) (.recomputeLimits c s))
  have e2 := recomputeBudget_if h1 (redo := r.keptBudget ∨ r.budget = none) (by rw [e1]; exact hkept)
  have h2 := h1.recomputed (.ite (r.keptBudget ∨ r.budget = none) (.recomputeBudget c _))
  have e3 := recomputeEstimate_if h2 (redo := r.keptEstimate ∨ r.estimate = none) (by rw [e2, e1]; exact hkept)
  rw [e2, e1] at e3
  exact ⟨l, hraw, e3⟩

/-- The trap turned off gives every figure that was absent or kept, and the conditions that follow (R23, R30). -/
theorem recomputeTrapOff_reworked (h : ConvertsAt c T mode s) :
    ArithReworked mode false true T (s.cavern c) ((recomputeTrapOff c s).cavern c) := by
  have hkept {k : Bool} {p : Prop} (hn : ¬(k = true ∨ p)) : false = k := (Bool.eq_false_iff.2 (not_or.1 hn).1).symm
  obtain ⟨l, ⟨hfloor, hceiling⟩, hrec⟩ := recomputeKept_cavern h
  have h1 := h.recomputed (.recomputeKept c s)
  obtain ⟨a, b, q, hconds, hab, hq⟩ := evalConds_cavern h1.configured
  rw [hrec] at hconds hab hq
  rw [recomputeTrapOff, hconds]
  simp only [ArithReworked, Bool.false_or, Bool.true_and, Bool.or_true, Bool.or_eq_true, Option.isNone_iff_eq_none]
  refine ⟨fun hk => ?_, fun hk => ?_, fun hk => ?_, fun hk => ?_, fun hk => ?_, fun hk => ?_, fun _ => ⟨hab, hq⟩⟩
  · rw [if_pos hk, Option.map_some, Option.map_some, hfloor, hceiling]
    exact ⟨rfl, rfl, trivial⟩
  · rw [if_neg hk]
    exact ⟨rfl, hkept hk⟩
  · exact ⟨if_pos hk, trivial⟩
  · exact ⟨if_neg hk, hkept hk⟩
  · exact ⟨if_pos hk, trivial⟩
  · exact ⟨if_neg hk, hkept hk⟩

/-- A changed mode gives raw masses and rate budget anew, and the conditions that follow (R23, R30). -/
theorem recomputeMode_reworked (h : ConvertsAt c T mode s) :
    ArithReworked mode true false T (s.cavern c) ((recomputeMode c s).cavern c) := by
  obtain ⟨l, ⟨hfloor, hceiling⟩, hlimits⟩ := recomputeLimits_cavern h
  have h1 := h.recomputed (Recomputes.recomputeLimits c s)
  have hbudget := recomputeBudget_cavern h1
  have h2 := h1.recomputed (Recomputes.recomputeBudget c _)
  obtain ⟨a, b, q, hconds, hab, hq⟩ := evalConds_cavern h2.configured
  simp only [hlimits] at hbudget
  simp only [hbudget] at hconds hab hq
  rw [recomputeMode, hconds]
  simp [ArithReworked, hfloor, hceiling, hab, hq]

end Converted

/-- Nothing reworked leaves nothing to say. -/
theorem ArithReworked.unchanged (mode : Mode) (T : Nat) (r : CavernRec) : ArithReworked mode false false T r r := by
  simp [ArithReworked]

/-- A changed mode leaves no limits and no rate budget to redo, so the trap turned off after it redoes the estimate
only. -/
theorem ArithReworked.trans {mode : Mode} {T : Nat} {r y x : CavernRec} (h : ArithReworked mode true false T r y)
    (k : ArithReworked mode false true T y x) (hfixed : y.mass = r.mass ∧ y.gain = r.gain) :
    ArithReworked mode true true T r x := by
  obtain ⟨hlim, -, hbud, -, -, hest, -⟩ := h
  obtain ⟨-, klim, -, kbud, kest, kest', kcond⟩ := k
  obtain ⟨hfloor, hceiling, hkl⟩ := hlim rfl
  obtain ⟨hb, hkb⟩ := hbud rfl
  obtain ⟨he, hke⟩ := hest nofun
  have hsome : y.limits.isNone = false := by
    cases hl : y.limits with
    | none => simp [hl] at hfloor
    | some l => rfl
  obtain ⟨hx, hkx⟩ := klim (by simp [hkl, hsome])
  obtain ⟨hx', hkx'⟩ := kbud (by simp [hb, hkb])
  rw [he, hke] at kest kest'
  rw [hfixed.1, hfixed.2] at kest
  exact ⟨fun _ => ⟨by rw [hx, hfloor], by rw [hx, hceiling], by rw [hkx, hkl]⟩, fun hn => absurd rfl hn,
    fun _ => ⟨by rw [hx', hb], by rw [hkx', hkb]⟩, fun hn => absurd rfl hn, kest, kest', kcond⟩

/-! ## The work of SET ARITH MODE (R23, R30, R56) -/

/-- What the recomputation of any figures may change beside the caverns' own figures (R20, R30, R40). -/
structure FiguresKept (s t : State) : Prop where
  joins : EventsOnlyJoin s t
  arith : ArithKept s t
  figures : ∀ c, FiguresOnly c s t

namespace FiguresKept

theorem refl (s : State) : FiguresKept s s := ⟨.of_eq rfl, rfl, fun _ => rfl⟩

theorem trans {a b c : State} (h : FiguresKept a b) (k : FiguresKept b c) : FiguresKept a c :=
  ⟨h.joins.trans k.joins, h.arith.trans k.arith, fun d => Eq.trans (k.figures d) (by rw [h.figures d])⟩

theorem evalReachable (st : Store) (s : State) : FiguresKept s (evalReachable st s) := by
  simp only [Machine.evalReachable]
  split
  · have h := Recomputes.raise .cv1 (some .undefined) .draw (.store st) s
    exact ⟨h.joins, h.arith, h.figuresOnly⟩
  · exact ⟨.of_eq rfl, rfl, fun _ => rfl⟩

end FiguresKept

theorem Recomputes.kept {c : Cavern} {s t : State} (h : Recomputes c s t) : FiguresKept s t :=
  ⟨h.joins, h.arith, h.figuresOnly⟩

theorem Recomputes.recomputeMode (c : Cavern) (s : State) : Recomputes c s (recomputeMode c s) :=
  (((recomputeLimits c s).trans (recomputeBudget c _)).trans (evalMassConds c _)).trans (evalRateHold c _)

theorem Recomputes.recomputeTrapOff (c : Cavern) (s : State) : Recomputes c s (recomputeTrapOff c s) :=
  ((recomputeKept c s).trans (evalMassConds c _)).trans (evalRateHold c _)

/-- The trap turned off adds its own work to that of a changed mode. -/
theorem arithWork_trapOff (modeChanged : Bool) (s : State) : arithWork modeChanged true s =
    evalReachable .hsB (evalReachable .hsA
      (recomputeTrapOff .cv2 (recomputeTrapOff .cv1 (arithWork modeChanged false s)))) := rfl

theorem arithWork_kept (modeChanged trapOff : Bool) (s : State) : FiguresKept s (arithWork modeChanged trapOff s) := by
  have hmode : FiguresKept s (arithWork modeChanged false s) := by
    cases modeChanged with
    | false => exact .refl s
    | true => exact (Recomputes.recomputeMode .cv1 s).kept.trans (Recomputes.recomputeMode .cv2 _).kept
  cases trapOff with
  | false => exact hmode
  | true =>
    rw [arithWork_trapOff]
    exact (((hmode.trans (Recomputes.recomputeTrapOff .cv1 _).kept).trans
      (Recomputes.recomputeTrapOff .cv2 _).kept).trans (.evalReachable .hsA _)).trans (.evalReachable .hsB _)

theorem arithWork_frame (modeChanged trapOff : Bool) (s : State) :
    let t := arithWork modeChanged trapOff s
    t.pins = s.pins ∧ t.spi = s.spi ∧ t.ilr = s.ilr ∧ t.pck = s.pck ∧ t.sbk = s.sbk ∧ t.dsu = s.dsu ∧ t.pen = s.pen ∧
      t.svc = s.svc ∧ t.pending = s.pending := by
  simp only [arithWork]
  repeat' split
  all_goals simp [recomputeMode, recomputeTrapOff]

/-- Work on CV1 and then on CV2 does for each cavern what it does for that one. -/
theorem bothCaverns_reworked {f : Cavern → State → State} {mode : Mode} {changed off : Bool} {T : Nat}
    (hf : ∀ d s, Recomputes d s (f d s))
    (hr : ∀ d s, ConvertsAt d T mode s → ArithReworked mode changed off T (s.cavern d) ((f d s).cavern d))
    {c : Cavern} {s : State} (h : ConvertsAt c T mode s) :
    ArithReworked mode changed off T (s.cavern c) ((f .cv2 (f .cv1 s)).cavern c) := by
  cases c with
  | cv1 => rw [(hf .cv2 _).others .cv1 (by decide)]; exact hr .cv1 s h
  | cv2 => rw [← (hf .cv1 s).others .cv2 (by decide)]; exact hr .cv2 _ (h.recomputed (hf .cv1 s))

/-- The figures that the whole work leaves of a cavern with a temperature to convert at. -/
theorem arithWork_reworked {c : Cavern} {T : Nat} {mode : Mode} {s : State} (h : ConvertsAt c T mode s)
    (modeChanged trapOff : Bool) :
    ArithReworked mode modeChanged trapOff T (s.cavern c) ((arithWork modeChanged trapOff s).cavern c) := by
  have hmode := bothCaverns_reworked Recomputes.recomputeMode (fun _ _ => recomputeMode_reworked) h
  have htrap {u : State} (hu : ConvertsAt c T mode u) :
      ArithReworked mode false true T (u.cavern c)
        ((evalReachable .hsB (evalReachable .hsA (recomputeTrapOff .cv2 (recomputeTrapOff .cv1 u)))).cavern c) := by
    have hciu (v : State) : (evalReachable .hsB (evalReachable .hsA v)).cavern c = v.cavern c := by simp [State.cavern]
    rw [hciu]
    exact bothCaverns_reworked Recomputes.recomputeTrapOff (fun _ _ => recomputeTrapOff_reworked) hu
  match modeChanged, trapOff with
  | false, false => exact .unchanged mode T _
  | true, false => exact hmode
  | false, true => exact htrap h
  | true, true =>
    have h1 := Recomputes.recomputeMode .cv1 s
    have h2 := Recomputes.recomputeMode .cv2 (recomputeMode .cv1 s)
    have hfixed : ((arithWork true false s).cavern c).mass = (s.cavern c).mass ∧
        ((arithWork true false s).cavern c).gain = (s.cavern c).gain := by
      rw [(arithWork_kept true false s).figures c]; exact ⟨rfl, rfl⟩
    exact hmode.trans (htrap ((h.recomputed h1).recomputed h2)) hfixed

/-- With the trap off an evaluation always gives the heat of the usable run (R56). -/
theorem evalReachable_store {s : State} (h : s.arith.trap = false) (x st : Store) : (evalReachable x s).store st =
    if st = x then { s.store x with reachable := (reachableRun (s.store x).tUse (s.store x).stack).1 }
    else s.store st := by
  simp [evalReachable, h]

/-- The heat stores keep everything but their reachable heat, which is that of the usable run where the trap has been
turned off (R56). -/
theorem arithWork_store {modeChanged trapOff : Bool} {s : State} (h : trapOff = true → s.arith.trap = false)
    (st : Store) : (arithWork modeChanged trapOff s).store st = { s.store st with reachable :=
      if trapOff then (reachableRun (s.store st).tUse (s.store st).stack).1 else (s.store st).reachable } := by
  have hmode : (arithWork modeChanged false s).store st = s.store st := by
    cases modeChanged <;> simp [arithWork, recomputeMode, State.store]
  cases trapOff with
  | false => exact hmode
  | true =>
    rw [arithWork_trapOff]
    generalize hu : recomputeTrapOff .cv2 (recomputeTrapOff .cv1 (arithWork modeChanged false s)) = u
    have hstore : u.store st = s.store st := by
      rw [← hmode, ← hu]; simp [recomputeTrapOff, State.store]
    have hk : FiguresKept s u := hu ▸ ((arithWork_kept modeChanged false s).trans
      (Recomputes.recomputeTrapOff .cv1 _).kept).trans (Recomputes.recomputeTrapOff .cv2 _).kept
    have htrap : u.arith.trap = false := by rw [hk.arith]; exact h rfl
    have htrap' : (evalReachable .hsA u).arith.trap = false := by
      rw [(FiguresKept.evalReachable .hsA u).arith]; exact htrap
    rw [evalReachable_store htrap', evalReachable_store htrap, evalReachable_store htrap]
    cases st <;> simp [hstore]

/-! ## SET ARITH MODE (R23) -/

/-- The part with the mode and the four settings of SET ARITH MODE, and nothing else changed. -/
def withSettings (m : Mode) (k : Byte) (s : State) : State :=
  { s with arith := { s.arith with
    mode := m, trap := k.getLsbD 0, overflowNotice := k.getLsbD 1, underflowNotice := k.getLsbD 2
    inhibit := k.getLsbD 3 } }

/-- The part once the work of those settings is done, before the hand-offs. -/
def arithWorked (m : Mode) (k : Byte) (s : State) : State :=
  arithWork (m != s.arith.mode) (s.arith.trap && !k.getLsbD 0) (withSettings m k s)

/-- What an accepted SET ARITH MODE leaves of the part. -/
def arithModeSet (m : Mode) (k : Byte) (s : State) : State :=
  let t := handOn (withSettings m k s) false false (arithWorked m k s)
  if m != s.arith.mode then postRecheck t else t

/-- A known mode that is no other mode in SERVICE is accepted. -/
theorem takeSetArithMode_accepted {b k : Byte} {m : Mode} {s : State} (hb : modeOf b = some m)
    (hm : s.svc.part = .service → m = s.arith.mode) :
    takeSetArithMode b k s = (arithModeSet m k s, some (.bare .done)) := by
  have hn : ¬(s.svc.part = .service ∧ m ≠ s.arith.mode) := fun h => h.2 (hm h.1)
  simp only [takeSetArithMode, hb, if_neg hn]
  rfl

/-- In SERVICE another mode is refused. -/
theorem takeSetArithMode_refused {b k : Byte} {m : Mode} {s : State} (hb : modeOf b = some m)
    (hpart : s.svc.part = .service) (hm : m ≠ s.arith.mode) :
    takeSetArithMode b k s = (s, some (.bare .state)) := by
  simp only [takeSetArithMode, hb, if_pos (And.intro hpart hm)]
  rfl

section ArithModeSet
variable (m : Mode) (k : Byte) (s : State)

theorem arithWorked_frame :
    let t := arithWorked m k s
    t.pins = s.pins ∧ t.spi = s.spi ∧ t.ilr = s.ilr ∧ t.pck = s.pck ∧ t.sbk = s.sbk ∧ t.dsu = s.dsu ∧ t.pen = s.pen ∧
      t.svc = s.svc ∧ t.pending = s.pending := arithWork_frame _ _ (withSettings m k s)

theorem arithWorked_kept : FiguresKept (withSettings m k s) (arithWorked m k s) := arithWork_kept ..

/-- Beyond its own work an accepted command only has the hand-offs of that work answered, and posts its recheck. -/
theorem arithModeSet_kept : DispatchKept (arithWorked m k s) (arithModeSet m k s) := by
  have hpost (u : State) : DispatchKept u (postRecheck u) :=
    .of_eq (.of_eq (by simp)) (by simp) (by simp [State.train]) (by simp) (by simp)
  rw [arithModeSet]
  split
  · exact (handOn_kept _ _ _ _).trans (hpost _)
  · exact handOn_kept _ _ _ _

/-- The blocks that no event of the two units concerns. -/
theorem arithModeSet_frame :
    let t := arithModeSet m k s
    t.pins = s.pins ∧ t.spi = s.spi ∧ t.ilr = s.ilr ∧ t.pck = s.pck ∧ t.svc = s.svc := by
  obtain ⟨hpins, hspi, hilr, hpck, -, -, -, hsvc, -⟩ := arithWorked_frame m k s
  simp only [arithModeSet]
  split <;> simp [hpins, hspi, hilr, hpck, hsvc]

theorem arithModeSet_arith : ArithKept (withSettings m k s) (arithModeSet m k s) := by
  have harith : (arithModeSet m k s).arith = (arithWorked m k s).arith := by
    simp only [arithModeSet]
    split <;> simp
  rw [ArithKept, harith]
  exact (arithWorked_kept m k s).arith

theorem arithModeSet_joins : EventsOnlyJoin s (arithModeSet m k s) :=
  EventsOnlyJoin.trans (a := s) (arithWorked_kept m k s).joins (arithModeSet_kept m k s).joins

theorem arithModeSet_book : BookKept s (arithModeSet m k s) := by
  obtain ⟨-, -, -, -, hsbk, -⟩ := arithWorked_frame m k s
  have hw : BookKept s (arithWorked m k s) := ⟨by rw [hsbk], fun n => by simp [State.slot, hsbk]⟩
  exact hw.trans (arithModeSet_kept m k s).book

theorem arithModeSet_train (tr : Train) : TrainKept tr s (arithModeSet m k s) := by
  obtain ⟨-, -, -, -, -, hdsu, -⟩ := arithWorked_frame m k s
  have hw : TrainKept tr s (arithWorked m k s) := by simp [TrainKept, State.train, hdsu]
  exact hw.trans ((arithModeSet_kept m k s).trains tr)

/-- A changed mode posts a recheck outside CONFIG, and the engine keeps everything else but its generation number and
its hold states. -/
theorem arithModeSet_engine : EngineKept s (arithModeSet m k s) ∧
    (m ≠ s.arith.mode → s.svc.part ≠ .config → RecheckPosted s (arithModeSet m k s)) := by
  obtain ⟨-, -, -, -, -, -, hpen, hsvc, -⟩ := arithWorked_frame m k s
  have ht := handOn_pen (withSettings m k s) false false (arithWorked m k s)
  rw [hpen] at ht
  have hpart : (handOn (withSettings m k s) false false (arithWorked m k s)).svc = s.svc := by simp [hsvc]
  rw [arithModeSet]
  generalize handOn (withSettings m k s) false false (arithWorked m k s) = t at ht hpart
  have hkept : EngineKept s t := ⟨by rw [ht], .inl (by rw [ht])⟩
  by_cases hm : m = s.arith.mode
  · simp only [hm, bne_self_eq_false, Bool.false_eq_true, if_false]
    exact ⟨hkept, fun h => absurd rfl h⟩
  · rw [if_pos (by simpa using hm)]
    simp only [EngineKept, RecheckPosted, postRecheck_pen, hpart]
    by_cases hc : s.svc.part = .config
    · rw [if_pos hc]
      exact ⟨hkept, fun _ h => absurd hc h⟩
    · rw [if_neg hc, Pen.posted_eq, ht]
      cases hf : s.pen.flight with
      | some f => simp
      | none => simp

theorem arithModeSet_cavern (c : Cavern) :
    let x := (arithModeSet m k s).cavern c
    x = { s.cavern c with
      estimate := x.estimate, limits := x.limits, budget := x.budget, attached := x.attached
      inReserve := x.inReserve, atCeiling := x.atCeiling, rateHold := x.rateHold, keptLimits := x.keptLimits
      keptBudget := x.keptBudget, keptEstimate := x.keptEstimate } := by
  have hw := (arithWorked_kept m k s).figures c
  have ht := (arithModeSet_kept m k s).caverns c
  exact Eq.trans ht (by rw [ht, hw]; rfl)

theorem arithModeSet_store (st : Store) :
    let x := (arithModeSet m k s).store st
    x = { s.store st with reachable := x.reachable, charging := x.charging, drawing := x.drawing } ∧
      x.reachable = if s.arith.trap && !k.getLsbD 0 then (reachableRun (s.store st).tUse (s.store st).stack).1
        else (s.store st).reachable := by
  have htrap (h : (s.arith.trap && !k.getLsbD 0) = true) : (withSettings m k s).arith.trap = false :=
    (Bool.not_eq_true' _).mp (Bool.and_eq_true_iff.1 h).2
  have hw : (arithWorked m k s).store st = _ := arithWork_store htrap st
  have ht := (arithModeSet_kept m k s).stores st
  exact ⟨Eq.trans ht (by rw [ht, hw]; rfl), by rw [ht, hw]; rfl⟩

/-- The same mode with the trap left on, or off, leaves no work. -/
theorem arithModeSet_settings (hm : m = s.arith.mode) (hk : s.arith.trap = false ∨ k.getLsbD 0 = true) :
    arithModeSet m k s = withSettings m k s := by
  have hoff : (s.arith.trap && !k.getLsbD 0) = false := by rcases hk with h | h <;> simp [h]
  have hsame : (m != s.arith.mode) = false := by simp [hm]
  rw [arithModeSet, arithWorked, hoff, hsame]
  exact handOn_unchanged _

theorem arithModeSet_reworked {c : Cavern} {T : Nat} (hc : (s.cavern c).configured = true)
    (hT : (s.cavern c).lastTemp = some T ∨
      ((s.cavern c).lastTemp = none ∧ k.getLsbD 0 = false ∧ T = (s.cavern c).refTemp)) :
    ArithReworked m (m != s.arith.mode) (s.arith.trap && !k.getLsbD 0) T (s.cavern c)
      ((arithModeSet m k s).cavern c) := by
  have htemp : selectTemp (withSettings m k s) (s.cavern c) = some T := by
    rcases hT with h | ⟨h, hk, rfl⟩
    · simp [selectTemp, h]
    · simp only [selectTemp, h, withSettings, hk]; rfl
  have hw := arithWork_reworked (s := withSettings m k s) ⟨hc, htemp, rfl⟩ (m != s.arith.mode)
    (s.arith.trap && !k.getLsbD 0)
  have ht := (arithModeSet_kept m k s).caverns c
  rw [ht]
  exact hw

end ArithModeSet

theorem exec_setArithMode (p : Port) (b k : Byte) (s : State) :
    exec (.setArithMode p b k) s = .next (command p 0x07 [b, k] (takeSetArithMode b k) s) := rfl

/-- Settles O22: an accepted command leaves its answer over `arithModeSet` of the part as the block finds it, and a
refused one its code alone. -/
theorem setArithModeEffect : Obligations.SetArithModeEffect := by
  intro p s b k h
  refine ⟨fun m hb hm => ?accepted, fun m hb hpart hm => ?state, fun hb => ?range⟩
  case accepted =>
    let u := uncollect p (addSlots p 3 s)
    let t := arithModeSet m k u
    obtain ⟨hpins, hspi, hilr, hpck, hsvc⟩ := arithModeSet_frame m k u
    obtain ⟨hengine, hrecheck⟩ := arithModeSet_engine m k u
    refine ⟨placeNow p (Answer.bare .done).full t, ?_, placeNow_answers p _ t, arithModeSet_arith m k u,
      arithModeSet_cavern m k u, fun st => (arithModeSet_store m k u st).1, fun hsame hk => ?unchanged,
      fun _ _ => arithModeSet_reworked m k u, fun st => (arithModeSet_store m k u st).2, hrecheck,
      arithModeSet_book m k u, arithModeSet_train m k u, hengine, arithModeSet_joins m k u, fun q hq => ?ports,
      hsvc, hpck, hilr, hpins⟩
    · rw [exec_setArithMode, command_answered h rfl (takeSetArithMode_accepted hb hm)]; rfl
    case unchanged =>
      have ht : t = withSettings m k u := arithModeSet_settings m k u hsame hk
      rw [ht]
      exact ⟨fun _ => rfl, fun _ => rfl⟩
    case ports =>
      have ht : t.port q = u.port q := by rw [State.port, State.port, hspi]
      exact (placeNow_otherPorts p _ t q hq).trans (ht.trans ((uncollect_onlyPort p 3 s).2 q hq))
  case state =>
    refine ⟨_, exec_setArithMode p b k s, command_answersOnly h rfl fun u hu => takeSetArithMode_refused hb ?_ ?_⟩
    · rw [hu.1]; exact hpart
    · rw [hu.1]; exact hm
  case range =>
    refine ⟨_, exec_setArithMode p b k s, command_answersOnly h rfl fun u _ => ?_⟩
    rw [takeSetArithMode, hb]; rfl

end Sys2Proof.Machine
end

section
/-! PROOFS. READ CAVERN, the envelope lock, the account under a report's air, what one advance counts, and the bounds and
laws after reset; and the caverns' commands and pins as the dispatch runs them. -/

namespace Sys2Proof.Machine

/-! ## The commands and pins of the caverns, as the dispatch runs them -/

theorem exec_readCavern (p : Port) (b : Byte) (s : State) :
    exec (.readCavern p b) s = .next (command p 0x30 [b] (takeReadCavern p b) s) := rfl

theorem exec_setCavern (p : Port) (b : Byte) (g : BitVec 24) (f c r rt tol : BitVec 16) (s : State) :
    exec (.setCavern p b g f c r rt tol) s = .next (command p 0x02
      ([b] ++ putBE 3 g.toNat ++ putBE 2 f.toNat ++ putBE 2 c.toNat ++ putBE 2 r.toNat ++ putBE 2 rt.toNat ++
        putBE 2 tol.toNat) (takeSetCavern b g f c r rt tol) s) := rfl

theorem exec_setReserveBand (p : Port) (b k d : Byte) (s : State) :
    exec (.setReserveBand p b k d) s = .next (command p 0x0E [b, k, d] (takeSetReserveBand b k d) s) := rfl

theorem exec_loadInventoryCavern (p : Port) (b m : Byte) (a : BitVec 32) (x : BitVec 16) (s : State) :
    exec (.loadInventoryCavern p b m a x) s = .next (command p 0x09
      ([1, b, m] ++ putBE 4 a.toNat ++ putBE 2 x.toNat) (takeLoadCavern b m a) s) := rfl

theorem exec_loadInventoryStore (p : Port) (b m : Byte) (a : BitVec 32) (x : BitVec 16) (s : State) :
    exec (.loadInventoryStore p b m a x) s = .next (command p 0x09
      ([2, b, m] ++ putBE 4 a.toNat ++ putBE 2 x.toNat) (takeLoadStore b m a x) s) := rfl

theorem exec_pinChange (code : BitVec 3) (tb : Bool) (s : State) : exec (.pinChange code tb) s = .next (live (fun s =>
    if s.ciu.hwCode = code ∧ s.ciu.hwSide = sideOfPin tb then s else takePinChange code (sideOfPin tb) s)
    { s with pins := { s.pins with rsv := code, rsvtb := tb } }) := rfl

theorem exec_envlockChange (high : Bool) (s : State) :
    exec (.envlockChange high) s = .next { s with pins := { s.pins with envlock := high } } := rfl

/-- An admitted command at a ready port: its block finds a part that differs at the port only, with the same masters
present, and the answer it gives is placed over what it leaves. -/
theorem command_taken {p : Port} {s : State} (h : Ready p s) {code : Byte} {params : List Byte} {take : State → Taken}
    (hp : admits code.toNat p = true) : ∃ u, OnlyPort p s u ∧ (∀ q, u.presence q = s.presence q) ∧
      ∀ {t : State} {a : Answer}, take u = (t, some a) → command p code params take s = placeNow p a.full t :=
  ⟨_, uncollect_onlyPort p (1 + params.length) s, fun q => uncollect_addSlots_presence p q _ s, command_answered h hp⟩

/-! ## READ CAVERN (R44, R172) -/

theorem EventPort.setLatch_latch (q : EventPort) (c d : Cavern) (v : Bool) :
    (q.setLatch c v).latch d = if d = c then v else q.latch d := by cases c <;> cases d <;> rfl

/-- A latch is no part of queue, MISSED flag or mask. -/
theorem EventPort.setLatch_rest (q : EventPort) (c : Cavern) (v : Bool) :
    (q.setLatch c v).queue = q.queue ∧ (q.setLatch c v).missed = q.missed ∧ (q.setLatch c v).mask = q.mask := by
  cases c <;> exact ⟨rfl, rfl, rfl⟩

/-- The body of READ CAVERN reads no port interface. -/
theorem cavernBody_onlyPort {p : Port} {s u : State} (h : OnlyPort p s u) (c : Cavern) :
    cavernBody u p c = cavernBody s p c := by
  rw [h.1]; rfl

/-- Settles O6: the answer is the body as the port finds it, over a part in which the one latch alone is cleared. -/
theorem readCavernClearsLatch : Obligations.ReadCavernClearsLatch := by
  intro p s b h
  refine ⟨fun c hb => ?known, fun hb => ?unknown⟩
  case known =>
    obtain ⟨u, hu, -, hcommand⟩ := command_taken h (code := 0x30) (params := [b]) (take := takeReadCavern p b) rfl
    have ht : takeReadCavern p b u =
        (u.modEvents p (fun q => q.setLatch c false), some (.done (cavernBody s p c))) := by
      rw [← cavernBody_onlyPort hu, takeReadCavern, hb]
    have hevents (q : Port) : u.events q = s.events q := by rw [hu.1]; rfl
    rw [exec_readCavern, hcommand ht]
    refine ⟨_, rfl, placeNow_answers p _ _, ?_, fun q d hqd => ?_, fun q => ?_, by rw [hu.1]; rfl, fun q hq =>
      (placeNow_otherPorts p _ _ q hq).trans (hu.2 q hq)⟩
    · simp [placeNow, EventPort.setLatch_latch]
    · by_cases hq : q = p
      · have hd : d ≠ c := fun hd => hqd (by rw [hq, hd])
        simp [placeNow, hq, EventPort.setLatch_latch, hd, hevents]
      · simp [placeNow, hq, hevents]
    · by_cases hq : q = p <;> simp [placeNow, hq, EventPort.setLatch_rest, hevents]
  case unknown =>
    exact ⟨_, exec_readCavern p b s, command_answersOnly h rfl fun u _ => by rw [takeReadCavern, hb]; rfl⟩

/-! ## The envelope lock (R31) -/

/-- The lock reads a pin and the enable only. -/
theorem lockEffective_onlyPort {p : Port} {s u : State} (h : OnlyPort p s u) : u.lockEffective = s.lockEffective := by
  rw [h.1]; rfl

/-- Settles O17: SET CAVERN and SET RESERVE BAND ask for the lock first, and a load of a known cavern after its
number. -/
theorem envelopeLockRefuses : Obligations.EnvelopeLockRefuses := by
  intro p s h hpin henable
  have hlock (u : State) (hu : OnlyPort p s u) : u.lockEffective = true := by
    rw [lockEffective_onlyPort hu, State.lockEffective, hpin, henable]; rfl
  refine ⟨fun b g f c r rt tol => ?cavern, fun b c d => ?band, fun b m a x c hb => ?load⟩
  case cavern =>
    refine ⟨_, exec_setCavern p b g f c r rt tol s, command_answersOnly h rfl fun u hu => ?_⟩
    rw [takeSetCavern, if_pos (hlock u hu)]; rfl
  case band =>
    refine ⟨_, exec_setReserveBand p b c d s, command_answersOnly h rfl fun u hu => ?_⟩
    rw [takeSetReserveBand, if_pos (hlock u hu)]; rfl
  case load =>
    refine ⟨_, exec_loadInventoryCavern p b m a x s, command_answersOnly h rfl fun u hu => ?_⟩
    simp only [takeLoadCavern, hb, if_pos (hlock u hu)]; rfl

/-! ## A report's air (R32, R33) -/

/-- A mass is brought into its range. -/
theorem saturateMass_val (top : Nat) (x : Int) : ((saturateMass top x).val : Int) = max 0 (min x top) := by
  simp only [saturateMass]
  repeat' split
  all_goals dsimp only; omega

/-- A counter within its range is kept. -/
theorem saturateCounter_val {x : Int} (hlo : -9223372036854775807 ≤ x) (hhi : x ≤ 9223372036854775807) :
    (saturateCounter x).val = x := by
  have htop : ¬Config.counterTop < x := not_lt.2 hhi
  have hbottom : ¬x < Config.counterBottom := not_lt.2 hlo
  rw [saturateCounter, saturateSigned, if_neg htop, if_neg hbottom]

/-- The mass and the counters that a report's air leaves. -/
theorem applyAir_account (c : Cavern) (fill : Bool) (air : Nat) (s : State) :
    let r := s.cavern c
    let x := (applyAir c fill air s).cavern c
    let m := (saturateMass Config.massTop (if fill then (r.mass : Int) + air else (r.mass : Int) - air)).val
    x.mass = m ∧ x.loaded = r.loaded ∧ x.reconciled = r.reconciled ∧
      x.filled = (if fill then (saturateCounter (r.filled + ((m : Int) - r.mass))).val else r.filled) ∧
      x.withdrawn = if fill then r.withdrawn else (saturateCounter (r.withdrawn + ((r.mass : Int) - m))).val := by
  cases fill <;> simp [applyAir]

/-- Settles O53: the change that the saturated mass leaves of the air is what goes to the counter, and it lies between
nothing and the air, so that the counter does not saturate. -/
theorem airKeepsMassAccount : Obligations.AirKeepsMassAccount := by
  intro c fill air s hmass hlaw hf0 hf hw0 hw t
  obtain ⟨hm, hl, hr, hfilled, hwithdrawn⟩ := applyAir_account c fill air s
  rw [hm, hl, hr, hfilled, hwithdrawn]
  have hval := saturateMass_val Config.massTop
    (if fill then ((s.cavern c).mass : Int) + air else ((s.cavern c).mass : Int) - air)
  generalize saturateMass Config.massTop _ = m at hval
  rw [Config.massTop] at hval
  cases fill with
  | true =>
    simp only [if_true] at hval ⊢
    rw [saturateCounter_val (by omega) (by omega)]
    omega
  | false =>
    simp only [Bool.false_eq_true, if_false] at hval ⊢
    rw [saturateCounter_val (by omega) (by omega)]
    omega

/-! ## One advance (R36, R61, R72, R142, R162) -/

/-- A cavern is IDLE exactly while no train is attached (R36). -/
theorem flow_idle_iff (r : CavernRec) : r.flow = .idle ↔ r.attached = [] := by
  cases ha : r.attached with
  | nil => simp [CavernRec.flow, ha]
  | cons t ts => cases ht : t.expands <;> simp [CavernRec.flow, ha, ht, ite_eq_iff]

theorem countStable_eq (r : CavernRec) : countStable r =
    { r with stableTimer := if r.attached = [] then countUp r.stableTimer else r.stableTimer } := by
  simp only [countStable, flow_idle_iff]
  split <;> rfl

theorem silent_eq (r : TrainRec) (deadline : Nat) : r.silent deadline =
    { r with
      silence := if r.permit.attached then countUp r.silence else r.silence
      rungs := if r.permit.attached = false then r.rungs else rungsReached (countUp r.silence) deadline } := by
  simp only [TrainRec.silent]
  cases r.permit.attached <;> rfl

theorem older_eq (r : SourceRec) (stale : Nat) : r.older stale = { r with
    age := countUp r.age, staleDue := decide (stale ≤ countUp r.age ∧ r.validity ≠ .stale) } := by
  rw [SourceRec.older, Bool.decide_and]
  cases r.validity <;> rfl

theorem countAging_store (period : Nat) (x : Hsu) (st : Store) : (countAging period x).get st = x.get st := by
  rw [countAging]
  split
  · rfl
  · cases st <;> rfl

theorem stagingAt_boundary {n lead : Nat} {mark : Option Nat} (h : n % 900 = 0) :
    stagingAt n lead mark = if mark = some (n / 900 - 1) then none else some (n / 900 - 1) := if_pos h

theorem stagingAt_within {n lead : Nat} {mark : Option Nat} (h : n % 900 ≠ 0) :
    stagingAt n lead mark = if 900 - lead ≤ n % 900 ∧ mark ≠ some (n / 900) then some (n / 900) else none := if_neg h

/-- Settles O48: each block's count is read off its own counting function. -/
theorem advanceCounts : Obligations.AdvanceCounts := by
  intro s t up
  refine ⟨rfl, rfl, rfl, rfl, rfl, rfl, fun src => ?sources, fun c => ?caverns, ?timer, ?due,
    ⟨rfl, ?boundary, stagingAt_boundary, stagingAt_within⟩, fun st => countAging_store _ _ st, fun tr => ?trains, rfl,
    rfl, rfl, rfl, rfl, rfl, rfl⟩
  case sources =>
    have h : t.ilr.get src = (s.ilr.get src).older s.svc.times.stale := by cases src <;> rfl
    rw [h, older_eq]; rfl
  case caverns =>
    have h : t.cavern c = countStable (s.cavern c) := by cases c <;> rfl
    rw [h, countStable_eq]; rfl
  case timer =>
    change (countAging _ _).agingTimer = _
    rw [countAging]; split <;> rfl
  case due =>
    change (countAging _ _).agingDue = _
    rw [countAging]; split <;> rfl
  case boundary => exact beq_iff_eq
  case trains =>
    have h : t.train tr = (s.train tr).silent s.svc.times.deadline := by cases tr <;> rfl
    rw [h, silent_eq]; rfl

/-! ## The bounds and laws after reset (R33, R66, R78, R88, R94, R117, R123, R168) -/

/-- Settles O60: every record is the reset record of its block, and each of these is within its bound and law. -/
theorem boundsHoldAtReset : Obligations.BoundsHoldAtReset := by
  intro pins now waiting
  refine ⟨fun p => ?queues, ?ring, fun st => ?parcels, ⟨?length, fun n hn => ?index⟩, ⟨List.nodup_nil, fun tr => ?permits⟩,
    fun tr => ?orders, ⟨fun c => ?caverns, fun st => ?stores⟩, fun _ _ => ⟨rfl, rfl⟩⟩
  case queues => rw [afterReset_events]; exact Nat.zero_le _
  case ring => exact Nat.zero_le _
  case parcels => rw [afterReset_store]; exact Nat.zero_le _
  case length => simp [State.afterReset, Sbk.reset, Config.slotCount]
  case index =>
    have hcurrent : (State.afterReset pins now waiting).sbk.current + n = n := Nat.zero_add n
    rw [hcurrent, afterReset_slot pins now waiting hn]; rfl
  case permits => rw [afterReset_train]; exact ⟨nofun, nofun⟩
  case orders => rw [afterReset_train]; exact ⟨Nat.le_refl _, fun _ => rfl⟩
  case caverns => rw [afterReset_cavern]; exact ⟨rfl, Nat.zero_le _⟩
  case stores => rw [afterReset_store]; exact ⟨rfl, Nat.le_refl _, Nat.zero_le _⟩

end Sys2Proof.Machine
end

section
/-! PROOFS. An event of the two units from its own work to the frame of its command: the hand-overs of its hand-offs, what
the work may change, and what stands once the hand-offs are answered and the recheck is posted. -/

namespace Sys2Proof.Machine

/-! ## Hand-overs to the router (R165 to R168) -/

/-- From one state to the other the router takes some hand-overs and nothing else changes of it, and the ports are as they
were. -/
def Routed (s t : State) : Prop := t.spi = s.spi ∧ ∃ rs : List EventRecord, t.evr = (rs.foldl State.route s).evr

/-- What the router makes of hand-overs is decided by what it holds and by the presences. -/
theorem foldl_route_evr {a b : State} (he : a.evr = b.evr) (hs : a.spi = b.spi) (rs : List EventRecord) :
    (rs.foldl State.route a).evr = (rs.foldl State.route b).evr := by
  induction rs generalizing a b with
  | nil => exact he
  | cons r rs ih => exact ih (by simp only [State.route, he, hs]) hs

theorem route_events (s : State) (r : EventRecord) (q : Port) :
    (s.route r).events q = (s.events q).offered (s.presence q) r q := by cases q <;> rfl

namespace Routed

theorem of_eq {s t : State} (he : t.evr = s.evr) (hs : t.spi = s.spi) : Routed s t := ⟨hs, [], he⟩

theorem refl (s : State) : Routed s s := of_eq rfl rfl

theorem trans {a b c : State} (h : Routed a b) (k : Routed b c) : Routed a c := by
  obtain ⟨hs, rs, he⟩ := h
  obtain ⟨ks, rs', ke⟩ := k
  have hspi : (rs.foldl State.route a).spi = a.spi := foldl_keeps State.spi State.route (fun _ _ => rfl) rs a
  refine ⟨ks.trans hs, rs ++ rs', ?_⟩
  rw [List.foldl_append, ke]
  exact foldl_route_evr he (hs.trans hspi.symm) rs'

theorem foldl {α : Type} {f : State → α → State} (hf : ∀ s x, Routed s (f s x)) (l : List α) (s : State) :
    Routed s (l.foldl f s) := by
  induction l generalizing s with
  | nil => exact refl s
  | cons x l ih => exact (hf s x).trans (ih (f s x))

theorem emit (kind : EventKind) (cls : EventClass) (subject : Subject) (w1 w2 : Int) (s : State) :
    Routed s (emit kind cls subject w1 w2 s) := ⟨rfl, [_], rfl⟩

/-- A hand-over sets and clears no latch (R172). -/
theorem latch {s t : State} (h : Routed s t) (q : Port) (c : Cavern) :
    (t.events q).latch c = (s.events q).latch c := by
  obtain ⟨-, rs, he⟩ := h
  have hroute (u : State) (r : EventRecord) : ((u.route r).events q).latch c = (u.events q).latch c := by
    obtain ⟨-, -, h1, h2⟩ := (u.events q).offered_keeps (u.presence q) r q
    rw [route_events]
    cases c
    · exact h1
    · exact h2
  rw [State.events, he]
  exact foldl_keeps (fun u => (State.events u q).latch c) State.route hroute rs s

/-! ### The split, the staged split and the queue (R124, R133 to R136) -/

theorem markShort (pl : Plan) (power : Nat) (s : State) : Routed s (markShort pl power s) := by
  simp only [Machine.markShort]
  repeat' split
  · exact of_eq rfl rfl
  · exact (of_eq rfl rfl : Routed s (s.modSlot _ _)).trans (emit ..)
  · exact (of_eq rfl rfl : Routed s (s.modSlot _ _)).trans (emit ..)
  · exact refl s
  · exact refl s

theorem split (s : State) : Routed s (split s) :=
  (foldl (f := fun u t => setOrder s.splitPlan t u) (fun _ _ => of_eq rfl rfl) allTrains s).trans (markShort ..)

theorem commitOrder (before : Dsu) (s : State) (t : Train) : Routed s (commitOrder before s t) := by
  simp only [Machine.commitOrder]
  split
  · exact refl s
  · exact (of_eq rfl rfl : Routed s (s.modTrain t _)).trans (emit ..)

theorem stageOrder (pl : Plan) (interval : Nat) (s : State) (t : Train) : Routed s (stageOrder pl interval s t) := by
  simp only [Machine.stageOrder]
  repeat' split
  · exact of_eq rfl rfl
  · exact (of_eq rfl rfl : Routed s ((s.modTrain t _).modTrain t _)).trans (emit ..)
  · exact of_eq rfl rfl

theorem stagedSplit (s : State) : Routed s (stagedSplit s) := by
  simp only [Machine.stagedSplit]
  repeat' split
  · exact foldl (stageOrder _ _) allTrains s
  · exact refl s
  · exact refl s

theorem runSplit (before : Dsu) (s : State) : Routed s (runSplit before s) :=
  ((split s).trans (foldl (commitOrder before) allTrains _)).trans (stagedSplit _)

theorem grantQueued (t : Train) (a : Attachment) (s : State) : Routed s (grantQueued t a s) := by
  have hattach : Routed s (attachTrain t a
      { s with dsu := { s.dsu with queue := s.dsu.queue.filter (fun x => x ≠ t) } }) := of_eq (by simp) (by simp)
  exact (hattach.trans (emit ..)).trans (runSplit ..)

theorem examineEntry (s : State) (t : Train) : Routed s (examineEntry s t) := by
  simp only [Machine.examineEntry]
  repeat' split
  · exact grantQueued ..
  · exact refl s
  · exact refl s

theorem examineIf (asked : Bool) (s : State) : Routed s (examineIf asked s) := by
  rw [Machine.examineIf]
  split
  · exact foldl examineEntry s.dsu.queue s
  · exact refl s

/-! ### The answers to an event of the two units (R130, R131, R45, R70) -/

theorem respond (before : State) (atBoundary : Bool) (s : State) : Routed s (respond before atBoundary s) := by
  rw [Machine.respond]
  generalize (if atBoundary = true then [] else freeList before s) = frees
  split
  · exact (((foldl (f := stopTrain) (fun _ _ => of_eq rfl rfl) _ s).trans
      (foldl (f := holdTrain) (fun _ _ => of_eq rfl rfl) _ _)).trans
      (foldl (f := unholdTrain) (fun _ _ => of_eq rfl rfl) _ _)).trans (runSplit ..)
  · exact refl s

theorem emitHold (direction : Nat) (before after : HoldReasons) (s : State) :
    Routed s (emitHold direction before after s) := by
  simp only [Machine.emitHold]
  repeat' split
  · exact refl s
  · exact emit ..
  · exact emit ..

theorem inventoryChangeIf (changed : Bool) (s : State) : Routed s (inventoryChangeIf changed s) := by
  rw [Machine.inventoryChangeIf]
  split
  · exact ((of_eq rfl rfl : Routed s { bumpGeneration s with pen := { (bumpGeneration s).pen with
      genHold := genReasons (bumpGeneration s), chgHold := chgReasons (bumpGeneration s) } }).trans
      (emitHold ..)).trans (emitHold ..)
  · exact refl s

theorem handOn (before : State) (atBoundary always : Bool) (s : State) :
    Routed s (handOn before atBoundary always s) :=
  (((examineIf ..).trans (respond ..)).trans (examineIf ..)).trans (inventoryChangeIf ..)

end Routed

/-! ## The own work of an event, and its hand-offs (R40, R45, R70) -/

/-- What the own work of an event of the two units may change: their records, records that join the event queues, and a
capture. -/
structure UnitWork (s w : State) : Prop where
  joins : EventsOnlyJoin s w
  arith : ArithKept s w
  frame : w.pins = s.pins ∧ w.spi = s.spi ∧ w.ilr = s.ilr ∧ w.pck = s.pck ∧ w.sbk = s.sbk ∧ w.dsu = s.dsu ∧
    w.pen = s.pen ∧ w.svc = s.svc ∧ w.pending = s.pending

/-- What an event of the two units may change once its hand-offs are answered, beside their records and the book. -/
structure PlantEvent (s t : State) : Prop where
  joins : EventsOnlyJoin s t
  trains : ∀ tr, TrainKept tr s t
  engine : EngineKept s t
  arith : ArithKept s t
  frame : t.pins = s.pins ∧ t.spi = s.spi ∧ t.ilr = s.ilr ∧ t.pck = s.pck ∧ t.svc = s.svc ∧ t.pending = s.pending

/-- The blocks that an event of the two units leaves aside. -/
theorem PlantEvent.state_eq {s t : State} (h : PlantEvent s t) : t = { s with
    evr := t.evr, ciu := t.ciu, hsu := t.hsu, sbk := t.sbk, dsu := t.dsu, arith := t.arith, pen := t.pen } := by
  obtain ⟨hpins, hspi, hilr, hpck, hsvc, hpending⟩ := h.frame
  rw [← hpins, ← hspi, ← hilr, ← hpck, ← hsvc, ← hpending]

theorem UnitWork.handedOn {s w : State} (h : UnitWork s w) (before : State) (atBoundary always : Bool) :
    PlantEvent s (handOn before atBoundary always w) := by
  obtain ⟨hpins, hspi, hilr, hpck, -, hdsu, hpen, hsvc, hpending⟩ := h.frame
  have hkept := handOn_kept before atBoundary always w
  have htrain (tr : Train) : TrainKept tr s w := by simp [TrainKept, State.train, hdsu]
  have ht := handOn_pen before atBoundary always w
  rw [hpen] at ht
  exact {
    joins := h.joins.trans hkept.joins
    trains := fun tr => (htrain tr).trans (hkept.trains tr)
    engine := ⟨by rw [ht], .inl (by rw [ht])⟩
    arith := by rw [ArithKept, (handOn_frame before atBoundary always w).2.2.2.2.1]; exact h.arith
    frame := by simp [hpins, hspi, hilr, hpck, hsvc, hpending] }

/-- The work itself leaves the book, and the hand-offs write SHORT marks only. -/
theorem UnitWork.book {s w t : State} (h : UnitWork s w) (k : DispatchKept w t) : BookKept s t := by
  obtain ⟨-, -, -, -, hsbk, -⟩ := h.frame
  have hw : BookKept s w := ⟨by rw [hsbk], fun n => by simp [State.slot, hsbk]⟩
  exact hw.trans k.book

/-- A load counts as an inventory change whatever it changed (R43, R68, R95). -/
theorem handOn_always_generation (before w : State) (atBoundary : Bool) :
    (handOn before atBoundary true w).pen.generation = w.pen.generation + 1 := by
  simp [handOn, inventoryChangeIf, inventoryChange, evalHold_pen, bumpGeneration_pen]

/-! ## The recheck request of an event (R94, R112) -/

theorem DispatchKept.postRecheck (s : State) : DispatchKept s (postRecheck s) :=
  .of_eq (.of_eq (by simp)) (by simp) (by simp [State.train]) (by simp) (by simp)

theorem PlantEvent.postRecheck {s t : State} (h : PlantEvent s t) : PlantEvent s (postRecheck t) where
  joins := h.joins.trans (.of_eq (by simp))
  trains tr := by have := h.trains tr; simpa [TrainKept, State.train] using this
  engine := by
    obtain ⟨hpen, hflight⟩ := h.engine
    rw [EngineKept, postRecheck_pen, Pen.posted_eq]
    by_cases hc : t.svc.part = .config
    · rw [if_pos hc]; exact ⟨hpen, hflight⟩
    · rw [if_neg hc]
      split
      next => exact ⟨by simp only; rw [hpen], hflight⟩
      next hfree =>
        have hnone : s.pen.flight = none := by
          rcases hflight with e | ⟨e, -⟩
          · rw [← e]; simpa using hfree
          · exact e
        exact ⟨by simp only; rw [hpen], .inr ⟨hnone, rfl⟩⟩
  arith := by simpa [ArithKept] using h.arith
  frame := by simpa using h.frame

/-- Outside CONFIG a posted request waits behind a walk in flight, and otherwise has been started. -/
theorem PlantEvent.recheckPosted {s t : State} (h : PlantEvent s t) (hc : s.svc.part ≠ .config) :
    RecheckPosted s (Machine.postRecheck t) := by
  obtain ⟨-, -, -, -, hsvc, -⟩ := h.frame
  have hc' : t.svc.part ≠ .config := by rw [hsvc]; exact hc
  rw [RecheckPosted, postRecheck_pen, if_neg hc', Pen.posted_eq]
  rcases h.engine.2 with e | ⟨hs, ht⟩
  · rw [e]; cases s.pen.flight <;> rfl
  · rw [hs, ht]; rfl

/-! ## An event answered: its hand-offs, and its recheck request where it posts one -/

/-- What the rest of the part makes of the own work `w` of an event that found the part in a state. -/
def answered (posts : Prop) [Decidable posts] (w s : State) : State :=
  if posts then postRecheck (handOn s false false w) else handOn s false false w

section Answered
variable {s w t : State} (posts : Prop) [Decidable posts]

theorem answered_kept (w s : State) : DispatchKept w (answered posts w s) := by
  have h := handOn_kept s false false w
  rw [answered]
  split
  · exact h.trans (.postRecheck _)
  · exact h

theorem answered_latch (w s : State) (q : Port) (c : Cavern) :
    ((answered posts w s).events q).latch c = (w.events q).latch c := by
  have hevr : (answered posts w s).evr = (handOn s false false w).evr := by
    rw [answered]
    split <;> simp
  rw [State.events, hevr]
  exact (Routed.handOn s false false w).latch q c

theorem UnitWork.answered (h : UnitWork s w) : PlantEvent s (answered posts w s) := by
  have hevent := h.handedOn s false false
  rw [Machine.answered]
  split
  · exact hevent.postRecheck
  · exact hevent

variable {posts} in
/-- Outside CONFIG the request that an event posts is taken. -/
theorem UnitWork.recheckPosted (h : UnitWork s w) (hpart : s.svc.part ≠ .config) (hposts : posts) :
    RecheckPosted s (Machine.answered posts w s) := by
  rw [Machine.answered, if_pos hposts]
  exact (h.handedOn s false false).recheckPosted hpart

/-- An event that posts in SERVICE only (R27). -/
theorem UnitWork.answered_inService (h : UnitWork s w) :
    postRecheckInService (handOn s false false w) = Machine.answered (s.svc.part = .service) w s := by
  obtain ⟨-, -, -, -, hsvc, -⟩ := (h.handedOn s false false).frame
  rw [postRecheckInService, hsvc]
  rfl

/-- A cavern that the own work leaves aside is left to the grants, and so is a store. -/
theorem DispatchKept.cavernAside (k : DispatchKept w t) {d : Cavern} (h : w.cavern d = s.cavern d) :
    CavernKept d s t :=
  CavernKept.trans (b := w) (by rw [CavernKept, h]) (k.caverns d)

theorem DispatchKept.storeAside (k : DispatchKept w t) {st : Store} (h : w.store st = s.store st) :
    StoreKept st s t :=
  StoreKept.trans (b := w) (by rw [StoreKept, h]) (k.stores st)

end Answered

/-! ## The frame of the command that asked for the event (R176, R181) -/

/-- A command whose block leaves an event of the two units answers over that event. -/
theorem PlantEvent.placed {p : Port} {s u t : State} (hu : OnlyPort p s u) (h : PlantEvent u t) (bytes : List Byte) :
    PlantFrame p s (placeNow p bytes t) := by
  obtain ⟨heq, hports⟩ := hu
  obtain ⟨hpins, hspi, hilr, hpck, hsvc, hpending⟩ := h.frame
  have hjoins := h.joins
  have htrains := h.trains
  have hengine := h.engine
  have harith := h.arith
  have hrest : OtherPorts p s t := fun q hq => by rw [State.port, hspi]; exact hports q hq
  rw [heq] at hpins hilr hpck hsvc hpending hjoins htrains hengine harith
  refine ⟨fun q hq => (placeNow_otherPorts p bytes t q hq).trans (hrest q hq), hjoins, htrains, hengine, harith, ?_⟩
  rw [← hpins, ← hilr, ← hpck, ← hsvc, ← hpending]; rfl

end Sys2Proof.Machine
end

section
/-! PROOFS. The breach conditions of a cavern with their latches, and every figure and condition recomputed. -/

namespace Sys2Proof.Machine

/-! ## The recomputation of figures sets no latch (R172) -/

namespace Routed

theorem raise (exc : Option ExcCode) (source : ExcSource) (subject : Subject) (s : State) :
    Routed s (raise exc source subject s) := by
  simp only [Machine.raise, capture]
  repeat' split
  · exact of_eq rfl rfl
  · exact (of_eq rfl rfl : Routed s { s with arith := { s.arith with sticky := true, capture := some _ } }).trans (emit ..)
  · exact refl s
  · exact refl s

theorem recomputeLimits (c : Cavern) (s : State) : Routed s (recomputeLimits c s) := by
  simp only [Machine.recomputeLimits]
  repeat' split
  · exact (of_eq rfl rfl : Routed s (s.modCavern c _)).trans (raise ..)
  · exact (((of_eq rfl rfl : Routed s (s.modCavern c _)).trans (raise ..)).trans (raise ..)).trans (of_eq rfl rfl)
  · exact refl s

theorem recomputeBudget (c : Cavern) (s : State) : Routed s (recomputeBudget c s) := by
  simp only [Machine.recomputeBudget]
  repeat' split
  · exact (of_eq rfl rfl : Routed s (s.modCavern c _)).trans (raise ..)
  · exact (of_eq rfl rfl : Routed s (s.modCavern c _)).trans (raise ..)
  · exact refl s

theorem recomputeEstimate (c : Cavern) (s : State) : Routed s (recomputeEstimate c s) := by
  simp only [Machine.recomputeEstimate]
  repeat' split
  · exact (of_eq rfl rfl : Routed s (s.modCavern c _)).trans (raise ..)
  · exact (of_eq rfl rfl : Routed s (s.modCavern c _)).trans (raise ..)
  · exact refl s

theorem changeCond (c : Cavern) (k : CavernCond) (hk : k = .inReserve ∨ k = .atCeiling ∨ k = .rateHold) (v : Bool)
    (s : State) : Routed s (changeCond c k v s) := by
  rw [Machine.changeCond]
  split
  · exact refl s
  · refine (of_eq rfl rfl : Routed s (s.modCavern c (fun r => r.setCond k v))).trans ?_
    rcases hk with rfl | rfl | rfl <;> exact emit ..

theorem evalMassConds (c : Cavern) (s : State) : Routed s (evalMassConds c s) := by
  simp only [Machine.evalMassConds]
  split
  · exact (changeCond c _ (by simp) _ s).trans (changeCond c _ (by simp) _ _)
  · exact refl s

theorem evalRateHold (c : Cavern) (s : State) : Routed s (evalRateHold c s) := by
  simp only [Machine.evalRateHold]
  split
  · exact changeCond c _ (by simp) _ s
  · exact refl s

end Routed

/-! ## The breach conditions and their latches (R39, R172) -/

theorem setLatchOf_latch (c : Cavern) (p q : Port) (s : State) : ((setLatchOf c p s).events q).latch c =
    ((s.events q).latch c || (decide (q = p) && s.presence q != .absent)) := by
  rw [setLatchOf]
  by_cases hq : q = p
  · subst hq
    by_cases ha : s.presence q = .absent <;> simp [ha, EventPort.setLatch_latch]
  · split <;> simp [hq]

/-- A detection sets the latch of every port that is not ABSENT. -/
theorem setLatches_latch (c : Cavern) (q : Port) (s : State) :
    ((setLatches c s).events q).latch c = ((s.events q).latch c || s.presence q != .absent) := by
  have hpresence (p : Port) (u : State) : (setLatchOf c p u).presence q = u.presence q := by
    simp [State.presence, State.port]
  simp only [setLatches, setLatchOf_latch, hpresence]
  cases q <;> simp

/-- A breach condition brought to a value sets the latches at an entry, and only there. -/
theorem changeCond_latch (c : Cavern) (k : CavernCond) (hk : k = .breachLow ∨ k = .breachHigh) (v : Bool) (q : Port)
    (s : State) : ((changeCond c k v s).events q).latch c =
      ((s.events q).latch c || (entered ((s.cavern c).cond k) v && s.presence q != .absent)) := by
  have hemit (kind : EventKind) (cls : EventClass) (w1 w2 : Int) :
      ((emit kind cls (.cavern c) w1 w2 (s.modCavern c (fun r => r.setCond k v))).events q).latch c =
        (s.events q).latch c := (Routed.emit ..).latch q c
  have hpresence (kind : EventKind) (cls : EventClass) (w1 w2 : Int) :
      (emit kind cls (.cavern c) w1 w2 (s.modCavern c (fun r => r.setCond k v))).presence q = s.presence q := rfl
  rw [changeCond]
  split
  next h => simp [h, entered]
  next h =>
    cases v
    case false =>
      have hleft : (s.cavern c).cond k = true := by simpa using h
      rcases hk with rfl | rfl <;> simp only [emitCond] <;> simp [hemit, entered]
    case true =>
      have hentered : (s.cavern c).cond k = false := by simpa using h
      rcases hk with rfl | rfl <;> simp only [emitCond] <;>
        simp [hemit, hpresence, setLatches_latch, entered, hentered]

/-- Both breach conditions brought to values, in either order. -/
theorem changeCond_breaches {c : Cavern} {low high : Bool} {s t : State}
    (h : t = changeCond c .breachHigh high (changeCond c .breachLow low s) ∨
      t = changeCond c .breachLow low (changeCond c .breachHigh high s)) :
    t.cavern c = { s.cavern c with breachLow := low, breachHigh := high } ∧ ∀ q, (t.events q).latch c =
      ((s.events q).latch c || ((entered (s.cavern c).breachLow low || entered (s.cavern c).breachHigh high) &&
        s.presence q != .absent)) := by
  have hpresence (k : CavernCond) (v : Bool) (q : Port) : (changeCond c k v s).presence q = s.presence q := by
    simp [State.presence, State.port]
  rcases h with rfl | rfl
  · refine ⟨by simp [changeCond_cavern, CavernRec.setCond], fun q => ?_⟩
    simp only [changeCond_latch, changeCond_cavern, hpresence, true_or, or_true, if_true, CavernRec.cond,
      CavernRec.setCond, Bool.or_assoc, Bool.and_or_distrib_right]
  · refine ⟨by simp [changeCond_cavern, CavernRec.setCond], fun q => ?_⟩
    simp only [changeCond_latch, changeCond_cavern, hpresence, true_or, or_true, if_true, CavernRec.cond,
      CavernRec.setCond, Bool.or_assoc, Bool.and_or_distrib_right]
    exact congrArg _ (Bool.or_comm ..)

/-- A pressure copy the breach conditions follow (R39). -/
def CavernRec.Measured (r : CavernRec) (v : Nat) : Prop :=
  r.configured = true ∧ (r.pressureV = .good ∨ r.pressureV = .suspect) ∧ r.pressure = some v

/-- A measured pressure brings both conditions to what it shows. -/
theorem evalBreach_measured {c : Cavern} {s : State} {v : Nat} (h : (s.cavern c).Measured v) :
    let r := s.cavern c
    let low := decide (v < r.floor)
    let high := decide (r.floor ≤ v ∧ r.ceiling < v)
    evalBreach c s = changeCond c .breachHigh high (changeCond c .breachLow low s) ∨
      evalBreach c s = changeCond c .breachLow low (changeCond c .breachHigh high s) := by
  obtain ⟨hc, hv, hp⟩ := h
  have heval : evalBreach c s =
      if v < (s.cavern c).floor then changeCond c .breachLow true (changeCond c .breachHigh false s)
      else if (s.cavern c).ceiling < v then changeCond c .breachHigh true (changeCond c .breachLow false s)
      else changeCond c .breachHigh false (changeCond c .breachLow false s) := by
    rcases hv with hv | hv <;> rw [evalBreach, hc, hv, hp]
  dsimp only
  by_cases hlow : v < (s.cavern c).floor
  · have hhigh : ¬((s.cavern c).floor ≤ v ∧ (s.cavern c).ceiling < v) := fun hn => absurd hlow (not_lt.2 hn.1)
    rw [heval, if_pos hlow, decide_eq_true hlow, decide_eq_false hhigh]
    exact .inr rfl
  · rw [heval, if_neg hlow, decide_eq_false hlow]
    by_cases hhigh : (s.cavern c).ceiling < v
    · rw [if_pos hhigh, decide_eq_true ⟨not_lt.1 hlow, hhigh⟩]
      exact .inl rfl
    · rw [if_neg hhigh, decide_eq_false fun hn => hhigh hn.2]
      exact .inl rfl

/-- With no such copy the conditions stay. -/
theorem evalBreach_unmeasured {c : Cavern} {s : State} (h : ∀ v, ¬(s.cavern c).Measured v) : evalBreach c s = s := by
  simp only [evalBreach]
  split
  next hc hv hp => exact absurd ⟨hc, .inl hv, hp⟩ (h _)
  next hc hv hp => exact absurd ⟨hc, .inr hv, hp⟩ (h _)
  next => rfl

/-- What an evaluation of the breach conditions leaves of the cavern and its latches. -/
theorem evalBreach_cavern (c : Cavern) (s : State) :
    let r := s.cavern c
    let t := evalBreach c s
    ∃ low high, t.cavern c = { r with breachLow := low, breachHigh := high } ∧
      (∀ q, (t.events q).latch c = ((s.events q).latch c ||
        ((entered r.breachLow low || entered r.breachHigh high) && s.presence q != .absent))) ∧
      (∀ v, r.Measured v → low = decide (v < r.floor) ∧ high = decide (r.floor ≤ v ∧ r.ceiling < v)) ∧
      ((∀ v, ¬r.Measured v) → low = r.breachLow ∧ high = r.breachHigh) := by
  intro r t
  by_cases h : ∃ v, r.Measured v
  · obtain ⟨v, hv⟩ := h
    obtain ⟨hcavern, hlatch⟩ := changeCond_breaches (evalBreach_measured hv)
    refine ⟨_, _, hcavern, hlatch, fun w hw => ?_, fun hn => absurd hv (hn v)⟩
    obtain rfl : v = w := Option.some.inj (hv.2.2.symm.trans hw.2.2)
    exact ⟨rfl, rfl⟩
  · have hn : ∀ v, ¬r.Measured v := fun v hv => h ⟨v, hv⟩
    have ht : t = s := evalBreach_unmeasured hn
    refine ⟨r.breachLow, r.breachHigh, by rw [ht], fun q => ?_, fun v hv => absurd hv (hn v), fun _ => ⟨rfl, rfl⟩⟩
    simp [ht, entered]

theorem evalBreach_joins (c : Cavern) (s : State) : EventsOnlyJoin s (evalBreach c s) := by
  by_cases h : ∃ v, (s.cavern c).Measured v
  · obtain ⟨v, hv⟩ := h
    rcases evalBreach_measured hv with e | e <;>
      exact e ▸ (changeCond_joins c _ _ s).trans (changeCond_joins c _ _ _)
  · rw [evalBreach_unmeasured fun v hv => h ⟨v, hv⟩]; exact .of_eq rfl

theorem evalBreach_others {c d : Cavern} (hd : d ≠ c) (s : State) : (evalBreach c s).cavern d = s.cavern d := by
  by_cases h : ∃ v, (s.cavern c).Measured v
  · obtain ⟨v, hv⟩ := h
    rcases evalBreach_measured hv with e | e <;> rw [e, changeCond_cavern, if_neg hd, changeCond_cavern, if_neg hd]
  · rw [evalBreach_unmeasured fun v hv => h ⟨v, hv⟩]

/-! ## Every figure and condition of a cavern recomputed (R27, R30, R37 to R39) -/

/-- A record once every derived figure is recomputed and every condition evaluated; a grant may have attached trains
since. -/
structure AllRecomputed (mode : Mode) (r x : CavernRec) : Prop where
  kept : x = { r with
    estimate := x.estimate, limits := x.limits, budget := x.budget, attached := x.attached, inReserve := x.inReserve
    atCeiling := x.atCeiling, rateHold := x.rateHold, breachLow := x.breachLow, breachHigh := x.breachHigh
    keptLimits := x.keptLimits, keptBudget := x.keptBudget, keptEstimate := x.keptEstimate }
  limits : ∀ T, r.lastTemp = some T → ∃ l : Limits, l.RawAt mode T r ∧ x.limits = some l
  budget : ∀ T, r.lastTemp = some T → x.budget = some (rateBudget mode r.rate r.gain T).val
  estimate : ∀ T, r.lastTemp = some T → x.estimate = some (pressureEstimate x.mass r.gain T).val
  massConds : ∀ l, x.limits = some l → x.inReserve = decide (x.mass ≤ l.effFloor) ∧
    x.atCeiling = decide (l.effCeiling ≤ x.mass)
  rateHold : ∀ q, x.budget = some q → x.rateHold = decide (q ≤ x.spent)
  breach : ∀ v, r.Measured v → x.breachLow = decide (v < r.floor) ∧
    x.breachHigh = decide (r.floor ≤ v ∧ r.ceiling < v)
  noBreach : (∀ v, ¬r.Measured v) → x.breachLow = r.breachLow ∧ x.breachHigh = r.breachHigh

/-- Attached trains are no part of it. -/
theorem AllRecomputed.attached {mode : Mode} {r x : CavernRec} (h : AllRecomputed mode r x) (ts : List Train) :
    AllRecomputed mode r { x with attached := ts } :=
  { h with kept := by rw [h.kept] }

/-- The three figures of a cavern that has a last valid temperature. -/
theorem recomputeFigures_cavern {c : Cavern} {T : Nat} {mode : Mode} {s : State} (h : ConvertsAt c T mode s) :
    let r := s.cavern c
    ∃ l : Limits, l.RawAt mode T r ∧ (recomputeEstimate c (recomputeBudget c (recomputeLimits c s))).cavern c = { r with
      limits := some l, keptLimits := false, budget := some (rateBudget mode r.rate r.gain T).val, keptBudget := false
      estimate := some (pressureEstimate r.mass r.gain T).val, keptEstimate := false } := by
  obtain ⟨l, hraw, e1⟩ := recomputeLimits_cavern h
  have h1 := h.recomputed (.recomputeLimits c s)
  have e2 := recomputeBudget_cavern h1
  have e3 := recomputeEstimate_cavern (h1.recomputed (.recomputeBudget c _))
  rw [e2, e1] at e3
  exact ⟨l, hraw, e3⟩

theorem Recomputes.recomputeFigures (c : Cavern) (s : State) :
    Recomputes c s (Machine.recomputeEstimate c (Machine.recomputeBudget c (Machine.recomputeLimits c s))) :=
  ((recomputeLimits c s).trans (recomputeBudget c _)).trans (recomputeEstimate c _)

theorem recomputeAll_others {c d : Cavern} (hd : d ≠ c) (s : State) : (recomputeAll c s).cavern d = s.cavern d := by
  rw [recomputeAll, evalBreach_others hd, (Recomputes.evalRateHold c _).others d hd,
    (Recomputes.evalMassConds c _).others d hd, (Recomputes.recomputeFigures c s).others d hd]

theorem recomputeAll_joins (c : Cavern) (s : State) : EventsOnlyJoin s (recomputeAll c s) :=
  (((Recomputes.recomputeFigures c s).trans (.evalMassConds c _)).trans (.evalRateHold c _)).joins.trans
    (evalBreach_joins c _)

theorem recomputeAll_arith (c : Cavern) (s : State) : ArithKept s (recomputeAll c s) := by
  have h := ((Recomputes.recomputeFigures c s).trans (.evalMassConds c _)).trans (.evalRateHold c _)
  rw [ArithKept, recomputeAll, (evalBreach_frame c _).2.2.2.2.2.2.2.1]
  exact h.arith

/-- The record once the figures are recomputed and IN_RESERVE, AT_CEILING and RATE_HOLD follow from them. -/
theorem figuresAndConds_cavern {c : Cavern} {s : State} (hc : (s.cavern c).configured = true) :
    let r := s.cavern c
    let x := (evalRateHold c (evalMassConds c (recomputeEstimate c (recomputeBudget c (recomputeLimits c s))))).cavern c
    FiguresOnly c s (evalRateHold c (evalMassConds c (recomputeEstimate c (recomputeBudget c (recomputeLimits c s))))) ∧
      (∀ T, r.lastTemp = some T → (∃ l : Limits, l.RawAt s.arith.mode T r ∧ x.limits = some l) ∧
        x.budget = some (rateBudget s.arith.mode r.rate r.gain T).val ∧
        x.estimate = some (pressureEstimate x.mass r.gain T).val) ∧
      (∀ l, x.limits = some l → x.inReserve = decide (x.mass ≤ l.effFloor) ∧
        x.atCeiling = decide (l.effCeiling ≤ x.mass)) ∧
      ∀ q, x.budget = some q → x.rateHold = decide (q ≤ x.spent) := by
  intro r x
  have hfigures := Recomputes.recomputeFigures c s
  refine ⟨((hfigures.trans (.evalMassConds c _)).trans (.evalRateHold c _)).figures, ?_⟩
  have hu : ((recomputeEstimate c (recomputeBudget c (recomputeLimits c s))).cavern c).configured = true := by
    rw [hfigures.figures]; exact hc
  obtain ⟨a, b, h, hconds, hab, hh⟩ := evalConds_cavern hu
  rw [show x = _ from hconds]
  refine ⟨fun T ht => ?_, hab, hh⟩
  obtain ⟨l, hraw, hrecord⟩ := recomputeFigures_cavern (⟨hc, by rw [selectTemp, ht], rfl⟩ : ConvertsAt c T s.arith.mode s)
  rw [hrecord]
  exact ⟨⟨l, hraw, rfl⟩, rfl, rfl⟩

/-- The record and the latches that a recomputation in full leaves of a configured cavern. -/
theorem recomputeAll_cavern {c : Cavern} {s : State} (hc : (s.cavern c).configured = true) :
    AllRecomputed s.arith.mode (s.cavern c) ((recomputeAll c s).cavern c) ∧
      ∀ q, ((recomputeAll c s).events q).latch c = ((s.events q).latch c ||
        ((entered (s.cavern c).breachLow ((recomputeAll c s).cavern c).breachLow ||
          entered (s.cavern c).breachHigh ((recomputeAll c s).cavern c).breachHigh) && s.presence q != .absent)) := by
  obtain ⟨hkept, hfigures, hmass, hrate⟩ := figuresAndConds_cavern hc
  have hrouted : Routed s
      (evalRateHold c (evalMassConds c (recomputeEstimate c (recomputeBudget c (recomputeLimits c s))))) :=
    ((((Routed.recomputeLimits c s).trans (.recomputeBudget c _)).trans (.recomputeEstimate c _)).trans
      (.evalMassConds c _)).trans (.evalRateHold c _)
  rw [recomputeAll]
  generalize evalRateHold c (evalMassConds c (recomputeEstimate c (recomputeBudget c (recomputeLimits c s)))) = v at *
  obtain ⟨low, high, hbreach, hlatch, hmeasured, hunmeasured⟩ := evalBreach_cavern c v
  have hpresence (q : Port) : v.presence q = s.presence q := by rw [State.presence, State.port, hrouted.1]; rfl
  have hlow : (v.cavern c).breachLow = (s.cavern c).breachLow := by rw [hkept]
  have hhigh : (v.cavern c).breachHigh = (s.cavern c).breachHigh := by rw [hkept]
  have hsame (w : Nat) : (v.cavern c).Measured w ↔ (s.cavern c).Measured w := by rw [hkept]; exact Iff.rfl
  have hrange : (v.cavern c).floor = (s.cavern c).floor ∧ (v.cavern c).ceiling = (s.cavern c).ceiling := by
    rw [hkept]; exact ⟨rfl, rfl⟩
  simp only [hsame, hrange, hlow, hhigh] at hlatch hmeasured hunmeasured
  rw [hbreach]
  refine ⟨⟨by rw [hkept], fun T h => (hfigures T h).1, fun T h => (hfigures T h).2.1, fun T h => (hfigures T h).2.2,
    hmass, hrate, hmeasured, hunmeasured⟩, fun q => ?_⟩
  rw [hlatch q, hrouted.latch q c, hpresence]

end Sys2Proof.Machine
end

section
/-! PROOFS. SET CAVERN. -/

namespace Sys2Proof.Machine

/-! ## SET CAVERN (R27) -/

/-- The six fields of SET CAVERN. -/
structure CavernFields where
  gain : Nat
  floor : Nat
  ceiling : Nat
  rate : Nat
  refTemp : Nat
  tol : Nat

/-- A record with those fields. -/
def CavernRec.withConfig (x : CavernRec) (k : CavernFields) : CavernRec :=
  { x with
    configured := true, gain := k.gain, floor := k.floor, ceiling := k.ceiling, rate := k.rate, refTemp := k.refTemp
    tol := k.tol }

/-- The own work of an accepted SET CAVERN. -/
def cavernWorked (c : Cavern) (k : CavernFields) (s : State) : State :=
  recomputeAll c (s.modCavern c (fun r => r.withConfig k))

section CavernWorked
variable (c : Cavern) (k : CavernFields) (s : State)

theorem cavernWorked_work : UnitWork s (cavernWorked c k s) where
  joins := EventsOnlyJoin.trans (b := s.modCavern c (fun r => r.withConfig k)) (.of_eq rfl) (recomputeAll_joins c _)
  arith := recomputeAll_arith c (s.modCavern c (fun r => r.withConfig k))
  frame := by simp [cavernWorked, recomputeAll]

theorem cavernWorked_aside :
    (∀ d, d ≠ c → (cavernWorked c k s).cavern d = s.cavern d) ∧ ∀ st, (cavernWorked c k s).store st = s.store st :=
  ⟨fun d hd => by rw [cavernWorked, recomputeAll_others hd, State.modCavern_cavern, if_neg hd],
    fun st => by simp [State.store, cavernWorked, recomputeAll]⟩

/-- The record of the cavern, once the hand-offs are answered, and its latches. -/
theorem cavernWorked_record (posts : Prop) [Decidable posts] :
    let t := answered posts (cavernWorked c k s) s
    let x := t.cavern c
    AllRecomputed s.arith.mode ((s.cavern c).withConfig k) x ∧
      ∀ q, (t.events q).latch c = ((s.events q).latch c ||
        ((entered (s.cavern c).breachLow x.breachLow || entered (s.cavern c).breachHigh x.breachHigh) &&
          s.presence q != .absent)) := by
  intro t x
  have hconfig : (s.modCavern c (fun r => r.withConfig k)).cavern c = (s.cavern c).withConfig k := by
    rw [State.modCavern_cavern, if_pos rfl]
  obtain ⟨hall, hlatch⟩ :=
    recomputeAll_cavern (s := s.modCavern c (fun r => r.withConfig k)) (by rw [hconfig]; rfl)
  have hx : x = { (cavernWorked c k s).cavern c with attached := x.attached } :=
    (answered_kept posts (cavernWorked c k s) s).caverns c
  rw [hconfig] at hall hlatch
  refine ⟨by rw [hx]; exact hall.attached x.attached, fun q => ?_⟩
  rw [answered_latch, cavernWorked, hlatch q, hx]
  rfl

end CavernWorked

theorem takeSetCavern_accepted {b : Byte} {g : BitVec 24} {f c r rt tol : BitVec 16} {cv : Cavern} {s : State}
    (hlock : s.lockEffective = false) (hb : cavernOf b = some cv)
    (hfit : cavernFieldsFit g.toNat f.toNat c.toNat r.toNat rt.toNat tol.toNat = true) :
    takeSetCavern b g f c r rt tol s = (answered (s.svc.part = .service)
      (cavernWorked cv ⟨g.toNat, f.toNat, c.toNat, r.toNat, rt.toNat, tol.toNat⟩ s) s, some (.bare .done)) := by
  rw [takeSetCavern, hlock, hb, hfit, ← (cavernWorked_work ..).answered_inService]
  rfl

theorem takeSetCavern_refused {b : Byte} {g : BitVec 24} {f c r rt tol : BitVec 16} {s : State}
    (hlock : s.lockEffective = false)
    (h : cavernOf b = none ∨ cavernFieldsFit g.toNat f.toNat c.toNat r.toNat rt.toNat tol.toNat = false) :
    takeSetCavern b g f c r rt tol s = (s, some (.bare .range)) := by
  rw [takeSetCavern, hlock]
  rcases h with hb | hf
  · rw [hb]; rfl
  · rw [hf]; cases cavernOf b <;> rfl

theorem cavernFieldsFit_order {g f c r rt tol : Nat} (h : cavernFieldsFit g f c r rt tol = true) : f < c := by
  simp only [cavernFieldsFit, Bool.and_eq_true, decide_eq_true_eq] at h
  exact h.2

/-- Settles O16: an accepted command answers over the work of `cavernWorked`, with its hand-offs. -/
theorem setCavernEffect : Obligations.SetCavernEffect := by
  intro p s b g f c r rt tol h hlock
  refine ⟨fun hbad => ?refused, fun cv hb hfit => ?accepted⟩
  case refused =>
    exact ⟨_, exec_setCavern p b g f c r rt tol s, command_answersOnly h rfl fun u hu =>
      takeSetCavern_refused ((lockEffective_onlyPort hu).trans hlock) hbad⟩
  case accepted =>
    obtain ⟨u, hu, hpresence, hcommand⟩ :=
      command_taken h (code := 0x02) (take := takeSetCavern b g f c r rt tol) rfl
    have htake := takeSetCavern_accepted ((lockEffective_onlyPort hu).trans hlock) hb hfit
    rw [exec_setCavern, hcommand htake]
    generalize hfields : CavernFields.mk g.toNat f.toNat c.toNat r.toNat rt.toNat tol.toNat = k
    have hwork := cavernWorked_work cv k u
    have hkept := answered_kept (u.svc.part = .service) (cavernWorked cv k u) u
    have hframe := (hwork.answered (u.svc.part = .service)).placed hu (Answer.bare .done).full
    have hbook := hwork.book hkept
    obtain ⟨hcaverns, hstores⟩ := cavernWorked_aside cv k u
    obtain ⟨hrecord, hlatch⟩ := cavernWorked_record cv k u (u.svc.part = .service)
    simp only [hpresence] at hlatch
    obtain ⟨x, rfl⟩ : ∃ x, u = { s with spi := x } := ⟨_, hu.1⟩
    subst hfields
    refine ⟨_, rfl, placeNow_answers p _ _, ⟨hrecord.kept, fun T hT => ?figures, hrecord.massConds, hrecord.rateHold,
      fun v hv hp => ?measured, fun hgood hsuspect => ?unmeasured, hlatch⟩,
      fun hpart => hwork.recheckPosted (by simp [hpart]) hpart, fun d hd => hkept.cavernAside (hcaverns d hd),
      fun st => hkept.storeAside (hstores st), hbook, hframe⟩
    case figures =>
      obtain ⟨l, ⟨hfloor, hceiling⟩, hlimits⟩ := hrecord.limits T hT
      refine ⟨?_, ?_, hrecord.budget T hT, hrecord.estimate T hT⟩
      · exact (congrArg (Option.map Limits.rawFloor) hlimits).trans (congrArg some hfloor)
      · exact (congrArg (Option.map Limits.rawCeiling) hlimits).trans (congrArg some hceiling)
    case measured =>
      obtain ⟨hlow, hhigh⟩ := hrecord.breach v ⟨rfl, hv, hp⟩
      have horder := cavernFieldsFit_order hfit
      refine ⟨hlow, hhigh.trans (decide_eq_decide.2 ⟨fun hn => hn.2, fun hn => ⟨?_, hn⟩⟩)⟩
      exact (horder.trans hn).le
    case unmeasured => exact hrecord.noBreach fun v hv => hv.2.1.elim hgood hsuspect

end Sys2Proof.Machine
end

section
/-! PROOFS. New bands on the raw masses a cavern holds: SET RESERVE BAND and a pin change. -/

namespace Sys2Proof.Machine

/-! ## The bands of a cavern laid anew (R6, R30, R37) -/

/-- The limits that a hardware band, and the software band of a record, lay on raw masses. -/
def bandedLimits (mode : Mode) (hwSide : BandSide) (hwCode : BitVec 3) (r : CavernRec) (l : Limits) : Limits :=
  effectiveLimits l.rawFloor l.rawCeiling
    (sideBand mode (l.rawCeiling - l.rawFloor) .bottom hwSide hwCode r.swSide r.swCode)
    (sideBand mode (l.rawCeiling - l.rawFloor) .top hwSide hwCode r.swSide r.swCode)

/-- The bands of a cavern recomputed, and the two conditions that follow from its limits. -/
def reband (c : Cavern) (s : State) : State := evalMassConds c (recomputeBands c s)

/-- A record on which the bands have been laid anew; a grant may have attached trains since. -/
structure Rebanded (mode : Mode) (hwSide : BandSide) (hwCode : BitVec 3) (r x : CavernRec) : Prop where
  kept : x = { r with
    limits := x.limits, attached := x.attached, inReserve := x.inReserve, atCeiling := x.atCeiling }
  limits : x.limits = if r.configured then r.limits.map (bandedLimits mode hwSide hwCode r) else r.limits
  conds : r.configured = true → ∀ l, x.limits = some l → x.inReserve = decide (x.mass ≤ l.effFloor) ∧
    x.atCeiling = decide (l.effCeiling ≤ x.mass)

namespace Rebanded
variable {mode : Mode} {hwSide : BandSide} {hwCode : BitVec 3} {r x : CavernRec}

theorem attached (h : Rebanded mode hwSide hwCode r x) (ts : List Train) :
    Rebanded mode hwSide hwCode r { x with attached := ts } :=
  { h with kept := by rw [h.kept] }

theorem banded (h : Rebanded mode hwSide hwCode r x) {l : Limits} (hc : r.configured = true)
    (hl : r.limits = some l) : x.limits = some (bandedLimits mode hwSide hwCode r l) := by
  rw [h.limits, hc, hl]; rfl

theorem unbanded (h : Rebanded mode hwSide hwCode r x) (hn : r.configured = false ∨ r.limits = none) :
    x.limits = r.limits := by
  rw [h.limits]
  rcases hn with hc | hl
  · rw [hc]; rfl
  · rw [hl]; cases r.configured <;> rfl

/-- The bands leave the raw masses. -/
theorem raw (h : Rebanded mode hwSide hwCode r x) : x.limits.map Limits.rawFloor = r.limits.map Limits.rawFloor ∧
    x.limits.map Limits.rawCeiling = r.limits.map Limits.rawCeiling := by
  cases hc : r.configured with
  | false => rw [h.unbanded (.inl hc)]; exact ⟨rfl, rfl⟩
  | true =>
    cases hl : r.limits with
    | none => rw [h.unbanded (.inr hl), hl]; exact ⟨rfl, rfl⟩
    | some l =>
      obtain ⟨hfloor, hceiling⟩ := effectiveLimits_raw l.rawFloor l.rawCeiling
        (sideBand mode (l.rawCeiling - l.rawFloor) .bottom hwSide hwCode r.swSide r.swCode)
        (sideBand mode (l.rawCeiling - l.rawFloor) .top hwSide hwCode r.swSide r.swCode)
      rw [h.banded hc hl]
      exact ⟨congrArg some hfloor, congrArg some hceiling⟩

/-- The hand-offs attach trains and change nothing else of it. -/
theorem answered {c : Cavern} {w t : State} (h : Rebanded mode hwSide hwCode r (w.cavern c)) (k : DispatchKept w t) :
    Rebanded mode hwSide hwCode r (t.cavern c) := by
  rw [k.caverns c]
  exact h.attached _

end Rebanded

theorem recomputeBands_cavern (c : Cavern) (s : State) : (recomputeBands c s).cavern c = { s.cavern c with
    limits := if (s.cavern c).configured
      then (s.cavern c).limits.map (bandedLimits s.arith.mode s.ciu.hwSide s.ciu.hwCode (s.cavern c))
      else (s.cavern c).limits } := by
  simp only [recomputeBands, State.modCavern_cavern, if_true]
  split
  next hc hl => rw [hc, hl]; rfl
  next hn =>
    have hlimits : (if (s.cavern c).configured
        then (s.cavern c).limits.map (bandedLimits s.arith.mode s.ciu.hwSide s.ciu.hwCode (s.cavern c))
        else (s.cavern c).limits) = (s.cavern c).limits := by
      cases hc : (s.cavern c).configured with
      | false => rfl
      | true =>
        cases hl : (s.cavern c).limits with
        | none => rfl
        | some l => exact absurd hl (hn l hc)
    rw [hlimits]

theorem reband_cavern (c : Cavern) (s : State) :
    Rebanded s.arith.mode s.ciu.hwSide s.ciu.hwCode (s.cavern c) ((reband c s).cavern c) := by
  have hbands := recomputeBands_cavern c s
  cases hc : (s.cavern c).configured with
  | false =>
    have hconf : ((recomputeBands c s).cavern c).configured = false := by rw [hbands]; exact hc
    have hsame : reband c s = recomputeBands c s := by rw [reband, evalMassConds, hconf]
    rw [hsame, hbands]
    exact ⟨rfl, rfl, fun h => absurd h (by simp [hc])⟩
  | true =>
    obtain ⟨a, b, hconds, hab⟩ := evalMassConds_cavern (s := recomputeBands c s) (by rw [hbands]; exact hc)
    rw [hbands] at hconds hab
    rw [reband, hconds]
    exact ⟨rfl, rfl, fun _ => hab⟩

theorem Recomputes.reband (c : Cavern) (s : State) : Recomputes c s (reband c s) :=
  (recomputeBands c s).trans (evalMassConds c _)

/-! ## SET RESERVE BAND (R28) -/

/-- A record with the software band of SET RESERVE BAND. -/
def CavernRec.withBand (x : CavernRec) (code : BitVec 3) (side : BandSide) : CavernRec :=
  { x with swCode := code, swSide := side }

/-- The own work of an accepted SET RESERVE BAND. -/
def bandWorked (c : Cavern) (code : BitVec 3) (side : BandSide) (s : State) : State :=
  reband c (s.modCavern c (fun r => r.withBand code side))

/-- The software band differs from the one in force, which asks for a recheck. -/
abbrev CavernRec.NewBand (r : CavernRec) (code : BitVec 3) (side : BandSide) : Prop :=
  r.swCode ≠ code ∨ r.swSide ≠ side

theorem takeSetReserveBand_accepted {b k d : Byte} {c : Cavern} {code : BitVec 3} {side : BandSide} {s : State}
    (hlock : s.lockEffective = false) (hb : cavernOf b = some c) (hk : bandCodeOf k = some code)
    (hd : sideOf d = some side) : takeSetReserveBand b k d s =
      (answered ((s.cavern c).NewBand code side) (bandWorked c code side s) s, some (.bare .done)) := by
  rw [takeSetReserveBand, hlock, hb, hk, hd]; rfl

theorem takeSetReserveBand_refused {b k d : Byte} {s : State} (hlock : s.lockEffective = false)
    (h : cavernOf b = none ∨ bandCodeOf k = none ∨ sideOf d = none) :
    takeSetReserveBand b k d s = (s, some (.bare .range)) := by
  rw [takeSetReserveBand, hlock]
  rcases h with hb | hk | hd
  · rw [hb]; rfl
  · rw [hk]; cases cavernOf b <;> rfl
  · rw [hd]; cases cavernOf b <;> cases bandCodeOf k <;> rfl

section BandWorked
variable (c : Cavern) (code : BitVec 3) (side : BandSide) (s : State)

theorem bandWorked_work : UnitWork s (bandWorked c code side s) where
  joins := EventsOnlyJoin.trans (b := s.modCavern c (fun r => r.withBand code side)) (.of_eq rfl)
    (Recomputes.reband c _).joins
  arith := (Recomputes.reband c (s.modCavern c (fun r => r.withBand code side))).arith
  frame := by simp [bandWorked, reband]

theorem bandWorked_aside : (∀ d, d ≠ c → (bandWorked c code side s).cavern d = s.cavern d) ∧
    ∀ st, (bandWorked c code side s).store st = s.store st :=
  ⟨fun d hd => by rw [bandWorked, (Recomputes.reband c _).others d hd, State.modCavern_cavern, if_neg hd],
    fun st => by simp [State.store, bandWorked, reband]⟩

theorem bandWorked_record : Rebanded s.arith.mode s.ciu.hwSide s.ciu.hwCode ((s.cavern c).withBand code side)
    ((bandWorked c code side s).cavern c) := by
  have hrecord := reband_cavern c (s.modCavern c (fun r => r.withBand code side))
  rw [State.modCavern_cavern, if_pos rfl, State.modCavern_arith, State.modCavern_ciu, Ciu.hwSide_set,
    Ciu.hwCode_set] at hrecord
  exact hrecord

end BandWorked

/-- Settles O18: an accepted command answers over the work of `bandWorked`, with its hand-offs. -/
theorem setReserveBandEffect : Obligations.SetReserveBandEffect := by
  intro p s b k d h hlock
  refine ⟨fun hbad => ?refused, fun c code side hb hk hd => ?accepted⟩
  case refused =>
    exact ⟨_, exec_setReserveBand p b k d s, command_answersOnly h rfl fun u hu =>
      takeSetReserveBand_refused ((lockEffective_onlyPort hu).trans hlock) hbad⟩
  case accepted =>
    obtain ⟨u, hu, -, hcommand⟩ :=
      command_taken h (code := 0x0E) (params := [b, k, d]) (take := takeSetReserveBand b k d) rfl
    have htake := takeSetReserveBand_accepted ((lockEffective_onlyPort hu).trans hlock) hb hk hd
    rw [exec_setReserveBand, hcommand htake]
    have hwork := bandWorked_work c code side u
    have hkept := answered_kept ((u.cavern c).NewBand code side) (bandWorked c code side u) u
    have hframe := (hwork.answered ((u.cavern c).NewBand code side)).placed hu (Answer.bare .done).full
    have hbook := hwork.book hkept
    obtain ⟨hcaverns, hstores⟩ := bandWorked_aside c code side u
    have hrecord := (bandWorked_record c code side u).answered hkept
    obtain ⟨x, rfl⟩ : ∃ x, u = { s with spi := x } := ⟨_, hu.1⟩
    exact ⟨_, rfl, placeNow_answers p _ _, ⟨hrecord.kept, fun _ hc hl => hrecord.banded hc hl, hrecord.unbanded,
      hrecord.conds, hrecord.raw⟩, hwork.recheckPosted, fun e he => hkept.cavernAside (hcaverns e he),
      fun st => hkept.storeAside (hstores st), hbook, hframe⟩

/-! ## The hardware band in force (R29) -/

/-- The hardware code and side in force. -/
def State.hwBand (s : State) : BitVec 3 × BandSide := (s.ciu.hwCode, s.ciu.hwSide)

theorem changeCond_hwBand (c : Cavern) (k : CavernCond) (v : Bool) (s : State) :
    (changeCond c k v s).hwBand = s.hwBand := by
  rw [changeCond]
  split
  · rfl
  · simp [State.hwBand, State.modCavern_ciu]

theorem reband_hwBand (c : Cavern) (s : State) : (reband c s).hwBand = s.hwBand := by
  have hbands : (recomputeBands c s).hwBand = s.hwBand := by simp [State.hwBand, recomputeBands, State.modCavern_ciu]
  simp only [reband, evalMassConds]
  split
  · rw [changeCond_hwBand, changeCond_hwBand, hbands]
  · exact hbands

theorem grantQueued_hwBand (t : Train) (a : Attachment) (s : State) : (grantQueued t a s).hwBand = s.hwBand := by
  simp [State.hwBand, grantQueued, attachTrain, attachCavern, State.modCavern_ciu]

/-- No hand-off of an event writes the band. -/
theorem handOn_hwBand (before : State) (atBoundary always : Bool) (s : State) :
    (handOn before atBoundary always s).hwBand = s.hwBand := by
  have hentry (u : State) (t : Train) : (examineEntry u t).hwBand = u.hwBand := by
    simp only [examineEntry]
    repeat' split
    · exact grantQueued_hwBand ..
    · rfl
    · rfl
  have hexamine (asked : Bool) (u : State) : (examineIf asked u).hwBand = u.hwBand := by
    rw [examineIf]
    split
    · exact foldl_keeps State.hwBand examineEntry hentry _ u
    · rfl
  have hrespond (u : State) : (respond before atBoundary u).hwBand = u.hwBand := by simp [State.hwBand]
  have hchange (x : Bool) (u : State) : (inventoryChangeIf x u).hwBand = u.hwBand := by simp [State.hwBand]
  rw [handOn, hchange, hexamine, hrespond, hexamine]

/-! ## A pin change (R29, R30) -/

/-- The part with a hardware band in force. -/
def withHwBand (code : BitVec 3) (side : BandSide) (s : State) : State :=
  { s with ciu := { s.ciu with hwCode := code, hwSide := side } }

/-- The own work of a pin change, before the hand-offs. -/
def pinWorked (code : BitVec 3) (side : BandSide) (s : State) : State :=
  reband .cv2 (reband .cv1 (withHwBand code side s))

theorem takePinChange_eq (code : BitVec 3) (side : BandSide) (s : State) :
    takePinChange code side s = answered True (pinWorked code side s) s := rfl

section PinChange
variable (code : BitVec 3) (side : BandSide) (s : State)

theorem pinWorked_work : UnitWork s (pinWorked code side s) where
  joins := EventsOnlyJoin.trans (b := withHwBand code side s) (.of_eq rfl)
    ((Recomputes.reband .cv1 _).joins.trans (Recomputes.reband .cv2 _).joins)
  arith := (Recomputes.reband .cv1 (withHwBand code side s)).arith.trans (Recomputes.reband .cv2 _).arith
  frame := by simp [pinWorked, reband, withHwBand]

theorem pinWorked_store (st : Store) : (pinWorked code side s).store st = s.store st := by
  simp [State.store, pinWorked, reband, withHwBand]

/-- Each cavern's bands are those of the new hardware band. -/
theorem pinWorked_record (c : Cavern) :
    Rebanded s.arith.mode side code (s.cavern c) ((pinWorked code side s).cavern c) := by
  cases c with
  | cv1 =>
    rw [pinWorked, (Recomputes.reband .cv2 _).others .cv1 (by decide)]
    exact reband_cavern .cv1 (withHwBand code side s)
  | cv2 =>
    have h := reband_cavern .cv2 (reband .cv1 (withHwBand code side s))
    obtain ⟨hcode, hside⟩ := Prod.mk.inj (reband_hwBand .cv1 (withHwBand code side s))
    rw [hcode, hside, (Recomputes.reband .cv1 _).arith, (Recomputes.reband .cv1 _).others .cv2 (by decide)] at h
    exact h

theorem takePinChange_hwBand : (takePinChange code side s).hwBand = (code, side) := by
  have hpost (u : State) : (postRecheck u).hwBand = u.hwBand := by simp [State.hwBand]
  rw [takePinChange_eq, answered, if_pos trivial, hpost, handOn_hwBand, pinWorked, reband_hwBand, reband_hwBand]
  rfl

end PinChange

/-- The levels that a pin change shows. -/
def withBandPins (code : BitVec 3) (tb : Bool) (s : State) : State :=
  { s with pins := { s.pins with rsv := code, rsvtb := tb } }

theorem exec_pinChange_same {code : BitVec 3} {tb : Bool} {s : State} (hreset : s.pins.resetLow = false)
    (h : s.ciu.hwCode = code ∧ s.ciu.hwSide = sideOfPin tb) :
    exec (.pinChange code tb) s = .next (withBandPins code tb s) := by
  rw [exec_pinChange, live, if_neg (by simp [hreset]), if_pos h]; rfl

theorem exec_pinChange_new {code : BitVec 3} {tb : Bool} {s : State} (hreset : s.pins.resetLow = false)
    (h : ¬(s.ciu.hwCode = code ∧ s.ciu.hwSide = sideOfPin tb)) :
    exec (.pinChange code tb) s = .next (takePinChange code (sideOfPin tb) (withBandPins code tb s)) := by
  rw [exec_pinChange, live, if_neg (by simp [hreset]), if_neg h]; rfl

/-- Settles O38: a sample of the band in force only shows at the pins, and another one is a pin change of the part that
shows it. -/
theorem bandAndLockPins : Obligations.BandAndLockPins := by
  intro s code tb hreset
  refine ⟨?sample, fun high => exec_envlockChange high s⟩
  by_cases h : s.ciu.hwCode = code ∧ s.ciu.hwSide = sideOfPin tb
  · have hnew : ¬(s.ciu.hwCode ≠ code ∨ s.ciu.hwSide ≠ sideOfPin tb) := fun hn => hn.elim (· h.1) (· h.2)
    exact ⟨_, exec_pinChange_same hreset h, h.1, h.2, rfl, fun _ => rfl, ⟨rfl, fun _ => rfl⟩, fun _ => rfl,
      ⟨rfl, .inl rfl⟩, .of_eq rfl, rfl, fun c => ⟨rfl, fun _ _ _ hn => absurd hn hnew, rfl, rfl⟩,
      fun _ hn => absurd hn hnew, fun _ _ => rfl⟩
  · obtain ⟨hcode, hside⟩ := Prod.mk.inj (takePinChange_hwBand code (sideOfPin tb) (withBandPins code tb s))
    have harith := (takePinChange_frame code (sideOfPin tb) (withBandPins code tb s)).2.2.2.2.1
    rw [exec_pinChange_new hreset h]
    rw [takePinChange_eq] at hcode hside harith ⊢
    have hwork := pinWorked_work code (sideOfPin tb) (withBandPins code tb s)
    have hkept := answered_kept True (pinWorked code (sideOfPin tb) (withBandPins code tb s)) (withBandPins code tb s)
    have hevent := hwork.answered True
    have hrecord (c : Cavern) := (pinWorked_record code (sideOfPin tb) (withBandPins code tb s) c).answered hkept
    obtain ⟨hpins, -⟩ := hevent.frame
    refine ⟨_, rfl, hcode, hside, hpins, fun st => hkept.storeAside (pinWorked_store ..), hwork.book hkept,
      hevent.trains, hevent.engine, hevent.joins, ?frame,
      fun c => ⟨(hrecord c).kept, fun l hc hl _ => ?banded, (hrecord c).raw⟩,
      fun hpart _ => hwork.recheckPosted hpart trivial, fun e e' => absurd ⟨e, e'⟩ h⟩
    case frame =>
      have hstate := hevent.state_eq
      rw [harith] at hstate
      exact hstate.trans (by rw [hpins]; rfl)
    case banded => exact ⟨(hrecord c).banded hc hl, (hrecord c).conds hc _ ((hrecord c).banded hc hl)⟩

end Sys2Proof.Machine
end

section
/-! PROOFS. LOAD INVENTORY of a cavern and of a store. -/

namespace Sys2Proof.Machine

/-! ## The emptied settlement ring (R88) -/

theorem PlantEvent.emptyRing {s t : State} (h : PlantEvent s t) : PlantEvent s (emptyRing t) :=
  ⟨h.joins, h.trains, h.engine, h.arith, h.frame⟩

theorem BookKept.emptyRing {s t : State} (h : BookKept s t) :
    (emptyRing t).sbk = { s.sbk with slots := (emptyRing t).sbk.slots, ring := [] } ∧ SlotsKept s (emptyRing t) := by
  have hring : (Machine.emptyRing t).sbk = { t.sbk with ring := [] } := rfl
  exact ⟨by rw [hring, h.1], h.2⟩

/-- What an accepted load leaves of the part, over the own work of its unit. -/
def loaded (w s : State) : State := emptyRing (handOn s false true w)

theorem loaded_kept (w s : State) : DispatchKept w (handOn s false true w) := handOn_kept s false true w

/-- A load beside the account it sets: its frame, the one increment of the generation number, and the book. -/
theorem UnitWork.loaded {s w : State} (h : UnitWork s w) : PlantEvent s (loaded w s) ∧
    (loaded w s).pen.generation = s.pen.generation + 1 ∧
    (loaded w s).sbk = { s.sbk with slots := (loaded w s).sbk.slots, ring := [] } ∧ SlotsKept s (loaded w s) := by
  obtain ⟨-, -, -, -, -, -, hpen, -⟩ := h.frame
  refine ⟨(h.handedOn s false true).emptyRing, ?_, (h.book (loaded_kept w s)).emptyRing⟩
  rw [← hpen]
  exact handOn_always_generation s w false

/-! ## A load of a cavern (R33, R43) -/

/-- A cavern that a load may address: known, not locked, out of SERVICE, configured, with no train attached. -/
structure CavernOpen (b : Byte) (c : Cavern) (s : State) : Prop where
  number : cavernOf b = some c
  unlocked : s.lockEffective = false
  part : s.svc.part ≠ .service
  configured : (s.cavern c).configured = true
  unattached : (s.cavern c).attached = []

theorem takeLoadCavern_unknown {b : Byte} (hb : cavernOf b = none) (m : Byte) (a : BitVec 32) (s : State) :
    takeLoadCavern b m a s = (s, some (.bare .range)) := by rw [takeLoadCavern, hb]; rfl

theorem takeLoadCavern_closed {b : Byte} {c : Cavern} {s : State} (hb : cavernOf b = some c)
    (hlock : s.lockEffective = false)
    (h : s.svc.part = .service ∨ (s.cavern c).configured = false ∨ (s.cavern c).attached ≠ []) (m : Byte)
    (a : BitVec 32) : takeLoadCavern b m a s = (s, some (.bare .state)) := by
  simp only [takeLoadCavern, hb, hlock, Bool.false_eq_true, if_false]
  by_cases hpart : s.svc.part = .service
  · rw [if_pos hpart]; rfl
  · rw [if_neg hpart, if_pos (h.resolve_left hpart)]; rfl

namespace CavernOpen
variable {b : Byte} {c : Cavern} {s : State}

theorem not_closed (h : CavernOpen b c s) : ¬((s.cavern c).configured = false ∨ (s.cavern c).attached ≠ []) := by
  simp [h.configured, h.unattached]

theorem range (h : CavernOpen b c s) {m : Byte} {a : BitVec 32}
    (hm : (m ≠ 1 ∧ m ≠ 2) ∨ (m = 1 ∧ 100000000 < a.toNat)) :
    takeLoadCavern b m a s = (s, some (.bare .range)) := by
  simp only [takeLoadCavern, h.number, h.unlocked, Bool.false_eq_true, if_false, if_neg h.part, if_neg h.not_closed]
  rcases hm with ⟨h1, h2⟩ | ⟨h1, ha⟩
  · rw [if_neg h1, if_neg h2]; rfl
  · have hrange : ¬a.toNat ≤ Config.massTop := not_le.2 ha
    rw [if_pos h1, if_neg hrange]; rfl

theorem given (h : CavernOpen b c s) {a : BitVec 32} (ha : a.toNat ≤ 100000000) :
    takeLoadCavern b 1 a s = doLoadCavern c ⟨a.toNat, none⟩ s := by
  have hrange : a.toNat ≤ Config.massTop := ha
  simp only [takeLoadCavern, h.number, h.unlocked, Bool.false_eq_true, if_false, if_neg h.part, if_neg h.not_closed,
    if_true, if_pos hrange]

/-- FROM_MEASURED converts two GOOD copies. -/
theorem measured (h : CavernOpen b c s) (a : BitVec 32) {v T : Nat} (hpv : (s.cavern c).pressureV = .good)
    (htv : (s.cavern c).tempV = .good) (hp : (s.cavern c).pressure = some v) (ht : (s.cavern c).temp = some T) :
    takeLoadCavern b 2 a s = doLoadCavern c (massAtPressure .nearest v (s.cavern c).gain T) s := by
  have hmethod : ¬(2 : Byte) = 1 := by decide
  simp only [takeLoadCavern, h.number, h.unlocked, Bool.false_eq_true, if_false, if_neg h.part, if_neg h.not_closed,
    if_neg hmethod, if_true, hpv, htv, hp, ht]

theorem unmeasured (h : CavernOpen b c s) (a : BitVec 32)
    (hv : (s.cavern c).pressureV ≠ .good ∨ (s.cavern c).tempV ≠ .good) :
    takeLoadCavern b 2 a s = (s, some (.bare .state)) := by
  have hmethod : ¬(2 : Byte) = 1 := by decide
  simp only [takeLoadCavern, h.number, h.unlocked, Bool.false_eq_true, if_false, if_neg h.part, if_neg h.not_closed,
    if_neg hmethod, if_true]
  split
  next hpv htv _ _ => exact absurd hv (by simp [hpv, htv])
  next => rfl

end CavernOpen

theorem recomputeEstimate_kept (c : Cavern) (s : State) : ∃ e k,
    (recomputeEstimate c s).cavern c = { s.cavern c with estimate := e, keptEstimate := k } := by
  simp only [recomputeEstimate]
  repeat' split
  · exact ⟨_, true, by simp only [raise_cavern, State.modCavern_cavern, if_true]; rfl⟩
  · exact ⟨_, false, by simp only [raise_cavern, State.modCavern_cavern, if_true]; rfl⟩
  · exact ⟨_, _, rfl⟩

section CavernLoaded
variable (c : Cavern) (mass : Nat) (exc : Option ExcCode) (s : State)

/-- A record with the account of a load. -/
def CavernRec.withAccount (x : CavernRec) (mass : Nat) : CavernRec :=
  { x with mass := mass, loaded := mass, filled := 0, withdrawn := 0, reconciled := 0, quality := .tracked }

/-- The part with that account, once an exception of its mass is raised. -/
def accountSet : State := raise exc .bounds (.cavern c) (s.modCavern c (fun r => r.withAccount mass))

theorem loadCavern_eq : loadCavern c mass exc s = evalMassConds c (recomputeEstimate c (accountSet c mass exc s)) := rfl

theorem accountSet_cavern (d : Cavern) : (accountSet c mass exc s).cavern d =
    if d = c then (s.cavern c).withAccount mass else s.cavern d := by
  rw [accountSet, raise_cavern, State.modCavern_cavern]

theorem loadCavern_recomputes : Recomputes c (s.modCavern c (fun r => r.withAccount mass)) (loadCavern c mass exc s) :=
  ((Recomputes.raise c exc .bounds (.cavern c) _).trans (.recomputeEstimate c _)).trans (.evalMassConds c _)

theorem loadCavern_work : UnitWork s (loadCavern c mass exc s) where
  joins := EventsOnlyJoin.trans (b := s.modCavern c (fun r => r.withAccount mass)) (.of_eq rfl)
    (loadCavern_recomputes c mass exc s).joins
  arith := (loadCavern_recomputes c mass exc s).arith
  frame := by simp [loadCavern]

theorem loadCavern_aside : (∀ d, d ≠ c → (loadCavern c mass exc s).cavern d = s.cavern d) ∧
    ∀ st, (loadCavern c mass exc s).store st = s.store st :=
  ⟨fun d hd => by rw [(loadCavern_recomputes c mass exc s).others d hd, State.modCavern_cavern, if_neg hd],
    fun st => by simp [State.store, loadCavern]⟩

/-- The account of a loaded cavern, with its estimate and the conditions that follow. -/
theorem cavernLoaded_record (hc : (s.cavern c).configured = true) :
    let r := s.cavern c
    let y := (loaded (loadCavern c mass exc s) s).cavern c
    y = { r.withAccount mass with
      estimate := y.estimate, keptEstimate := y.keptEstimate, attached := y.attached, inReserve := y.inReserve
      atCeiling := y.atCeiling } ∧
    (∀ T, r.lastTemp = some T → y.estimate = some (pressureEstimate mass r.gain T).val) ∧
    ∀ l, r.limits = some l → y.inReserve = decide (mass ≤ l.effFloor) ∧
      y.atCeiling = decide (l.effCeiling ≤ mass) := by
  intro r y
  have haccount : (accountSet c mass exc s).cavern c = r.withAccount mass := by rw [accountSet_cavern, if_pos rfl]
  obtain ⟨e, k, hestimate⟩ := recomputeEstimate_kept c (accountSet c mass exc s)
  rw [haccount] at hestimate
  obtain ⟨a, b, hconds, hab⟩ := evalMassConds_cavern (c := c) (s := recomputeEstimate c (accountSet c mass exc s))
    (by rw [hestimate]; exact hc)
  rw [← loadCavern_eq] at hconds
  rw [hestimate] at hconds hab
  have hy : y = { (loadCavern c mass exc s).cavern c with attached := y.attached } :=
    (loaded_kept (loadCavern c mass exc s) s).caverns c
  rw [hconds] at hy
  rw [hy]
  refine ⟨rfl, fun T hT => ?_, hab⟩
  have hat : ConvertsAt c T (accountSet c mass exc s).arith.mode (accountSet c mass exc s) :=
    ⟨by rw [haccount]; exact hc, by rw [selectTemp, haccount, show (r.withAccount mass).lastTemp = _ from hT], rfl⟩
  have hvalue := recomputeEstimate_cavern hat
  rw [hestimate, haccount] at hvalue
  exact congrArg CavernRec.estimate hvalue

end CavernLoaded

/-! ## A load of a store (R66, R68) -/

/-- A store that a load may address: known, out of SERVICE, configured and IDLE. -/
structure StoreOpen (b : Byte) (st : Store) (s : State) : Prop where
  number : storeOf b = some st
  part : s.svc.part ≠ .service
  configured : (s.store st).configured = true
  idle : (s.store st).flow = .idle

theorem takeLoadStore_unknown {b : Byte} (hb : storeOf b = none) (m : Byte) (a : BitVec 32) (x : BitVec 16)
    (s : State) : takeLoadStore b m a x s = (s, some (.bare .range)) := by rw [takeLoadStore, hb]; rfl

theorem takeLoadStore_closed {b : Byte} {st : Store} {s : State} (hb : storeOf b = some st)
    (h : s.svc.part = .service ∨ (s.store st).configured = false ∨ (s.store st).flow ≠ .idle) (m : Byte)
    (a : BitVec 32) (x : BitVec 16) : takeLoadStore b m a x s = (s, some (.bare .state)) := by
  simp only [takeLoadStore, hb]
  by_cases hpart : s.svc.part = .service
  · rw [if_pos hpart]; rfl
  · rw [if_neg hpart, if_pos (h.resolve_left hpart)]; rfl

namespace StoreOpen
variable {b : Byte} {st : Store} {s : State}

/-- What is left to ask of an open store is the method and its parcel. -/
theorem take_eq (h : StoreOpen b st s) (m : Byte) (a : BitVec 32) (x : BitVec 16) : takeLoadStore b m a x s =
    if m = 1 then doLoadStore st [] s
    else if m = 2 then
      if within 1 (s.store st).capacity a.toNat && within (s.store st).tBase Config.temperatureTop x.toNat then
        doLoadStore st [⟨a.toNat, some x.toNat, false, none, s.sbk.current⟩] s
      else refuse .range s
    else refuse .range s := by
  have hclosed : ¬((s.store st).configured = false ∨ (s.store st).flow ≠ .idle) := by simp [h.configured, h.idle]
  simp only [takeLoadStore, h.number, if_neg h.part, if_neg hclosed]

theorem parcel_fits {lo cap a x : Nat} : (within 1 cap a && within lo Config.temperatureTop x) = true ↔
    1 ≤ a ∧ a ≤ cap ∧ lo ≤ x ∧ x ≤ 9000 := by
  simp only [within, Bool.and_eq_true, decide_eq_true_eq, and_assoc]
  rfl

theorem range (h : StoreOpen b st s) {m : Byte} {a : BitVec 32} {x : BitVec 16}
    (hm : (m ≠ 1 ∧ m ≠ 2) ∨ (m = 2 ∧ (a.toNat < 1 ∨ (s.store st).capacity < a.toNat ∨ x.toNat < (s.store st).tBase ∨
      9000 < x.toNat))) : takeLoadStore b m a x s = (s, some (.bare .range)) := by
  rw [h.take_eq]
  rcases hm with ⟨h1, h2⟩ | ⟨rfl, hfit⟩
  · rw [if_neg h1, if_neg h2]; rfl
  · rw [if_neg (by decide), if_pos rfl, if_neg fun hn => ?_]
    · rfl
    · obtain ⟨h1, h2, h3, h4⟩ := parcel_fits.1 hn
      omega

/-- EMPTY leaves no parcel and PARCEL one of a KNOWN temperature. -/
theorem accepted (h : StoreOpen b st s) {m : Byte} {a : BitVec 32} {x : BitVec 16} {stack : List Parcel}
    (hm : (m = 1 ∧ stack = []) ∨ (m = 2 ∧ 1 ≤ a.toNat ∧ a.toNat ≤ (s.store st).capacity ∧
      (s.store st).tBase ≤ x.toNat ∧ x.toNat ≤ 9000 ∧
      stack = [⟨a.toNat, some x.toNat, false, none, s.sbk.current⟩])) :
    takeLoadStore b m a x s = doLoadStore st stack s ∧ ∀ tUse, (reachableRun tUse stack).2 = false := by
  rw [h.take_eq]
  rcases hm with ⟨rfl, rfl⟩ | ⟨rfl, h1, h2, h3, h4, rfl⟩
  · exact ⟨if_pos rfl, fun _ => rfl⟩
  · rw [if_neg (by decide), if_pos rfl, if_pos (parcel_fits.2 ⟨h1, h2, h3, h4⟩)]
    refine ⟨rfl, fun tUse => ?_⟩
    simp only [reachableRun]
    split <;> rfl

end StoreOpen

/-- The FULL release test writes FULL of its store only. -/
theorem releaseFull_store (st d : Store) (s : State) : ∃ full, (releaseFull st s).store d =
    if d = st then { s.store st with full := full } else s.store d := by
  have hkeep : s.store d = if d = st then { s.store st with full := (s.store st).full } else s.store d := by
    split <;> simp [*]
  simp only [releaseFull]
  split
  · exact ⟨false, by simp [State.store, State.modStore]⟩
  · exact ⟨_, hkeep⟩

theorem releaseFull_joins (st : Store) (s : State) : EventsOnlyJoin s (releaseFull st s) := by
  simp only [releaseFull]
  split
  · exact (EventsOnlyJoin.of_eq rfl : EventsOnlyJoin s (s.modStore st (fun r => { r with full := false }))).trans
      (emit_joins _ _ _ _ _ _)
  · exact .of_eq rfl

/-- A run that meets no UNKNOWN parcel gives its heat, whatever the trap (R56). -/
theorem evalReachable_known {st : Store} {s : State}
    (h : (reachableRun (s.store st).tUse (s.store st).stack).2 = false) : evalReachable st s =
    s.modStore st (fun r => { r with reachable := (reachableRun (s.store st).tUse (s.store st).stack).1 }) := by
  simp [evalReachable, h]

section StoreLoaded
variable (st : Store) (stack : List Parcel) (s : State)

/-- A record with the account of a load. -/
def StoreRec.withAccount (x : StoreRec) (stack : List Parcel) : StoreRec :=
  { x with
    stack := stack, deposited := (heatOf stack : Int), drawn := 0, writtenOff := 0, reconciled := 0
    loadedFlag := true, quality := .tracked }

theorem loadStore_eq : loadStore st stack s =
    releaseFull st (evalReachable st (s.modStore st (fun r => r.withAccount stack))) := rfl

theorem loadStore_work : UnitWork s (loadStore st stack s) where
  joins := by
    have h := FiguresKept.evalReachable st (s.modStore st (fun r => r.withAccount stack))
    exact EventsOnlyJoin.trans (b := s.modStore st (fun r => r.withAccount stack)) (.of_eq rfl)
      (h.joins.trans (releaseFull_joins st _))
  arith := by
    have h := FiguresKept.evalReachable st (s.modStore st (fun r => r.withAccount stack))
    rw [ArithKept, loadStore_eq, (releaseFull_frame st _).2.2.2.2.2.2.2.1]
    exact h.arith
  frame := by simp [loadStore]

/-- The account of a loaded store, with the reachable heat of its stack. -/
theorem loadStore_store (h : (reachableRun (s.store st).tUse stack).2 = false) (d : Store) :
    ∃ full, (loadStore st stack s).store d = if d = st then { (s.store st).withAccount stack with
      reachable := (reachableRun (s.store st).tUse stack).1, full := full } else s.store d := by
  obtain ⟨full, hfull⟩ :=
    releaseFull_store st d (evalReachable st (s.modStore st (fun r => r.withAccount stack)))
  have hrecord : (s.modStore st (fun r => r.withAccount stack)).store st = (s.store st).withAccount stack := by simp
  have hreach := evalReachable_known (s := s.modStore st (fun r => r.withAccount stack)) (by rw [hrecord]; exact h)
  rw [hrecord] at hreach
  refine ⟨full, ?_⟩
  rw [loadStore_eq, hfull, hreach]
  by_cases hd : d = st
  · simp only [if_pos hd, State.modStore_store, if_true]; rfl
  · simp only [if_neg hd, State.modStore_store]

theorem storeLoaded_record (h : (reachableRun (s.store st).tUse stack).2 = false) :
    let y := (loaded (loadStore st stack s) s).store st
    y = { (s.store st).withAccount stack with
      reachable := (reachableRun (s.store st).tUse stack).1, full := y.full, charging := y.charging
      drawing := y.drawing } := by
  intro y
  obtain ⟨full, hrecord⟩ := loadStore_store st stack s h st
  rw [if_pos rfl] at hrecord
  have hy : y = { (loadStore st stack s).store st with charging := y.charging, drawing := y.drawing } :=
    (loaded_kept (loadStore st stack s) s).stores st
  rw [hrecord] at hy
  exact hy.trans (by rw [hy])

theorem loadStore_aside (h : (reachableRun (s.store st).tUse stack).2 = false) :
    (∀ d, d ≠ st → (loadStore st stack s).store d = s.store d) ∧
      ∀ c, (loadStore st stack s).cavern c = s.cavern c := by
  refine ⟨fun d hd => ?_, fun c => by simp [State.cavern, loadStore]⟩
  obtain ⟨full, hrecord⟩ := loadStore_store st stack s h d
  rw [hrecord, if_neg hd]

end StoreLoaded

/-! ## LOAD INVENTORY -/

/-- An accepted load of a cavern, whichever way its mass was found. -/
theorem loadCavern_answered {p : Port} {s : State} (h : Ready p s) {b m : Byte} {a : BitVec 32} (x : BitVec 16)
    {c : Cavern} {f : Figure} {mass : Nat} (hf : f.val = mass)
    (hc : (s.cavern c).configured = true)
    (htake : ∀ u, OnlyPort p s u → takeLoadCavern b m a u = doLoadCavern c f u) :
    ∃ t, exec (.loadInventoryCavern p b m a x) s = .next t ∧ Answers p (.done (putBE 4 mass)) t ∧
      (let y := t.cavern c
       y = { (s.cavern c).withAccount mass with
         estimate := y.estimate, keptEstimate := y.keptEstimate, attached := y.attached, inReserve := y.inReserve
         atCeiling := y.atCeiling } ∧
       (∀ T, (s.cavern c).lastTemp = some T →
         y.estimate = some (pressureEstimate mass (s.cavern c).gain T).val) ∧
       ∀ l, (s.cavern c).limits = some l → y.inReserve = decide (mass ≤ l.effFloor) ∧
         y.atCeiling = decide (l.effCeiling ≤ mass)) ∧
      (∀ d, d ≠ c → CavernKept d s t) ∧ (∀ st, StoreKept st s t) ∧ t.pen.generation = s.pen.generation + 1 ∧
      t.sbk = { s.sbk with slots := t.sbk.slots, ring := [] } ∧ SlotsKept s t ∧ PlantFrame p s t := by
  subst hf
  obtain ⟨u, hu, -, hcommand⟩ := command_taken h (code := 0x09) (take := takeLoadCavern b m a) rfl
  obtain ⟨hevent, hgeneration, hring, hslots⟩ := (loadCavern_work c f.val f.exc u).loaded
  have hkept := loaded_kept (loadCavern c f.val f.exc u) u
  obtain ⟨hcaverns, hstores⟩ := loadCavern_aside c f.val f.exc u
  have hrecord := cavernLoaded_record c f.val f.exc u
  have hframe := hevent.placed hu (Answer.done (putBE 4 f.val)).full
  have htaken : takeLoadCavern b m a u =
      (loaded (loadCavern c f.val f.exc u) u, some (.done (putBE 4 f.val))) := htake u hu
  obtain ⟨spi, rfl⟩ : ∃ spi, u = { s with spi := spi } := ⟨_, hu.1⟩
  rw [exec_loadInventoryCavern, hcommand htaken]
  exact ⟨_, rfl, placeNow_answers p _ _, hrecord hc,
    fun d hd => hkept.cavernAside (hcaverns d hd), fun st => hkept.storeAside (hstores st), hgeneration, hring, hslots, hframe⟩

/-- An accepted load of a store. -/
theorem loadStore_answered {p : Port} {s : State} (h : Ready p s) {b m : Byte} {a : BitVec 32} {x : BitVec 16}
    {st : Store} (stack : List Parcel) (hrun : (reachableRun (s.store st).tUse stack).2 = false)
    (htake : ∀ u, OnlyPort p s u → takeLoadStore b m a x u = doLoadStore st stack u) :
    ∃ t, exec (.loadInventoryStore p b m a x) s = .next t ∧ Answers p (.done (putBE 4 (heatOf stack))) t ∧
      (let y := t.store st
       y = { (s.store st).withAccount stack with
         reachable := (reachableRun (s.store st).tUse stack).1, full := y.full, charging := y.charging
         drawing := y.drawing }) ∧
      (∀ d, d ≠ st → StoreKept d s t) ∧ (∀ c, CavernKept c s t) ∧ t.pen.generation = s.pen.generation + 1 ∧
      t.sbk = { s.sbk with slots := t.sbk.slots, ring := [] } ∧ SlotsKept s t ∧ PlantFrame p s t := by
  obtain ⟨u, hu, -, hcommand⟩ := command_taken h (code := 0x09) (take := takeLoadStore b m a x) rfl
  obtain ⟨hevent, hgeneration, hring, hslots⟩ := (loadStore_work st stack u).loaded
  have hkept := loaded_kept (loadStore st stack u) u
  have haside := loadStore_aside st stack u
  have hrecord := storeLoaded_record st stack u
  have hframe := hevent.placed hu (Answer.done (putBE 4 (heatOf stack))).full
  have htaken : takeLoadStore b m a x u =
      (loaded (loadStore st stack u) u, some (.done (putBE 4 (heatOf stack)))) := htake u hu
  obtain ⟨spi, rfl⟩ : ∃ spi, u = { s with spi := spi } := ⟨_, hu.1⟩
  rw [exec_loadInventoryStore, hcommand htaken]
  obtain ⟨hstores, hcaverns⟩ := haside hrun
  exact ⟨_, rfl, placeNow_answers p _ _, hrecord hrun, fun d hd => hkept.storeAside (hstores d hd),
    fun c => hkept.cavernAside (hcaverns c), hgeneration, hring, hslots, hframe⟩

theorem CavernOpen.onlyPort {b : Byte} {c : Cavern} {p : Port} {s u : State} (hu : OnlyPort p s u)
    (h : CavernOpen b c s) : CavernOpen b c u := by
  rw [hu.1]; exact ⟨h.number, h.unlocked, h.part, h.configured, h.unattached⟩

theorem StoreOpen.onlyPort {b : Byte} {st : Store} {p : Port} {s u : State} (hu : OnlyPort p s u)
    (h : StoreOpen b st s) : StoreOpen b st u := by
  rw [hu.1]; exact ⟨h.number, h.part, h.configured, h.idle⟩

/-- Settles O19: each refusal is read off the checks in their order, and an accepted load answers over `loaded` of the
part as the block finds it. -/
theorem loadsSetAccounts : Obligations.LoadsSetAccounts := by
  intro p s b m a x h
  have cavernRefused {code : ResultCode}
      (ht : ∀ u, OnlyPort p s u → takeLoadCavern b m a u = (u, some (.bare code))) :
      AnswersOnly (.loadInventoryCavern p b m a x) p (.bare code) s :=
    ⟨_, exec_loadInventoryCavern p b m a x s, command_answersOnly h rfl ht⟩
  have storeRefused {code : ResultCode}
      (ht : ∀ u, OnlyPort p s u → takeLoadStore b m a x u = (u, some (.bare code))) :
      AnswersOnly (.loadInventoryStore p b m a x) p (.bare code) s :=
    ⟨_, exec_loadInventoryStore p b m a x s, command_answersOnly h rfl ht⟩
  have cavernSame (u : State) (hu : OnlyPort p s u) (c : Cavern) : u.cavern c = s.cavern c := by rw [hu.1]; rfl
  have storeSame (u : State) (hu : OnlyPort p s u) (st : Store) : u.store st = s.store st := by rw [hu.1]; rfl
  have partSame (u : State) (hu : OnlyPort p s u) : u.svc = s.svc ∧ u.sbk = s.sbk := by rw [hu.1]; exact ⟨rfl, rfl⟩
  refine ⟨fun hb => cavernRefused fun u _ => takeLoadCavern_unknown hb m a u,
    fun hb => storeRefused fun u _ => takeLoadStore_unknown hb m a x u, fun c hb hlock => ⟨fun hclosed => ?cavernClosed,
      fun hpart hconf hfree => ?cavernOpen⟩, fun st hb => ⟨fun hclosed => ?storeClosed, fun hpart hconf hidle => ?storeOpen⟩⟩
  case cavernClosed =>
    refine cavernRefused fun u hu => takeLoadCavern_closed hb ((lockEffective_onlyPort hu).trans hlock) ?_ m a
    rw [cavernSame u hu, (partSame u hu).1]; exact hclosed
  case cavernOpen =>
    have hopen (u : State) (hu : OnlyPort p s u) : CavernOpen b c u :=
      .onlyPort hu ⟨hb, hlock, hpart, hconf, hfree⟩
    refine ⟨fun hm => cavernRefused fun u hu => (hopen u hu).range hm, fun hm hv => ?_, fun mass hmass => ?_⟩
    · subst hm
      refine cavernRefused fun u hu => (hopen u hu).unmeasured a ?_
      rw [cavernSame u hu]; exact hv
    · rcases hmass with ⟨rfl, ha, rfl⟩ | ⟨rfl, hpv, htv, v, T, hp, ht, hmass⟩
      · exact loadCavern_answered h x (f := ⟨a.toNat, none⟩) rfl hconf fun u hu => (hopen u hu).given ha
      · refine loadCavern_answered h x hmass.symm hconf fun u hu => ?_
        rw [← cavernSame u hu] at hpv htv hp ht ⊢
        exact (hopen u hu).measured a hpv htv hp ht
  case storeClosed =>
    refine storeRefused fun u hu => takeLoadStore_closed hb ?_ m a x
    rw [storeSame u hu, (partSame u hu).1]; exact hclosed
  case storeOpen =>
    have hopen (u : State) (hu : OnlyPort p s u) : StoreOpen b st u := .onlyPort hu ⟨hb, hpart, hconf, hidle⟩
    refine ⟨fun hm => storeRefused fun u hu => (hopen u hu).range ?_, fun stack hm => ?_⟩
    · rw [storeSame u hu]; exact hm
    · have hknown := ((hopen s ⟨rfl, fun _ _ => rfl⟩).accepted hm).2
      refine loadStore_answered h stack (hknown _) fun u hu => ((hopen u hu).accepted ?_).1
      rw [storeSame u hu, (partSame u hu).2]; exact hm

end Sys2Proof.Machine
end

section
/-! PROOFS. A draw from a stack of parcels. -/

namespace Sys2Proof.Machine

/-! ## A draw, parcel by parcel (R56, R57, R58, R60) -/

@[simp] theorem heatOf_nil : heatOf [] = 0 := rfl
@[simp] theorem heatOf_cons (p : Parcel) (rest : List Parcel) : heatOf (p :: rest) = p.heat + heatOf rest := by
  simp [heatOf]

theorem Parcel.usable_iff {tUse : Nat} {p : Parcel} : p.usable tUse = true ↔ ∃ t, p.temp = some t ∧ tUse ≤ t := by
  cases h : p.temp <;> simp [usable, h]

theorem reachableRun_usable {tUse : Nat} {p : Parcel} (h : p.usable tUse = true) (rest : List Parcel) :
    (reachableRun tUse (p :: rest)).1 = p.heat + (reachableRun tUse rest).1 := by
  obtain ⟨t, ht, hle⟩ := Parcel.usable_iff.1 h
  simp [reachableRun, ht, hle]

theorem reachableRun_stopped {tUse : Nat} {p : Parcel} (h : p.usable tUse = false) (rest : List Parcel) :
    (reachableRun tUse (p :: rest)).1 = 0 := by
  cases ht : p.temp with
  | none => simp [reachableRun, ht]
  | some t =>
    have hlt : ¬tUse ≤ t := fun hle => by simp [Parcel.usable_iff.2 ⟨t, ht, hle⟩] at h
    simp [reachableRun, ht, hlt]

section Draw
variable {tUse need : Nat} {p : Parcel} {rest : List Parcel}

theorem drawStack_met : drawStack tUse 0 (p :: rest) = ⟨p :: rest, 0, 0, false⟩ := by simp [drawStack]

/-- A draw with heat owed stops at a parcel that is not usable, and notes whether it is UNKNOWN. -/
theorem drawStack_stopped (hneed : 0 < need) (h : p.usable tUse = false) :
    drawStack tUse need (p :: rest) = ⟨p :: rest, 0, need, p.temp.isNone⟩ := by
  cases ht : p.temp with
  | none => simp [drawStack, hneed.ne', ht]
  | some t =>
    have hlt : ¬tUse ≤ t := fun hle => by simp [Parcel.usable_iff.2 ⟨t, ht, hle⟩] at h
    simp [drawStack, hneed.ne', ht, hlt]

/-- A usable parcel with more heat than is owed gives what is owed. -/
theorem drawStack_part (hneed : 0 < need) (h : p.usable tUse = true) (hheat : need < p.heat) :
    drawStack tUse need (p :: rest) = ⟨{ p with heat := p.heat - need } :: rest, need, 0, false⟩ := by
  obtain ⟨t, ht, hle⟩ := Parcel.usable_iff.1 h
  simp [drawStack, hneed.ne', ht, hle, hheat]

/-- Any other usable parcel is taken whole, and the draw goes on below it. -/
theorem drawStack_whole (hneed : 0 < need) (h : p.usable tUse = true) (hheat : p.heat ≤ need) :
    drawStack tUse need (p :: rest) =
      { drawStack tUse (need - p.heat) rest with
        taken := (drawStack tUse (need - p.heat) rest).taken + p.heat } := by
  obtain ⟨t, ht, hle⟩ := Parcel.usable_iff.1 h
  simp [drawStack, hneed.ne', ht, hle, hheat.not_gt]

end Draw

/-- What holds of a draw in its five cases, the last one from the parcels below, holds of every draw. -/
theorem drawStack_induction {tUse : Nat} {motive : Nat → List Parcel → DrawResult → Prop}
    (empty : ∀ need, motive need [] ⟨[], 0, need, false⟩)
    (met : ∀ p rest, motive 0 (p :: rest) ⟨p :: rest, 0, 0, false⟩)
    (stopped : ∀ need p rest, 0 < need → p.usable tUse = false →
      motive need (p :: rest) ⟨p :: rest, 0, need, p.temp.isNone⟩)
    (part : ∀ need p rest, 0 < need → p.usable tUse = true → need < p.heat →
      motive need (p :: rest) ⟨{ p with heat := p.heat - need } :: rest, need, 0, false⟩)
    (whole : ∀ need p rest (d : DrawResult), p.usable tUse = true → p.heat ≤ need →
      motive (need - p.heat) rest d → motive need (p :: rest) { d with taken := d.taken + p.heat })
    (need : Nat) (ps : List Parcel) : motive need ps (drawStack tUse need ps) := by
  induction ps generalizing need with
  | nil => exact empty need
  | cons p rest ih =>
    rcases Nat.eq_zero_or_pos need with rfl | hneed
    · rw [drawStack_met]; exact met p rest
    · cases h : p.usable tUse with
      | false => rw [drawStack_stopped hneed h]; exact stopped need p rest hneed h
      | true =>
        by_cases hheat : need < p.heat
        · rw [drawStack_part hneed h hheat]; exact part need p rest hneed h hheat
        · rw [drawStack_whole hneed h (not_lt.1 hheat)]
          exact whole need p rest _ h (not_lt.1 hheat) (ih _)

/-- Heat taken and heat owed make up the need, and heat taken and heat left the heat that was there. -/
theorem drawStack_balance (tUse need : Nat) (ps : List Parcel) :
    let d := drawStack tUse need ps
    d.taken + d.owed = need ∧ heatOf d.stack + d.taken = heatOf ps ∧ d.stack.length ≤ ps.length := by
  refine drawStack_induction (tUse := tUse) (motive := fun need ps d =>
    d.taken + d.owed = need ∧ heatOf d.stack + d.taken = heatOf ps ∧ d.stack.length ≤ ps.length)
    ?empty ?met ?stopped ?part ?whole need ps
  case empty => simp
  case met => simp
  case stopped => simp
  case part =>
    intro need p rest _ _ hheat
    simp only [heatOf_cons, List.length_cons, le_refl, and_true, Nat.add_zero, true_and]
    omega
  case whole =>
    rintro need p rest d - hheat ⟨howed, hleft, hlength⟩
    simp only [heatOf_cons, List.length_cons]
    omega

/-- The heat taken is the need, as far as the run of usable parcels reaches (R56, R57). -/
theorem drawStack_taken (tUse need : Nat) (ps : List Parcel) :
    (drawStack tUse need ps).taken = min need (reachableRun tUse ps).1 := by
  refine drawStack_induction (tUse := tUse)
    (motive := fun need ps d => d.taken = min need (reachableRun tUse ps).1) ?empty ?met ?stopped ?part ?whole need ps
  case empty => simp [reachableRun]
  case met => simp
  case stopped => intro need p rest _ h; simp [reachableRun_stopped h]
  case part =>
    intro need p rest _ h hheat
    rw [reachableRun_usable h]
    exact (Nat.min_eq_left (Nat.le_add_right_of_le hheat.le)).symm
  case whole =>
    intro need p rest d h hheat htaken
    simp only [reachableRun_usable h, htaken]
    omega

/-- The stack left is what lies below some usable parcels, or that with the heat of a usable parcel 0 reduced. -/
def DrawnFrom (tUse : Nat) (ps left : List Parcel) : Prop :=
  ∃ k, (∀ p, p ∈ ps.take k → p.usable tUse = true) ∧ (left = ps.drop k ∨ ∃ p rest h, ps.drop k = p :: rest ∧
    p.usable tUse = true ∧ 0 < h ∧ h < p.heat ∧ left = { p with heat := h } :: rest)

theorem DrawnFrom.refl (tUse : Nat) (ps : List Parcel) : DrawnFrom tUse ps ps := ⟨0, by simp, .inl rfl⟩

theorem DrawnFrom.cons {tUse : Nat} {p : Parcel} {rest left : List Parcel} (hp : p.usable tUse = true)
    (h : DrawnFrom tUse rest left) : DrawnFrom tUse (p :: rest) left := by
  obtain ⟨k, hrun, hleft⟩ := h
  exact ⟨k + 1, by simpa [hp] using hrun, hleft⟩

/-- Only parcels of the usable run are removed or reduced (R57). -/
theorem drawStack_stack (tUse need : Nat) (ps : List Parcel) : DrawnFrom tUse ps (drawStack tUse need ps).stack := by
  refine drawStack_induction (tUse := tUse) (motive := fun _ ps d => DrawnFrom tUse ps d.stack)
    ?empty ?met ?stopped ?part ?whole need ps
  case empty => exact fun _ => .refl ..
  case met => exact fun _ _ => .refl ..
  case stopped => exact fun _ _ _ _ _ => .refl ..
  case part =>
    intro need p rest hneed h hheat
    exact ⟨0, by simp, .inr ⟨p, rest, p.heat - need, rfl, h, by omega, by omega, rfl⟩⟩
  case whole => exact fun _ _ _ _ h _ hleft => hleft.cons h

/-- Heat stays owed only over a stack without a usable parcel 0, and UNKNOWN is noted exactly of such a parcel 0 (R58,
R60). -/
theorem drawStack_owed (tUse need : Nat) (ps : List Parcel) :
    let d := drawStack tUse need ps
    (0 < d.owed → d.stack = [] ∨ ∃ p rest, d.stack = p :: rest ∧ p.usable tUse = false) ∧
      (d.unknown = true ↔ 0 < d.owed ∧ ∃ p rest, d.stack = p :: rest ∧ p.temp = none) := by
  refine drawStack_induction (tUse := tUse) (motive := fun _ _ d =>
    (0 < d.owed → d.stack = [] ∨ ∃ p rest, d.stack = p :: rest ∧ p.usable tUse = false) ∧
      (d.unknown = true ↔ 0 < d.owed ∧ ∃ p rest, d.stack = p :: rest ∧ p.temp = none))
    ?empty ?met ?stopped ?part ?whole need ps
  case empty => simp
  case met => simp
  case stopped =>
    intro need p rest hneed h
    exact ⟨fun _ => .inr ⟨p, rest, rfl, h⟩, by simp [hneed]⟩
  case part => simp
  case whole => exact fun _ _ _ _ _ _ hbelow => hbelow

/-- Settles O52: each law of a draw is proved over its five cases. -/
theorem drawConservesHeat : Obligations.DrawConservesHeat := by
  intro tUse need ps
  obtain ⟨hneed, hheat, hlength⟩ := drawStack_balance tUse need ps
  obtain ⟨howed, hunknown⟩ := drawStack_owed tUse need ps
  exact ⟨hneed, hheat, hlength, drawStack_taken tUse need ps, drawStack_stack tUse need ps, howed, hunknown⟩

end Sys2Proof.Machine
end

section
/-! PROOFS. The own work of an event in one heat store, SET STORE and DISCARD TOP. -/

namespace Sys2Proof.Machine

/-! ## The own work of an event in one store (R54, R56, R66) -/

/-- The aging timer and its due mark. -/
def Hsu.timer (x : Hsu) : Nat × Bool := (x.agingTimer, x.agingDue)

@[simp] theorem Hsu.timer_set (x : Hsu) (st : Store) (r : StoreRec) : (x.set st r).timer = x.timer := by
  simp [timer]

theorem UnitWork.trans {a b c : State} (h : UnitWork a b) (k : UnitWork b c) : UnitWork a c where
  joins := h.joins.trans k.joins
  arith := h.arith.trans k.arith
  frame := by
    obtain ⟨hpins, hspi, hilr, hpck, hsbk, hdsu, hpen, hsvc, hpending⟩ := h.frame
    simpa only [hpins, hspi, hilr, hpck, hsbk, hdsu, hpen, hsvc, hpending] using k.frame

/-- The own work of an event that writes the record of one store only. -/
structure StoreWork (st : Store) (s w : State) : Prop extends UnitWork s w where
  ciu : w.ciu = s.ciu
  others : ∀ d, d ≠ st → w.store d = s.store d
  timer : w.hsu.timer = s.hsu.timer

namespace StoreWork
variable (st : Store) (s : State)

theorem refl : StoreWork st s s := ⟨⟨.of_eq rfl, rfl, by simp⟩, rfl, fun _ _ => rfl, rfl⟩

variable {st} in
theorem trans {a b c : State} (h : StoreWork st a b) (k : StoreWork st b c) : StoreWork st a c where
  toUnitWork := h.toUnitWork.trans k.toUnitWork
  ciu := k.ciu.trans h.ciu
  others d hd := (k.others d hd).trans (h.others d hd)
  timer := k.timer.trans h.timer

theorem modStore (f : StoreRec → StoreRec) : StoreWork st s (s.modStore st f) where
  joins := .of_eq rfl
  arith := rfl
  frame := by simp
  ciu := rfl
  others d hd := by rw [State.modStore_store, if_neg hd]
  timer := by rw [State.modStore_hsu, Hsu.timer_set]

theorem raise (exc : Option ExcCode) (source : ExcSource) (subject : Subject) :
    StoreWork st s (raise exc source subject s) where
  joins := raise_joins exc source subject s
  arith := (Recomputes.raise .cv1 exc source subject s).arith
  frame := by simp
  ciu := by simp
  others _ _ := by simp [State.store]
  timer := by simp

theorem emit (kind : EventKind) (cls : EventClass) (subject : Subject) (w1 w2 : Int) :
    StoreWork st s (emit kind cls subject w1 w2 s) where
  joins := emit_joins kind cls subject w1 w2 s
  arith := by simp [ArithKept]
  frame := by simp
  ciu := by simp
  others _ _ := by simp [State.store]
  timer := by simp

theorem addWrittenOff (source : ExcSource) (x : Nat) : StoreWork st s (addWrittenOff st source x s) :=
  (modStore st s _).trans (raise st _ _ source _)

theorem evalReachable : StoreWork st s (evalReachable st s) := by
  simp only [Machine.evalReachable]
  split
  · exact raise st s _ _ _
  · exact modStore st s _

theorem releaseFull : StoreWork st s (releaseFull st s) := by
  simp only [Machine.releaseFull]
  split
  · exact (modStore st s _).trans (emit st _ _ _ _ _ _)
  · exact refl st s

variable {st s} in
theorem trap {w : State} (h : StoreWork st s w) : w.arith.trap = s.arith.trap := by rw [h.arith]

end StoreWork

/-! ## Reachable heat and FULL at the end of an event (R54, R56) -/

/-- Reachable heat is re-evaluated, and then the FULL release test runs. -/
def settleStore (st : Store) (s : State) : State := releaseFull st (evalReachable st s)

/-- A record follows from another one by the evaluation of reachable heat, the FULL release test, and grants: where the
trap is disabled the reachable heat is that of the usable run, and FULL stays only below the margin. -/
def StoreRec.Settled (trap : Bool) (r x : StoreRec) : Prop :=
  x = { r with
    reachable := x.reachable, full := r.full && decide (r.free * 100 < r.capacity * r.margin)
    charging := x.charging, drawing := x.drawing } ∧
  (trap = false → x.reachable = (reachableRun r.tUse r.stack).1)

theorem StoreRec.Settled.kept {trap : Bool} {r : StoreRec} {st : Store} {w t : State}
    (h : r.Settled trap (w.store st)) (k : StoreKept st w t) : r.Settled trap (t.store st) := by
  obtain ⟨hrecord, hreach⟩ := h
  have hsame : (t.store st).reachable = (w.store st).reachable := by rw [k]
  refine ⟨?_, fun htrap => hsame.trans (hreach htrap)⟩
  rw [hsame]
  exact Eq.trans k (by rw [hrecord])

theorem evalReachable_record (st : Store) (s : State) : ∃ reach,
    (evalReachable st s).store st = { s.store st with reachable := reach } ∧
      (s.arith.trap = false → reach = (reachableRun (s.store st).tUse (s.store st).stack).1) := by
  cases htrap : s.arith.trap with
  | false => exact ⟨_, by rw [evalReachable_store htrap, if_pos rfl], fun _ => rfl⟩
  | true =>
    simp only [evalReachable]
    split
    · exact ⟨(s.store st).reachable, by simp [State.store], nofun⟩
    · exact ⟨_, by rw [State.modStore_store, if_pos rfl], nofun⟩

theorem releaseFull_record (st : Store) (s : State) : (releaseFull st s).store st =
    { s.store st with
      full := (s.store st).full && decide ((s.store st).free * 100 < (s.store st).capacity * (s.store st).margin) } := by
  simp only [releaseFull]
  split
  next h =>
    obtain ⟨-, hmargin⟩ := h
    rw [decide_eq_false (not_lt.2 hmargin), Bool.and_false]
    simp [State.store, State.modStore]
  next h =>
    have hfull : ((s.store st).full &&
        decide ((s.store st).free * 100 < (s.store st).capacity * (s.store st).margin)) = (s.store st).full := by
      cases hf : (s.store st).full with
      | false => rfl
      | true => simpa using not_le.1 fun hmargin => h ⟨hf, hmargin⟩
    rw [hfull]

section Settle
variable (st : Store) (s : State)

theorem settleStore_work : StoreWork st s (settleStore st s) :=
  (StoreWork.evalReachable st s).trans (.releaseFull st _)

theorem settleStore_record : (s.store st).Settled s.arith.trap ((settleStore st s).store st) := by
  obtain ⟨reach, hrecord, hreach⟩ := evalReachable_record st s
  rw [settleStore, releaseFull_record, hrecord]
  exact ⟨rfl, hreach⟩

/-! ### Heat that leaves the stack (R62, R65, R66) -/

/-- A record with another stack, and the heat that left it added to written-off. -/
def StoreRec.withStack (x : StoreRec) (stack : List Parcel) (gone : Nat) : StoreRec :=
  { x with stack := stack, writtenOff := (saturateCounter (x.writtenOff + gone)).val }

/-- A store takes another stack and writes off the heat that left it. -/
def replaceStack (stack : List Parcel) (gone : Nat) : State :=
  settleStore st (addWrittenOff st .decay gone (s.modStore st (fun r => { r with stack := stack })))

variable (stack : List Parcel) (gone : Nat)

theorem replaceStack_work : StoreWork st s (replaceStack st s stack gone) :=
  ((StoreWork.modStore st s _).trans (.addWrittenOff st _ _ _)).trans (settleStore_work st _)

theorem replaceStack_record :
    ((s.store st).withStack stack gone).Settled s.arith.trap ((replaceStack st s stack gone).store st) := by
  have hwork := (StoreWork.modStore st s (fun r => { r with stack := stack })).trans (.addWrittenOff st _ .decay gone)
  have hrecord : (addWrittenOff st .decay gone (s.modStore st (fun r => { r with stack := stack }))).store st =
      (s.store st).withStack stack gone := by
    simp [addWrittenOff, State.store, State.modStore, StoreRec.withStack]
  have h := settleStore_record st (addWrittenOff st .decay gone (s.modStore st (fun r => { r with stack := stack })))
  rw [hwork.trap, hrecord] at h
  exact h

end Settle

/-! ## A command that is an event of one store -/

/-- What a command leaves that its block answered over an event of one store, whose record the event brought to `r`. -/
structure StoreAnswered (p : Port) (a : Answer) (st : Store) (r : StoreRec) (s t : State) : Prop where
  answer : Answers p a t
  record : r.Settled s.arith.trap (t.store st)
  stores : ∀ d, d ≠ st → StoreKept d s t
  caverns : ∀ c, CavernKept c s t
  book : BookKept s t
  frame : PlantFrame p s t

section StoreCommand
variable {p : Port} {st : Store} {s u w : State} {r : StoreRec} (posts : Prop) [Decidable posts]

theorem StoreWork.placed (hu : OnlyPort p s u) (h : StoreWork st u w) (hr : r.Settled u.arith.trap (w.store st))
    (a : Answer) : StoreAnswered p a st r s (placeNow p a.full (answered posts w u)) := by
  have hkept := answered_kept posts w u
  have hframe := (h.toUnitWork.answered posts).placed hu a.full
  have hbook := h.toUnitWork.book hkept
  obtain ⟨spi, rfl⟩ : ∃ spi, u = { s with spi := spi } := ⟨_, hu.1⟩
  exact {
    answer := placeNow_answers p a _
    record := hr.kept (hkept.stores st)
    stores := fun d hd => hkept.storeAside (h.others d hd)
    caverns := fun c => hkept.cavernAside (by rw [State.cavern, h.ciu]; rfl)
    book := hbook
    frame := hframe }

variable {posts} in
theorem StoreWork.placed_recheck (hu : OnlyPort p s u) (h : StoreWork st u w) (hpart : s.svc.part ≠ .config)
    (hposts : posts) (bytes : List Byte) : RecheckPosted s (placeNow p bytes (answered posts w u)) := by
  obtain ⟨spi, rfl⟩ : ∃ spi, u = { s with spi := spi } := ⟨_, hu.1⟩
  exact h.toUnitWork.recheckPosted hpart hposts

end StoreCommand

/-! ## SET STORE (R48) -/

theorem exec_setStore (p : Port) (b : Byte) (cap : BitVec 32) (tb ts tu tol : BitVec 16) (mg : Byte) (s : State) :
    exec (.setStore p b cap tb ts tu tol mg) s = .next (command p 0x03
      ([b] ++ putBE 4 cap.toNat ++ putBE 2 tb.toNat ++ putBE 2 ts.toNat ++ putBE 2 tu.toNat ++ putBE 2 tol.toNat ++ [mg])
      (takeSetStore b cap tb ts tu tol mg) s) := rfl

/-- The six fields of SET STORE. -/
structure StoreFields where
  capacity : Nat
  tBase : Nat
  tSpent : Nat
  tUse : Nat
  tol : Nat
  margin : Nat

/-- A record with those fields. -/
def StoreRec.withConfig (x : StoreRec) (k : StoreFields) : StoreRec :=
  { x with
    configured := true, capacity := k.capacity, tBase := k.tBase, tSpent := k.tSpent, tUse := k.tUse, tol := k.tol
    margin := k.margin }

/-- The own work of an accepted SET STORE. -/
def storeConfigured (st : Store) (k : StoreFields) (s : State) : State :=
  settleStore st (s.modStore st (fun r => r.withConfig k))

section SetStore
variable {b : Byte} {cap : BitVec 32} {tb ts tu tol : BitVec 16} {mg : Byte} {st : Store} {s : State}

theorem storeConfigured_work (k : StoreFields) : StoreWork st s (storeConfigured st k s) :=
  (StoreWork.modStore st s _).trans (settleStore_work st _)

theorem storeConfigured_record (k : StoreFields) :
    ((s.store st).withConfig k).Settled s.arith.trap ((storeConfigured st k s).store st) := by
  have h := settleStore_record st (s.modStore st (fun r => r.withConfig k))
  rw [State.modStore_store, if_pos rfl] at h
  exact h

theorem takeSetStore_unknown (hb : storeOf b = none) :
    takeSetStore b cap tb ts tu tol mg s = (s, some (.bare .range)) := by rw [takeSetStore, hb]; rfl

theorem takeSetStore_unfit (hb : storeOf b = some st)
    (hfit : storeFieldsFit (s.store st).content cap.toNat tb.toNat ts.toNat tu.toNat tol.toNat mg.toNat = false) :
    takeSetStore b cap tb ts tu tol mg s = (s, some (.bare .range)) := by
  simp only [takeSetStore, hb, hfit, Bool.false_eq_true, if_false]; rfl

theorem takeSetStore_held (hb : storeOf b = some st)
    (hfit : storeFieldsFit (s.store st).content cap.toNat tb.toNat ts.toNat tu.toNat tol.toNat mg.toNat = true)
    (hstack : (s.store st).stack ≠ []) (hbase : tb.toNat ≠ (s.store st).tBase) :
    takeSetStore b cap tb ts tu tol mg s = (s, some (.bare .state)) := by
  simp only [takeSetStore, hb, hfit, if_true, if_pos (And.intro hstack hbase)]; rfl

theorem takeSetStore_accepted (hb : storeOf b = some st)
    (hfit : storeFieldsFit (s.store st).content cap.toNat tb.toNat ts.toNat tu.toNat tol.toNat mg.toNat = true)
    (hfree : (s.store st).stack = [] ∨ tb.toNat = (s.store st).tBase) :
    takeSetStore b cap tb ts tu tol mg s = (answered (s.svc.part = .service) (storeConfigured st
      ⟨cap.toNat, tb.toNat, ts.toNat, tu.toNat, tol.toNat, if mg = 0 then 2 else mg.toNat⟩ s) s,
      some (.bare .done)) := by
  have hheld : ¬((s.store st).stack ≠ [] ∧ tb.toNat ≠ (s.store st).tBase) :=
    fun h => hfree.elim h.1 h.2
  rw [← (storeConfigured_work _).toUnitWork.answered_inService]
  simp only [takeSetStore, hb, hfit, if_true, if_neg hheld]; rfl

end SetStore

/-- Settles O20: each refusal is read off the checks in their order, and an accepted command answers over the work of
`storeConfigured`, with its hand-offs. -/
theorem setStoreEffect : Obligations.SetStoreEffect := by
  intro p s b cap tb ts tu tol mg h
  have refused {code : ResultCode}
      (ht : ∀ u, OnlyPort p s u → takeSetStore b cap tb ts tu tol mg u = (u, some (.bare code))) :
      AnswersOnly (.setStore p b cap tb ts tu tol mg) p (.bare code) s :=
    ⟨_, exec_setStore p b cap tb ts tu tol mg s, command_answersOnly h rfl ht⟩
  have storeSame (u : State) (hu : OnlyPort p s u) (st : Store) : u.store st = s.store st := by rw [hu.1]; rfl
  refine ⟨fun hb => refused fun _ _ => takeSetStore_unknown hb, fun st hb => ⟨fun hfit => ?unfit,
    fun hfit hstack hbase => ?held, fun hfit hfree => ?accepted⟩⟩
  case unfit => exact refused fun u hu => takeSetStore_unfit hb (by rw [storeSame u hu]; exact hfit)
  case held =>
    refine refused fun u hu => ?_
    rw [← storeSame u hu] at hfit hstack hbase
    exact takeSetStore_held hb hfit hstack hbase
  case accepted =>
    obtain ⟨u, hu, -, hcommand⟩ := command_taken h (code := 0x03) (take := takeSetStore b cap tb ts tu tol mg) rfl
    rw [← storeSame u hu] at hfit hfree
    rw [exec_setStore, hcommand (takeSetStore_accepted hb hfit hfree)]
    generalize hfields : StoreFields.mk cap.toNat tb.toNat ts.toNat tu.toNat tol.toNat
      (if mg = 0 then 2 else mg.toNat) = k
    have hwork : StoreWork st u (storeConfigured st k u) := storeConfigured_work k
    have ht := hwork.placed (u.svc.part = .service) hu (storeConfigured_record k) (.bare .done)
    obtain ⟨hrecord, hreach⟩ := ht.record
    rw [storeSame u hu] at hrecord hreach
    have hpart : u.svc = s.svc := by rw [hu.1]
    subst hfields
    refine ⟨_, rfl, ht.answer, ⟨?_, hreach, ?_⟩,
      fun hservice => hwork.placed_recheck hu (by simp [hservice]) (by rw [hpart]; exact hservice) _,
      ht.stores, ht.caverns, ht.book, ht.frame⟩
    · exact hrecord.trans (by rw [hrecord]; rfl)
    · rw [hrecord]; rfl

/-! ## DISCARD TOP (R65) -/

theorem exec_discardTop (p : Port) (b : Byte) (s : State) :
    exec (.discardTop p b) s = .next (command p 0x16 [b] (takeDiscardTop b) s) := rfl

section DiscardTop
variable {b : Byte} {st : Store} {s : State} (x : Parcel) (rest : List Parcel)

theorem discardParcel_eq : discardParcel st x rest s =
    emit .topDiscarded .notice (.store st) x.heat (x.temp.getD 65535) (replaceStack st s rest x.heat) := rfl

theorem discardParcel_work : StoreWork st s (discardParcel st x rest s) :=
  (replaceStack_work st s rest x.heat).trans (.emit st _ _ _ _ _ _)

theorem discardParcel_record :
    ((s.store st).withStack rest x.heat).Settled s.arith.trap ((discardParcel st x rest s).store st) := by
  have hstore : (discardParcel st x rest s).store st = (replaceStack st s rest x.heat).store st := by
    simp [discardParcel_eq, State.store]
  rw [hstore]
  exact replaceStack_record st s rest x.heat

theorem takeDiscardTop_unknown (hb : storeOf b = none) : takeDiscardTop b s = (s, some (.bare .range)) := by
  rw [takeDiscardTop, hb]; rfl

theorem takeDiscardTop_closed (hb : storeOf b = some st)
    (h : (s.store st).configured = false ∨ (s.store st).flow ≠ .idle ∨ (s.store st).stack = []) :
    takeDiscardTop b s = (s, some (.bare .state)) := by
  simp only [takeDiscardTop, hb]
  cases hstack : (s.store st).stack with
  | nil => rfl
  | cons x rest =>
    have hclosed : ¬((s.store st).configured = true ∧ (s.store st).flow = .idle) := by
      rintro ⟨hconf, hidle⟩
      simp [hconf, hidle, hstack] at h
    simp only [if_neg hclosed]; rfl

variable {x rest} in
theorem takeDiscardTop_accepted (hb : storeOf b = some st) (hconf : (s.store st).configured = true)
    (hidle : (s.store st).flow = .idle) (hstack : (s.store st).stack = x :: rest) :
    takeDiscardTop b s = (answered True (discardParcel st x rest s) s, some (.bare .done)) := by
  simp only [takeDiscardTop, hb, hstack, hconf, hidle, and_self, if_true]; rfl

end DiscardTop

/-- Settles O31: the refusals are read off the checks, and an accepted command answers over the work of
`discardParcel`, with its hand-offs and one recheck request. -/
theorem discardTopEffect : Obligations.DiscardTopEffect := by
  intro p s b h hp
  have hadmits : admits (0x16 : Byte).toNat p = true := by cases p with | c => rfl | e => rfl | t => exact absurd rfl hp
  have refused {code : ResultCode} (ht : ∀ u, OnlyPort p s u → takeDiscardTop b u = (u, some (.bare code))) :
      AnswersOnly (.discardTop p b) p (.bare code) s :=
    ⟨_, exec_discardTop p b s, command_answersOnly h hadmits ht⟩
  have storeSame (u : State) (hu : OnlyPort p s u) (st : Store) : u.store st = s.store st := by rw [hu.1]; rfl
  refine ⟨fun hb => refused fun _ _ => takeDiscardTop_unknown hb, fun st hb => ⟨fun hclosed => ?closed,
    fun x rest hconf hidle hstack => ?accepted⟩⟩
  case closed => exact refused fun u hu => takeDiscardTop_closed hb (by rw [storeSame u hu]; exact hclosed)
  case accepted =>
    obtain ⟨u, hu, -, hcommand⟩ := command_taken h (code := 0x16) (params := [b]) (take := takeDiscardTop b) hadmits
    rw [← storeSame u hu] at hconf hidle hstack
    have hwork : StoreWork st u (discardParcel st x rest u) := discardParcel_work x rest
    have ht := hwork.placed True hu (discardParcel_record x rest) (.bare .done)
    rw [exec_discardTop, hcommand (takeDiscardTop_accepted hb hconf hidle hstack)]
    obtain ⟨hrecord, hreach⟩ := ht.record
    rw [storeSame u hu] at hrecord hreach
    refine ⟨_, rfl, ht.answer, ⟨?_, fun htrap => ?_⟩, ht.stores, ht.caverns, ht.book,
      fun hpart => hwork.placed_recheck hu hpart trivial _, ht.frame⟩
    · exact hrecord.trans (by rw [hrecord]; rfl)
    · rw [hreach htrap, hrecord]; rfl

end Sys2Proof.Machine
end

section
/-! PROOFS. An aging pass, and the expiry of an offer. -/

namespace Sys2Proof.Machine

/-! ## The aging timer under the hand-offs (R61) -/

/-- A grant writes the records of its stores and leaves the aging timer. -/
theorem examineEntry_timer (s : State) (t : Train) : (examineEntry s t).hsu.timer = s.hsu.timer := by
  simp only [examineEntry]
  repeat' split
  · simp [grantQueued, attachTrain, attachStore, State.modStore_hsu]
  · rfl
  · rfl

theorem examineIf_timer (asked : Bool) (s : State) : (examineIf asked s).hsu.timer = s.hsu.timer := by
  rw [examineIf]
  split
  · exact foldl_keeps (fun u => u.hsu.timer) examineEntry examineEntry_timer s.dsu.queue s
  · rfl

theorem answered_timer (posts : Prop) [Decidable posts] (w s : State) :
    (answered posts w s).hsu.timer = w.hsu.timer := by
  have hevent : (answered posts w s).hsu = (handOn s false false w).hsu := by
    rw [answered]
    split <;> simp
  simp [hevent, handOn, examineIf_timer]

/-! ## Decay of parcels (R16, R62) -/

theorem decayed_le (mode : Mode) (d x : Nat) : decayed mode d x ≤ x := by
  have hfactor : x * (65536 - d) ≤ x * 65536 := Nat.mul_le_mul_left x (Nat.sub_le _ _)
  cases mode <;> simp only [decayed, roundingOf, roundDiv] <;> omega

theorem decayParcel_opened {p : Parcel} (h : p.opened = true) (mode : Mode) (tBase d : Nat) :
    decayParcel mode tBase d p = p := if_pos h

theorem decayParcel_closed {p : Parcel} (h : p.opened = false) (mode : Mode) (tBase d : Nat) :
    decayParcel mode tBase d p = { p with
      heat := decayed mode d p.heat, temp := p.temp.map (fun v => tBase + decayed mode d (v - tBase)) } := by
  rw [decayParcel, h]; rfl

theorem decayParcel_heat_le (mode : Mode) (tBase d : Nat) (p : Parcel) :
    (decayParcel mode tBase d p).heat ≤ p.heat := by
  cases h : p.opened with
  | true => rw [decayParcel_opened h]
  | false => rw [decayParcel_closed h]; exact decayed_le mode d p.heat

theorem spentParcel_opened {p : Parcel} (h : p.opened = true) (tSpent : Nat) : spentParcel tSpent p = false := by
  simp [spentParcel, h]

theorem spentParcel_closed {p : Parcel} (h : p.opened = false) (tSpent : Nat) :
    spentParcel tSpent p = true ↔ p.heat = 0 ∨ ∃ v, p.temp = some v ∧ v < tSpent := by
  cases ht : p.temp <;> simp [spentParcel, h, ht, or_comm]

/-- The stack that an aging pass leaves of a record (R62). -/
def StoreRec.aged (r : StoreRec) (mode : Mode) : List Parcel :=
  (r.stack.map (decayParcel mode r.tBase r.decay)).filter (fun p => !spentParcel r.tSpent p)

/-- Decay and removal add no heat to a stack. -/
theorem heatOf_decayed_le (mode : Mode) (tBase d tSpent : Nat) (ps : List Parcel) :
    heatOf ((ps.map (decayParcel mode tBase d)).filter (fun p => !spentParcel tSpent p)) ≤ heatOf ps := by
  induction ps with
  | nil => exact le_rfl
  | cons p rest ih =>
    have hp := decayParcel_heat_le mode tBase d p
    rw [List.map_cons, List.filter_cons, heatOf_cons]
    split
    · rw [heatOf_cons]; exact Nat.add_le_add hp ih
    · exact Nat.le_add_left_of_le ih

/-! ## An aging pass over one store (R62) -/

section AgeStore
variable {st : Store} {s : State}

theorem ageStore_aged (hconf : (s.store st).configured = true) (hstack : (s.store st).stack ≠ []) :
    ageStore st s = replaceStack st s ((s.store st).aged s.arith.mode)
      (heatOf (s.store st).stack - heatOf ((s.store st).aged s.arith.mode)) := if_pos ⟨hconf, hstack⟩

theorem ageStore_skipped (h : (s.store st).configured = false ∨ (s.store st).stack = []) : ageStore st s = s :=
  if_neg fun ⟨hconf, hstack⟩ => h.elim (by simp [hconf]) hstack

variable (st s) in
theorem ageStore_work : StoreWork st s (ageStore st s) := by
  by_cases h : (s.store st).configured = true ∧ (s.store st).stack ≠ []
  · obtain ⟨hconf, hstack⟩ := h
    rw [ageStore_aged hconf hstack]; exact replaceStack_work ..
  · rw [ageStore, if_neg h]; exact .refl st s

end AgeStore

/-! ## An aging pass over both stores (R61, R62) -/

/-- The aging timer at 0, with no pass due. -/
def resetTimer (s : State) : State := { s with hsu := { s.hsu with agingTimer := 0, agingDue := false } }

theorem resetTimer_store (s : State) (st : Store) : (resetTimer s).store st = s.store st := by cases st <;> rfl

/-- The own work of an aging pass. -/
def storesAged (s : State) : State := ageStore .hsB (ageStore .hsA (resetTimer s))

theorem agePass_eq (s : State) : agePass s = answered True (storesAged s) s := rfl

theorem resetTimer_work (s : State) : UnitWork s (resetTimer s) := ⟨.of_eq rfl, rfl, by simp [resetTimer]⟩

theorem storesAged_work (s : State) : UnitWork s (storesAged s) :=
  ((resetTimer_work s).trans (ageStore_work .hsA _).toUnitWork).trans (ageStore_work .hsB _).toUnitWork

theorem storesAged_ciu (s : State) : (storesAged s).ciu = s.ciu :=
  (ageStore_work .hsB _).ciu.trans (ageStore_work .hsA (resetTimer s)).ciu

theorem storesAged_timer (s : State) : (storesAged s).hsu.timer = (0, false) :=
  (ageStore_work .hsB _).timer.trans (ageStore_work .hsA (resetTimer s)).timer

/-- The pass does to each store what an aging of that store alone does. -/
theorem storesAged_store (s : State) (st : Store) : ∃ v, v.store st = s.store st ∧ ArithKept s v ∧
    (storesAged s).store st = (ageStore st v).store st := by
  have hA := ageStore_work .hsA (resetTimer s)
  cases st with
  | hsA => exact ⟨resetTimer s, rfl, rfl, (ageStore_work .hsB _).others .hsA nofun⟩
  | hsB => exact ⟨ageStore .hsA (resetTimer s), hA.others .hsB nofun, hA.arith, rfl⟩

theorem storesAged_aged {s : State} {st : Store} (hconf : (s.store st).configured = true)
    (hstack : (s.store st).stack ≠ []) :
    let r := s.store st
    (r.withStack (r.aged s.arith.mode) (heatOf r.stack - heatOf (r.aged s.arith.mode))).Settled s.arith.trap
      ((storesAged s).store st) := by
  obtain ⟨v, hv, harith, hpass⟩ := storesAged_store s st
  have hmode : v.arith.mode = s.arith.mode := by rw [harith]
  have htrap : v.arith.trap = s.arith.trap := by rw [harith]
  rw [← hv] at hconf hstack ⊢
  rw [hpass, ageStore_aged hconf hstack, ← hmode, ← htrap]
  exact replaceStack_record ..

theorem storesAged_skipped {s : State} {st : Store} (h : (s.store st).configured = false ∨ (s.store st).stack = []) :
    (storesAged s).store st = s.store st := by
  obtain ⟨v, hv, -, hpass⟩ := storesAged_store s st
  rw [← hv] at h ⊢
  rw [hpass, ageStore_skipped h]

theorem exec_agingPass {s : State} (hreset : s.pins.resetLow = false) (hdue : s.hsu.agingDue = true) :
    exec .agingPass s = .next (answered True (storesAged s) s) := by
  have hexec : exec .agingPass s = .next (live takeAging s) := rfl
  rw [hexec, live, hreset, takeAging, hdue, agePass_eq]; rfl

/-! ## A slot that is no longer COMMITTED, in the dispatch view (R92, R119, R124, R136) -/

theorem stagedSplit_view (s : State) : (stagedSplit s).dsu.view = s.dsu.view := by
  have hstage (pl : Plan) (interval : Nat) (u : State) (t : Train) :
      (stageOrder pl interval u t).dsu.view = u.dsu.view := by
    simp only [stageOrder]
    repeat' split
    all_goals simp [State.modTrain_dsu]
  simp only [stagedSplit]
  repeat' split
  · exact foldl_keeps (fun u => State.dsu u |>.view) _ (hstage _ _) allTrains s
  · rfl
  · rfl

/-- A next slot that is not COMMITTED admits no direction that was not admitted before. -/
theorem examineIfAdmitted_uncommitted {s : State} {v : View} {x : NextSlot} (hx : x.state ≠ .committed)
    (hs : s.dsu.view = { v with next := some x }) : examineIfAdmitted v s = s := by
  rw [examineIfAdmitted, hs, if_neg]
  have hcommitted : (x.state == .committed) = false := by simpa using hx
  simp only [View.admitsGen, View.admitsChg, hcommitted, Bool.false_and, Bool.or_false]
  cases v.active with
  | none => simp
  | some n => simp; omega

/-- The Dispatch Unit hears of a slot that is not COMMITTED: at most its view moves and the staged split runs. -/
theorem handSlotChange_uncommitted {j : Nat} {s : State} (h : (s.slot j).state ≠ .committed) :
    handSlotChange j s = s ∨
      ∃ v, handSlotChange j s = stagedSplit { s with dsu := { s.dsu with view := v } } := by
  simp only [handSlotChange]
  split
  · split
    · exact .inr ⟨_, examineIfAdmitted_uncommitted h (stagedSplit_view _)⟩
    · exact .inl rfl
  · exact .inl rfl

/-- What a change of such a slot leaves, beside the records of trains and queues. -/
theorem slotChanged_uncommitted {j : Nat} {s : State} (h : (s.slot j).state ≠ .committed) :
    DispatchKept s (slotChanged j s) ∧ (slotChanged j s).ciu = s.ciu ∧ (slotChanged j s).hsu = s.hsu ∧
      (slotChanged j s).sbk = s.sbk ∧
      (slotChanged j s).pen = { s.pen with generation := s.pen.generation + 1 } := by
  have hbump : DispatchKept s (bumpGeneration s) := .of_eq (.of_eq rfl) rfl (fun _ => rfl) rfl rfl
  rw [slotChanged]
  rcases handSlotChange_uncommitted (s := bumpGeneration s) h with e | ⟨v, e⟩
  · rw [e]; exact ⟨hbump, rfl, rfl, rfl, rfl⟩
  · have hview : DispatchKept (bumpGeneration s) { bumpGeneration s with dsu := { s.dsu with view := v } } :=
      .of_eq (.of_eq rfl) rfl (fun tr => by cases tr <;> rfl) rfl rfl
    rw [e]
    refine ⟨(hbump.trans hview).trans (.stagedSplit _), ?_⟩
    simp [bumpGeneration]

/-! ## The expiry of an offer (R79, R109) -/

/-- The part in which an OFFERED slot has become EMPTY and OFFER LAPSED is queued. -/
def offerEmptied (j : Nat) (s : State) : State :=
  emit .offerLapsed .notice (.slot j) (((s.slot j).offer.map Offered.held).getD 0)
    ((s.modSlot j Slot.emptied).slot j).seq.toNat (s.modSlot j Slot.emptied)

theorem exec_offerExpiry {s : State} {j : Nat} {o : Offered} {m : Nat} (hreset : s.pins.resetLow = false)
    (hwindow : s.inWindow j = true) (hstate : (s.slot j).state = .offered) (hoffer : (s.slot j).offer = some o)
    (hmark : s.pck.expiryMark = some m) (hdue : o.expiry ≤ m) :
    exec (.offerExpiry j) s = .next (slotChanged j (offerEmptied j s)) := by
  have hexec : exec (.offerExpiry j) s = .next (live (fun s => takeExpiry s j) s) := rfl
  have hexpired : s.expired j = true := by simp [State.expired, hoffer, hmark, hdue]
  rw [hexec, live, if_neg (by simp [hreset]), takeExpiry, if_pos hexpired, lapseOffer, if_pos ⟨hwindow, hstate⟩]; rfl

theorem offerEmptied_slot {s : State} (hlength : s.sbk.slots.length = 96) (j n : Nat) :
    (offerEmptied j s).slot n = if n % 96 = j % 96 then (s.slot j).emptied else s.slot n := by
  have hslot : (offerEmptied j s).slot n = (s.modSlot j Slot.emptied).slot n := by simp [offerEmptied, State.slot]
  rw [hslot, State.modSlot_slot s j n _ hlength]

/-- What an expiry leaves of the part. -/
theorem offerExpired_kept {s : State} (hlength : s.sbk.slots.length = 96) (j : Nat) :
    let t := slotChanged j (offerEmptied j s)
    (∀ n, t.slot n = if n % 96 = j % 96 then (s.slot j).emptied else s.slot n) ∧
      t.pen = { s.pen with generation := s.pen.generation + 1 } ∧ EventsOnlyJoin s t ∧ (∀ tr, TrainKept tr s t) ∧
      t.sbk = { s.sbk with slots := t.sbk.slots } ∧
      t = { s with evr := t.evr, sbk := t.sbk, dsu := t.dsu, pen := t.pen } := by
  intro t
  have hempty : ((offerEmptied j s).slot j).state ≠ .committed := by
    rw [offerEmptied_slot hlength, if_pos rfl]; nofun
  obtain ⟨hkept, hciu, hhsu, hsbk, hpen⟩ := slotChanged_uncommitted hempty
  have hjoins : EventsOnlyJoin s (offerEmptied j s) :=
    EventsOnlyJoin.trans (b := s.modSlot j Slot.emptied) (.of_eq rfl) (emit_joins _ _ _ _ _ _)
  have hbook : (offerEmptied j s).sbk = (s.modSlot j Slot.emptied).sbk := by simp [offerEmptied]
  refine ⟨fun n => ?_, hpen.trans (by simp [offerEmptied]), hjoins.trans hkept.joins, fun tr => ?_, ?_, ?_⟩
  · rw [← offerEmptied_slot hlength, State.slot, hsbk]; rfl
  · exact TrainKept.trans (b := offerEmptied j s) (by simp [TrainKept, State.train, offerEmptied]) (hkept.trains tr)
  · rw [hsbk, hbook]; rfl
  · have hciu' : t.ciu = s.ciu := hciu.trans (by simp [offerEmptied])
    have hhsu' : t.hsu = s.hsu := hhsu.trans (by simp [offerEmptied])
    obtain ⟨hpins, hspi, hilr, hpck, harith, hsvc, hpending⟩ : t.pins = s.pins ∧ t.spi = s.spi ∧ t.ilr = s.ilr ∧
        t.pck = s.pck ∧ t.arith = s.arith ∧ t.svc = s.svc ∧ t.pending = s.pending := by simp [t, offerEmptied]
    rw [← hpins, ← hspi, ← hilr, ← hpck, ← hciu', ← hhsu', ← harith, ← hsvc, ← hpending]

/-- Settles O41: an aging pass answers over the work of `storesAged`, and an expiry over `offerEmptied`. -/
theorem agingAndExpiry : Obligations.AgingAndExpiry := by
  intro s hreset
  refine ⟨fun hdue => ?aging, fun j o m hlength hwindow hstate hoffer hmark hexpiry => ?expiry⟩
  case aging =>
    have hwork := storesAged_work s
    have hevent := hwork.answered True
    have hkept := answered_kept True (storesAged s) s
    have htimer := (answered_timer True (storesAged s) s).trans (storesAged_timer s)
    refine ⟨_, exec_agingPass hreset hdue, congrArg Prod.fst htimer, congrArg Prod.snd htimer,
      fun hpart => hwork.recheckPosted hpart trivial, fun st => ⟨fun hconf hstack => ?aged, fun hskip => ?skipped⟩,
      fun mode tBase d tSpent p => ⟨fun hopen => ?opened, fun hclosed => ?closed⟩,
      fun c => hkept.cavernAside (by rw [State.cavern, storesAged_ciu]; rfl), hwork.book hkept, hevent.trains,
      hevent.engine, hevent.arith, hevent.joins, hevent.state_eq⟩
    case aged =>
      obtain ⟨hrecord, hreach⟩ := (storesAged_aged hconf hstack).kept (hkept.stores st)
      exact ⟨hrecord.trans (by rw [hrecord]; rfl), heatOf_decayed_le .., hreach⟩
    case skipped => exact hkept.storeAside (storesAged_skipped hskip)
    case opened => exact ⟨decayParcel_opened hopen .., spentParcel_opened hopen tSpent⟩
    case closed =>
      rw [decayParcel_closed hclosed]
      exact ⟨rfl, rfl, spentParcel_closed hclosed tSpent⟩
  case expiry =>
    obtain ⟨hslot, hpen, hjoins, htrains, hsbk, hstate_eq⟩ := offerExpired_kept hlength j
    exact ⟨_, exec_offerExpiry hreset hwindow hstate hoffer hmark hexpiry, (hslot j).trans (if_pos rfl),
      fun n hn => (hslot n).trans (if_neg hn), by rw [hpen], ⟨by rw [hpen], .inl (by rw [hpen])⟩, hjoins, htrains, hsbk,
      hstate_eq⟩

end Sys2Proof.Machine
end

section
/-! PROOFS. The ledger of the part: the accounts of caverns and stores, the window of the book and the settlement ring,
and the operations that leave it as it was. -/

namespace Sys2Proof.Machine

/-! ## The ledger (R33, R46, R66, R78, R88) -/

/-- The account of a cavern: its mass and its counters (R33). -/
structure CavernAccount where
  mass : Nat
  loaded : Int
  filled : Int
  withdrawn : Int
  reconciled : Int

/-- The account of a store: the heats of its parcels from the top, its capacity and its counters (R46, R66). -/
structure StoreAccount where
  heats : List Nat
  capacity : Nat
  deposited : Int
  drawn : Int
  writtenOff : Int
  reconciled : Int

/-- What the bounds and balances of the part speak of (R1, R33, R47, R66, R78, R88). -/
structure Ledger where
  caverns : Cavern → CavernAccount
  stores : Store → StoreAccount
  current : Nat
  intervals : List Nat
  ring : List Settlement

@[simp] abbrev CavernRec.account (r : CavernRec) : CavernAccount :=
  ⟨r.mass, r.loaded, r.filled, r.withdrawn, r.reconciled⟩

@[simp] abbrev StoreRec.account (r : StoreRec) : StoreAccount :=
  ⟨r.stack.map Parcel.heat, r.capacity, r.deposited, r.drawn, r.writtenOff, r.reconciled⟩

def State.ledger (s : State) : Ledger where
  caverns c := (s.cavern c).account
  stores st := (s.store st).account
  current := s.sbk.current
  intervals := s.sbk.slots.map Slot.interval
  ring := s.sbk.ring

/-- Two states with the same units and the same book have the same ledger. -/
theorem ledger_congr {s t : State} (hc : t.ciu = s.ciu) (hh : t.hsu = s.hsu) (hb : t.sbk = s.sbk) :
    t.ledger = s.ledger := by
  simp [State.ledger, State.cavern, State.store, hc, hh, hb]

theorem foldl_ledger {α : Type} {f : State → α → State} (hf : ∀ s x, (f s x).ledger = s.ledger) (l : List α)
    (s : State) : (l.foldl f s).ledger = s.ledger :=
  foldl_keeps State.ledger f hf l s

/-! ## One record changed -/

@[simp] theorem modPort_ledger (s : State) (p : Port) (f : PortIface → PortIface) :
    (s.modPort p f).ledger = s.ledger := rfl
@[simp] theorem modEvents_ledger (s : State) (p : Port) (f : EventPort → EventPort) :
    (s.modEvents p f).ledger = s.ledger := rfl
@[simp] theorem modSource_ledger (s : State) (src : Source) (f : SourceRec → SourceRec) :
    (s.modSource src f).ledger = s.ledger := rfl
@[simp] theorem modTrain_ledger (s : State) (t : Train) (f : TrainRec → TrainRec) :
    (s.modTrain t f).ledger = s.ledger := rfl

theorem modCavern_ledger_eq (s : State) (c : Cavern) (f : CavernRec → CavernRec) :
    (s.modCavern c f).ledger = { s.ledger with
      caverns := fun d => if d = c then (f (s.cavern c)).account else (s.cavern d).account } := by
  simp only [State.ledger, State.modCavern_cavern, apply_ite CavernRec.account]
  rfl

theorem modStore_ledger_eq (s : State) (st : Store) (f : StoreRec → StoreRec) :
    (s.modStore st f).ledger = { s.ledger with
      stores := fun d => if d = st then (f (s.store st)).account else (s.store d).account } := by
  simp only [State.ledger, State.modStore_store, apply_ite StoreRec.account]
  rfl

@[simp] theorem modCavern_ledger {s : State} {c : Cavern} {f : CavernRec → CavernRec}
    (h : (f (s.cavern c)).account = (s.cavern c).account) : (s.modCavern c f).ledger = s.ledger := by
  have hkept : (fun d => if d = c then (s.cavern c).account else (s.cavern d).account) = s.ledger.caverns :=
    funext fun d => by split <;> simp [*, State.ledger]
  rw [modCavern_ledger_eq, h, hkept]

@[simp] theorem modStore_ledger {s : State} {st : Store} {f : StoreRec → StoreRec}
    (h : (f (s.store st)).account = (s.store st).account) : (s.modStore st f).ledger = s.ledger := by
  have hkept : (fun d => if d = st then (s.store st).account else (s.store d).account) = s.ledger.stores :=
    funext fun d => by split <;> simp [*, State.ledger]
  rw [modStore_ledger_eq, h, hkept]

theorem modSlot_ledger_eq (s : State) (n : Nat) (f : Slot → Slot) :
    (s.modSlot n f).ledger = { s.ledger with
      intervals := s.ledger.intervals.set (n % 96) (f (s.slot n)).interval } := by
  simp [State.ledger, State.modSlot, State.cavern, State.store, List.map_set, Config.slotCount]

/-- A slot keeps the interval it holds. -/
@[simp] theorem modSlot_ledger {s : State} {n : Nat} {f : Slot → Slot}
    (h : (f (s.slot n)).interval = (s.slot n).interval) : (s.modSlot n f).ledger = s.ledger := by
  rw [modSlot_ledger_eq, h]
  suffices hset : s.ledger.intervals.set (n % 96) (s.slot n).interval = s.ledger.intervals by rw [hset]
  by_cases hn : n % 96 < s.sbk.slots.length
  case pos =>
    refine List.ext_getElem (by simp) fun i hi _ => ?_
    rw [List.getElem_set]
    split
    case isTrue e => subst e; simp [State.ledger, State.slot, Config.slotCount, hn]
    case isFalse => rfl
  case neg => exact List.set_eq_of_length_le (by simpa [State.ledger] using hn)

/-! ## Events, captures, the engine's queue and the hold monitor (R22, R94, R114, R165) -/

@[simp] theorem route_ledger (s : State) (r : EventRecord) : (s.route r).ledger = s.ledger := rfl

@[simp] theorem emit_ledger (kind : EventKind) (cls : EventClass) (subject : Subject) (w1 w2 : Int) (s : State) :
    (emit kind cls subject w1 w2 s).ledger = s.ledger := ledger_congr (by simp) (by simp) (by simp)

@[simp] theorem capture_ledger (code : ExcCode) (source : ExcSource) (subject : Subject) (slot : Option Nat)
    (s : State) : (capture code source subject slot s).ledger = s.ledger := ledger_congr (by simp) (by simp) (by simp)

@[simp] theorem raise_ledger (exc : Option ExcCode) (source : ExcSource) (subject : Subject) (s : State) :
    (raise exc source subject s).ledger = s.ledger := ledger_congr (by simp) (by simp) (by simp)

@[simp] theorem bumpGeneration_ledger (s : State) : (bumpGeneration s).ledger = s.ledger := rfl

@[simp] theorem postRecheck_ledger (s : State) : (postRecheck s).ledger = s.ledger :=
  ledger_congr (by simp) (by simp) (by simp)

@[simp] theorem postRecheckInService_ledger (s : State) : (postRecheckInService s).ledger = s.ledger :=
  ledger_congr (by simp) (by simp) (by simp)

@[simp] theorem placeNow_ledger (p : Port) (bytes : List Byte) (s : State) :
    (placeNow p bytes s).ledger = s.ledger := rfl

@[simp] theorem placeLater_ledger (p : Port) (bytes : List Byte) (s : State) :
    (placeLater p bytes s).ledger = s.ledger := rfl

@[simp] theorem evalHold_ledger (s : State) : (evalHold s).ledger = s.ledger :=
  ledger_congr (by simp) (by simp) (by simp)

@[simp] theorem inventoryChangeIf_ledger (changed : Bool) (s : State) :
    (inventoryChangeIf changed s).ledger = s.ledger := ledger_congr (by simp) (by simp) (by simp)

/-! ## Conditions and figures of a cavern (R30, R37 to R40) -/

@[simp] theorem emitCond_ledger (c : Cavern) (k : CavernCond) (entered : Bool) (s : State) :
    (emitCond c k entered s).ledger = s.ledger := ledger_congr (by simp) (by simp) (by simp)

@[simp] theorem setCond_account (r : CavernRec) (k : CavernCond) (v : Bool) : (r.setCond k v).account = r.account := by
  cases k <;> rfl

@[simp] theorem changeCond_ledger (c : Cavern) (k : CavernCond) (v : Bool) (s : State) :
    (changeCond c k v s).ledger = s.ledger := by
  rw [changeCond]
  split
  · rfl
  · rw [emitCond_ledger, modCavern_ledger (setCond_account ..)]

@[simp] theorem evalMassConds_ledger (c : Cavern) (s : State) : (evalMassConds c s).ledger = s.ledger := by
  simp only [evalMassConds]
  split <;> simp

@[simp] theorem evalRateHold_ledger (c : Cavern) (s : State) : (evalRateHold c s).ledger = s.ledger := by
  simp only [evalRateHold]
  split <;> simp

@[simp] theorem evalBreach_ledger (c : Cavern) (s : State) : (evalBreach c s).ledger = s.ledger := by
  simp only [evalBreach]
  repeat' split
  all_goals simp

@[simp] theorem recomputeBands_ledger (c : Cavern) (s : State) : (recomputeBands c s).ledger = s.ledger := by
  refine modCavern_ledger ?_
  split <;> rfl

@[simp] theorem recomputeLimits_ledger (c : Cavern) (s : State) : (recomputeLimits c s).ledger = s.ledger := by
  simp only [recomputeLimits]
  repeat' split
  all_goals simp

@[simp] theorem recomputeBudget_ledger (c : Cavern) (s : State) : (recomputeBudget c s).ledger = s.ledger := by
  simp only [recomputeBudget]
  repeat' split
  all_goals simp

@[simp] theorem recomputeEstimate_ledger (c : Cavern) (s : State) : (recomputeEstimate c s).ledger = s.ledger := by
  simp only [recomputeEstimate]
  repeat' split
  all_goals simp

@[simp] theorem recomputeKept_ledger (c : Cavern) (s : State) : (recomputeKept c s).ledger = s.ledger := by
  simp only [recomputeKept]
  repeat' split
  all_goals simp

@[simp] theorem renewBudget_ledger (c : Cavern) (s : State) : (renewBudget c s).ledger = s.ledger := by
  simp [renewBudget]

@[simp] theorem attachCavern_ledger (c : Cavern) (t : Train) (s : State) : (attachCavern c t s).ledger = s.ledger :=
  modCavern_ledger rfl

@[simp] theorem releaseCavern_ledger (c : Cavern) (t : Train) (lost : Bool) (s : State) :
    (releaseCavern c t lost s).ledger = s.ledger := modCavern_ledger rfl

/-! ## Flags and figures of a store (R53 to R59) -/

@[simp] theorem enterFull_ledger (st : Store) (x : Nat) (s : State) : (enterFull st x s).ledger = s.ledger := by
  simp only [enterFull]
  split <;> simp

@[simp] theorem releaseFull_ledger (st : Store) (s : State) : (releaseFull st s).ledger = s.ledger := by
  simp only [releaseFull]
  split <;> simp

@[simp] theorem shortDraw_ledger (st : Store) (deficit needed : Nat) (s : State) :
    (shortDraw st deficit needed s).ledger = s.ledger := by
  simp only [shortDraw]
  split <;> simp

@[simp] theorem leaveShort_ledger (st : Store) (s : State) : (leaveShort st s).ledger = s.ledger := by
  simp only [leaveShort]
  split <;> simp

@[simp] theorem evalReachable_ledger (st : Store) (s : State) : (evalReachable st s).ledger = s.ledger := by
  simp only [evalReachable]
  split <;> simp

@[simp] theorem attachStore_ledger (st : Store) (t : Train) (s : State) : (attachStore st t s).ledger = s.ledger :=
  modStore_ledger (by split <;> rfl)

@[simp] theorem closeTop_heats (ps : List Parcel) : (closeTop ps).map Parcel.heat = ps.map Parcel.heat := by
  cases ps <;> rfl

/-- The end of an attachment closes a parcel, and moves no heat (R49, R55). -/
@[simp] theorem without_account (r : StoreRec) (t : Train) (lost : Bool) : (r.without t lost).account = r.account := by
  simp only [StoreRec.without]
  repeat' split
  all_goals simp

@[simp] theorem releaseStore_ledger (st : Store) (t : Train) (lost : Bool) (s : State) :
    (releaseStore st t lost s).ledger = s.ledger := by
  simp only [releaseStore]
  split <;> simp [-StoreRec.account]

/-! ## The Dispatch Unit (chapter 6) -/

@[simp] theorem markShort_ledger (pl : Plan) (power : Nat) (s : State) : (markShort pl power s).ledger = s.ledger := by
  simp only [markShort]
  repeat' split
  all_goals simp

@[simp] theorem setOrder_ledger (pl : Plan) (t : Train) (s : State) : (setOrder pl t s).ledger = s.ledger := rfl

@[simp] theorem split_ledger (s : State) : (split s).ledger = s.ledger := by
  rw [split, markShort_ledger]
  exact foldl_ledger (fun s t => setOrder_ledger _ t s) ..

@[simp] theorem commitOrder_ledger (before : Dsu) (s : State) (t : Train) :
    (commitOrder before s t).ledger = s.ledger := by
  simp only [commitOrder]
  split <;> simp

@[simp] theorem stageOrder_ledger (pl : Plan) (interval : Nat) (s : State) (t : Train) :
    (stageOrder pl interval s t).ledger = s.ledger := by
  simp only [stageOrder]
  repeat' split
  all_goals simp

@[simp] theorem stagedSplit_ledger (s : State) : (stagedSplit s).ledger = s.ledger := by
  simp only [stagedSplit]
  repeat' split
  · exact foldl_ledger (stageOrder_ledger _ _) ..
  · rfl
  · rfl

@[simp] theorem runSplit_ledger (before : Dsu) (s : State) : (runSplit before s).ledger = s.ledger := by
  rw [runSplit, stagedSplit_ledger, commitOrders, foldl_ledger (commitOrder_ledger before), split_ledger]

@[simp] theorem attachTrain_ledger (t : Train) (a : Attachment) (s : State) :
    (attachTrain t a s).ledger = s.ledger := by
  simp [attachTrain]

@[simp] theorem grant_ledger (t : Train) (a : Attachment) (s : State) : (grant t a s).ledger = s.ledger := by
  simp [grant]

/-- A state with another Dispatch Unit. -/
@[simp] theorem withDsu_ledger (s : State) (d : Dsu) : ({ s with dsu := d } : State).ledger = s.ledger := rfl
@[simp] theorem withPck_ledger (s : State) (x : Pck) : ({ s with pck := x } : State).ledger = s.ledger := rfl
@[simp] theorem withPen_ledger (s : State) (x : Pen) : ({ s with pen := x } : State).ledger = s.ledger := rfl
@[simp] theorem withSvc_ledger (s : State) (x : Svc) : ({ s with svc := x } : State).ledger = s.ledger := rfl
@[simp] theorem withArith_ledger (s : State) (x : Arith) : ({ s with arith := x } : State).ledger = s.ledger := rfl
@[simp] theorem withPins_ledger (s : State) (x : Pins) : ({ s with pins := x } : State).ledger = s.ledger := rfl

@[simp] theorem grantQueued_ledger (t : Train) (a : Attachment) (s : State) :
    (grantQueued t a s).ledger = s.ledger := by
  simp [grantQueued]

@[simp] theorem examineEntry_ledger (s : State) (t : Train) : (examineEntry s t).ledger = s.ledger := by
  simp only [examineEntry]
  repeat' split
  all_goals simp

@[simp] theorem examineQueue_ledger (s : State) : (examineQueue s).ledger = s.ledger :=
  foldl_ledger examineEntry_ledger ..

@[simp] theorem lapsePermit_ledger (cause : Nat) (s : State) (t : Train) :
    (lapsePermit cause s t).ledger = s.ledger := by
  simp [lapsePermit]

@[simp] theorem stopTrain_ledger (s : State) (t : Train) : (stopTrain s t).ledger = s.ledger := rfl
@[simp] theorem holdTrain_ledger (s : State) (t : Train) : (holdTrain s t).ledger = s.ledger := rfl
@[simp] theorem unholdTrain_ledger (s : State) (t : Train) : (unholdTrain s t).ledger = s.ledger := rfl

@[simp] theorem stopTrains_ledger (ts : List Train) (s : State) : (stopTrains ts s).ledger = s.ledger := by
  simp only [stopTrains]
  split
  · rw [runSplit_ledger]; exact foldl_ledger stopTrain_ledger ..
  · rfl

@[simp] theorem releaseAttachment_ledger (t : Train) (lost : Bool) (s : State) :
    (releaseAttachment t lost s).ledger = s.ledger := by
  simp only [releaseAttachment]
  split <;> simp

@[simp] theorem emitTripped_ledger (t : Train) (cause : TripCause) (target : Nat) (s : State) :
    (emitTripped t cause target s).ledger = s.ledger := emit_ledger ..

theorem trip_ledger (t : Train) (cause : TripCause) {event : State → State} (h : ∀ s, (event s).ledger = s.ledger)
    (s : State) : (trip t cause event s).ledger = s.ledger := by
  simp [trip, h]

@[simp] theorem trip_emitTripped_ledger (t : Train) (cause c : TripCause) (target : Nat) (s : State) :
    (trip t cause (emitTripped t c target) s).ledger = s.ledger := trip_ledger t cause (emitTripped_ledger t c target) s

@[simp] theorem trip_emit_ledger (t : Train) (cause : TripCause) (kind : EventKind) (cls : EventClass)
    (subject : Subject) (w1 w2 : Int) (s : State) : (trip t cause (emit kind cls subject w1 w2) s).ledger = s.ledger :=
  trip_ledger t cause (emit_ledger kind cls subject w1 w2) s

@[simp] theorem endPermit_ledger (t : Train) (s : State) : (endPermit t s).ledger = s.ledger := by
  simp [endPermit]

@[simp] theorem releaseGranted_ledger (t : Train) (s : State) : (releaseGranted t s).ledger = s.ledger := by
  simp [releaseGranted]

@[simp] theorem releaseQueued_ledger (t : Train) (s : State) : (releaseQueued t s).ledger = s.ledger := by
  simp [releaseQueued]

@[simp] theorem examineIfAdmitted_ledger (before : View) (s : State) :
    (examineIfAdmitted before s).ledger = s.ledger := by
  rw [examineIfAdmitted]
  split <;> simp

@[simp] theorem handSlotChange_ledger (j : Nat) (s : State) : (handSlotChange j s).ledger = s.ledger := by
  simp only [handSlotChange]
  repeat' split
  all_goals simp

@[simp] theorem slotChanged_ledger (j : Nat) (s : State) : (slotChanged j s).ledger = s.ledger := by
  simp [slotChanged]

@[simp] theorem handReserve_ledger (net : Int) (s : State) : (handReserve net s).ledger = s.ledger := by
  simp [handReserve]

@[simp] theorem stageNext_ledger (s : State) : (stageNext s).ledger = s.ledger := by
  simp [stageNext]

@[simp] theorem handOver_ledger (s : State) : (handOver s).ledger = s.ledger := by
  have hover (u : State) : (allTrains.foldl (fun s t => s.modTrain t TrainRec.handedOver) u).ledger = u.ledger :=
    foldl_ledger (fun s t => modTrain_ledger s t _) ..
  simp only [handOver, commitOrders]
  split <;> simp [foldl_ledger, hover]

@[simp] theorem directionTest_ledger (s : State) : (directionTest s).ledger = s.ledger :=
  foldl_ledger (lapsePermit_ledger 1) ..

/-! ## The hand-offs of one event (R40, R45, R70) -/

@[simp] theorem respond_ledger (before : State) (atBoundary : Bool) (s : State) :
    (respond before atBoundary s).ledger = s.ledger := by
  rw [respond]
  generalize (if atBoundary = true then [] else freeList before s) = frees
  split
  · rw [runSplit_ledger, foldl_ledger unholdTrain_ledger, foldl_ledger holdTrain_ledger, foldl_ledger stopTrain_ledger]
  · rfl

@[simp] theorem examineIf_ledger (asked : Bool) (s : State) : (examineIf asked s).ledger = s.ledger := by
  rw [examineIf]
  split <;> simp

@[simp] theorem handOn_ledger (before : State) (atBoundary always : Bool) (s : State) :
    (handOn before atBoundary always s).ledger = s.ledger := by
  simp [handOn]

@[simp] theorem plantEvent_ledger (f : State → State) (s : State) : (plantEvent f s).ledger = (f s).ledger :=
  handOn_ledger ..

@[simp] theorem loadEvent_ledger (f : State → State) (s : State) : (loadEvent f s).ledger = (f s).ledger :=
  handOn_ledger ..

@[simp] theorem boundaryCaverns_ledger (s : State) : (boundaryCaverns s).ledger = s.ledger := by
  simp [boundaryCaverns]

@[simp] theorem takePinChange_ledger (code : BitVec 3) (side : BandSide) (s : State) :
    (takePinChange code side s).ledger = s.ledger := by
  simp only [takePinChange, postRecheck_ledger, plantEvent_ledger, evalMassConds_ledger, recomputeBands_ledger]
  rfl

end Sys2Proof.Machine
end

section
/-! PROOFS. The operations of the Report Intake, the Position Engine, the Plant Clock, the Service Controller and the port
interface that leave the ledger as it was. -/

namespace Sys2Proof.Machine

/-! ## The Report Intake (chapter 7) -/

@[simp] theorem raiseLimits_ledger (t : Train) (l : ReportLimits) (s : State) : (raiseLimits t l s).ledger = s.ledger :=
  ledger_congr (by simp) (by simp) (by simp)

@[simp] theorem emitClamped_ledger (t : Train) (set elapsed : Nat) (s : State) :
    (emitClamped t set elapsed s).ledger = s.ledger := ledger_congr (by simp) (by simp) (by simp)

@[simp] theorem restartTiming_ledger (t : Train) (s : State) : (restartTiming t s).ledger = s.ledger := rfl

@[simp] theorem addDelivered_ledger (x : Int) (s : State) : (addDelivered x s).ledger = s.ledger := by
  simp only [addDelivered]
  split
  · simp
  · rw [raise_ledger]; rfl

@[simp] theorem closeIntegration_ledger (second : Nat) (s : State) : (closeIntegration second s).ledger = s.ledger := by
  simp only [closeIntegration]
  split <;> simp

@[simp] theorem reportSchedule_ledger (t : Train) (energy : Nat) (s : State) :
    (reportSchedule t energy s).ledger = s.ledger := by
  simp [reportSchedule]

@[simp] theorem derate_ledger (t : Train) (power : Nat) (s : State) : (derate t power s).ledger = s.ledger := by
  simp [derate]

@[simp] theorem settleCheck_ledger (t : Train) (power : Nat) (s : State) :
    (settleCheck t power s).ledger = s.ledger := by
  simp only [settleCheck]
  repeat' split
  all_goals simp

@[simp] theorem movePermit_ledger (t : Train) (x : Report) (s : State) : (movePermit t x s).ledger = s.ledger := by
  simp only [movePermit]
  repeat' split
  all_goals simp

@[simp] theorem reportDispatch_ledger (t : Train) (x : Report) (s : State) :
    (reportDispatch t x s).ledger = s.ledger := by
  simp only [reportDispatch]
  split <;> simp [bookReport]

@[simp] theorem takeLate_ledger (t : Train) (s : State) : (takeLate t s).ledger = s.ledger :=
  ledger_congr (by simp) (by simp) (by simp)

@[simp] theorem takeOverdue_ledger (t : Train) (s : State) : (takeOverdue t s).ledger = s.ledger := by
  simp only [takeOverdue]
  split <;> simp

@[simp] theorem takeLost_ledger (t : Train) (s : State) : (takeLost t s).ledger = s.ledger := by
  simp only [takeLost]
  split <;> simp

@[simp] theorem takeRungs_ledger (s : State) (t : Train) : (takeRungs s t).ledger = s.ledger := by
  simp [takeRungs]

/-! ## The Position Engine (chapter 5) -/

@[simp] theorem freeEngine_ledger (s : State) : (freeEngine s).ledger = s.ledger := rfl
@[simp] theorem setFlight_ledger (f : Option Flight) (s : State) : (setFlight f s).ledger = s.ledger := rfl
@[simp] theorem dropWalk_ledger (s : State) : (dropWalk s).ledger = s.ledger := rfl
@[simp] theorem writeLimit_ledger (l : Limit) (s : State) : (writeLimit l s).ledger = s.ledger := rfl
@[simp] theorem endWalk_ledger (a : Answer) (s : State) : (endWalk a s).ledger = s.ledger := rfl

@[simp] theorem launch_ledger (request : Option Request) (restart : Bool) (s : State) :
    (launch request restart s).ledger = s.ledger := ledger_congr (by simp) (by simp) (by simp)

@[simp] theorem startWalk_ledger (s : State) : (startWalk s).ledger = s.ledger :=
  ledger_congr (by simp) (by simp) (by simp)

@[simp] theorem raiseWalk_ledger (b : Base) (candidate : Option Nat) (s : State) (x : Option ExcCode × Nat) :
    (raiseWalk b candidate s x).ledger = s.ledger := ledger_congr (by simp) (by simp) (by simp)

@[simp] theorem modSlot_emptied_ledger (s : State) (n : Nat) : (s.modSlot n Slot.emptied).ledger = s.ledger :=
  modSlot_ledger rfl

@[simp] theorem settleOffer_ledger (j up down : Nat) (n : Int) (ref : BitVec 32) (a : Ability) (stale : Bool)
    (s : State) : (settleOffer j up down n ref a stale s).ledger = s.ledger := by
  simp only [settleOffer]
  split <;> simp

@[simp] theorem settleConfirm_ledger (j : Nat) (value : Int) (a : Ability) (stale : Bool) (s : State) :
    (settleConfirm j value a stale s).ledger = s.ledger := by
  simp only [settleConfirm]
  repeat' split
  all_goals simp

@[simp] theorem settleRequest_ledger (r : Request) (a : Ability) (stale : Bool) (s : State) :
    (settleRequest r a stale s).ledger = s.ledger := by
  simp only [settleRequest]
  repeat' split
  all_goals simp

@[simp] theorem completeRequest_ledger (r : Request) (b : Base) (restart : Bool) (s : State) :
    (completeRequest r b restart s).ledger = s.ledger := by
  simp only [completeRequest]
  split <;> simp [foldl_ledger]

@[simp] theorem markSlot_ledger (s : State) (p : Slot × WalkStep) : (markSlot s p).ledger = s.ledger := by
  simp only [markSlot]
  repeat' split
  all_goals simp

@[simp] theorem completeRecheck_ledger (b : Base) (s : State) : (completeRecheck b s).ledger = s.ledger := by
  simp [completeRecheck, foldl_ledger]

@[simp] theorem completeOffer_ledger (s : State) : (completeOffer s).ledger = s.ledger := by
  rw [completeOffer]
  split <;> simp

@[simp] theorem completeConfirm_ledger (s : State) : (completeConfirm s).ledger = s.ledger := by
  rw [completeConfirm]
  split <;> simp

@[simp] theorem completeFlownRecheck_ledger (s : State) : (completeFlownRecheck s).ledger = s.ledger := by
  rw [completeFlownRecheck]
  split <;> simp

@[simp] theorem lapseWalk_ledger (s : State) : (lapseWalk s).ledger = s.ledger :=
  ledger_congr (by simp) (by simp) (by simp)

@[simp] theorem refuseWalk_ledger (s : State) : (refuseWalk s).ledger = s.ledger :=
  ledger_congr (by simp) (by simp) (by simp)

/-! ## The Plant Clock (chapter 4) -/

@[simp] theorem staleCopy_ledger (src : Source) (s : State) : (staleCopy src s).ledger = s.ledger := by
  cases src <;> simp [staleCopy]

@[simp] theorem takeStale_ledger (s : State) (src : Source) : (takeStale s src).ledger = s.ledger := by
  simp only [takeStale]
  split <;> simp

@[simp] theorem takeStaleTo_ledger (src : Source) (s : State) : (takeStaleTo src s).ledger = s.ledger := by
  simp only [takeStaleTo]
  split <;> simp [foldl_ledger]

@[simp] theorem lapseOffer_ledger (s : State) (j : Nat) : (lapseOffer s j).ledger = s.ledger := by
  simp only [lapseOffer]
  split <;> simp

@[simp] theorem takeExpiry_ledger (s : State) (j : Nat) : (takeExpiry s j).ledger = s.ledger := by
  rw [takeExpiry]
  split <;> simp

@[simp] theorem emptyOffers_ledger (s : State) : (emptyOffers s).ledger = s.ledger := foldl_ledger lapseOffer_ledger ..

@[simp] theorem takeStaging_ledger (s : State) : (takeStaging s).ledger = s.ledger := by
  rw [takeStaging]
  split <;> simp

@[simp] theorem openSlot_ledger (s : State) : (openSlot s).ledger = s.ledger := by
  simp only [openSlot]
  split <;> simp

@[simp] theorem countAdvance_ledger (s : State) : (countAdvance s).ledger = s.ledger := by
  have hcavern (c : Cavern) : ((countAdvance s).cavern c).account = (s.cavern c).account := by
    cases c <;> simp only [countAdvance, State.cavern, Ciu.get, countStable] <;> split <;> rfl
  have hstore (st : Store) : (countAdvance s).store st = s.store st := countAging_store ..
  simp only [State.ledger, hcavern, hstore]
  rfl

@[simp] theorem noteMoment_ledger (now : Nat) (s : State) : (noteMoment now s).ledger = s.ledger := rfl

@[simp] theorem endHoldover_ledger (s : State) : (endHoldover s).ledger = s.ledger :=
  ledger_congr (by simp) (by simp) (by simp)

/-! ## The Service Controller (chapter 11) -/

@[simp] theorem setPart_ledger (new : PartState) (s : State) : (setPart new s).ledger = s.ledger := emit_ledger ..
@[simp] theorem setPresence_ledger (p : Port) (v : Presence) (s : State) : (setPresence p v s).ledger = s.ledger := rfl

@[simp] theorem declare_ledger (p : Port) (s : State) : (declare p s).ledger = s.ledger := by
  simp only [declare]
  split <;> simp

@[simp] theorem lapseQueued_ledger (cause : Nat) (ts : List Train) (s : State) :
    (lapseQueued cause ts s).ledger = s.ledger := foldl_ledger (lapsePermit_ledger cause) ..

@[simp] theorem tripPort_ledger (s : State) (t : Train) : (tripPort s t).ledger = s.ledger := by
  rw [tripPort]
  split <;> simp

@[simp] theorem dispatchLeaves_ledger (p : Port) (absent : Bool) (s : State) :
    (dispatchLeaves p absent s).ledger = s.ledger := by
  simp only [dispatchLeaves]
  split <;> simp [foldl_ledger]

@[simp] theorem tradeLeaves_ledger (absent : Bool) (s : State) : (tradeLeaves absent s).ledger = s.ledger := by
  rw [tradeLeaves]
  split <;> simp

@[simp] theorem lowerPresence_ledger (p : Port) (new : Presence) (s : State) :
    (lowerPresence p new s).ledger = s.ledger := by
  simp only [lowerPresence]
  repeat' split
  all_goals simp

@[simp] theorem parkPort_ledger (s : State) (p : Port) : (parkPort s p).ledger = s.ledger := rfl

@[simp] theorem dispatchParks_ledger (s : State) : (dispatchParks s).ledger = s.ledger := by
  have hpark (u : State) : (allTrains.foldl (fun s t => s.modTrain t TrainRec.parked) u).ledger = u.ledger :=
    foldl_ledger (fun s t => modTrain_ledger s t _) ..
  rw [dispatchParks, runSplit_ledger, foldl_ledger stopTrain_ledger, hpark, lapseQueued_ledger]

@[simp] theorem parkPart_ledger (s : State) : (parkPart s).ledger = s.ledger := by
  simp [parkPart]

@[simp] theorem takePresentFall_ledger (p : Port) (s : State) : (takePresentFall p s).ledger = s.ledger := by
  simp only [takePresentFall]
  split <;> simp

@[simp] theorem takePresentRise_ledger (p : Port) (s : State) : (takePresentRise p s).ledger = s.ledger := by
  simp only [takePresentRise]
  repeat' split
  all_goals simp

@[simp] theorem takeResetFall_ledger (s : State) : (takeResetFall s).ledger = s.ledger := rfl
@[simp] theorem setPresentPin_ledger (p : Port) (v : Bool) (s : State) : (setPresentPin p v s).ledger = s.ledger := rfl

/-! ## The port interface (chapter 10) -/

@[simp] theorem placeTaken_ledger (p : Port) (form : Answer → List Byte) (t : Taken) :
    (placeTaken p form t).ledger = t.1.ledger := by
  rw [placeTaken]
  split <;> rfl

@[simp] theorem uncollect_ledger (p : Port) (s : State) : (uncollect p s).ledger = s.ledger := rfl
@[simp] theorem addSlots_ledger (p : Port) (n : Nat) (s : State) : (addSlots p n s).ledger = s.ledger := rfl
@[simp] theorem collect_ledger (p : Port) (streamed : Bool) (bytes : List Byte) (s : State) :
    (collect p streamed bytes s).ledger = s.ledger := rfl
@[simp] theorem setStream_ledger (p : Port) (v : Bool) (s : State) : (setStream p v s).ledger = s.ledger := rfl
@[simp] theorem takeSelectFall_ledger (p : Port) (s : State) : (takeSelectFall p s).ledger = s.ledger := rfl

end Sys2Proof.Machine
end

section
/-! PROOFS. What an operation may do to the ledger: the bounds and balances it keeps, and the operations that move an
account of a cavern or a store. -/

namespace Sys2Proof.Machine

/-! ## Bounds and balances of a ledger (R1, R33, R47, R66, R78, R88) -/

/-- A counter that at most `k` operations have moved since it was far from the ends of its range. -/
def Near (k : Nat) (x : Int) : Prop :=
  -(4611686018427387904 + k * 4294967296 : Int) ≤ x ∧ x ≤ 4611686018427387904 + k * 4294967296

/-- A balanced account of a cavern, its counters not yet near the ends of their range. -/
def CavernAccount.Sound (k : Nat) (a : CavernAccount) : Prop :=
  (a.mass : Int) = a.loaded + a.filled - a.withdrawn + a.reconciled ∧ a.mass ≤ 100000000 ∧
    Near k a.filled ∧ Near k a.withdrawn ∧ Near k a.reconciled

/-- A balanced account of a store, its counters not yet near the ends of their range. -/
def StoreAccount.Sound (k : Nat) (a : StoreAccount) : Prop :=
  (a.heats.sum : Int) = a.deposited - a.drawn - a.writtenOff + a.reconciled ∧ a.heats.sum ≤ a.capacity ∧
    a.capacity ≤ 20000000 ∧ Near k a.deposited ∧ Near k a.drawn ∧ Near k a.writtenOff ∧ Near k a.reconciled

/-- The record at an index holds the interval of the window that falls on it (R78). -/
def Ledger.Indexed (l : Ledger) : Prop :=
  l.intervals.length = 96 ∧ ∀ n, n < 96 → l.intervals[(l.current + n) % 96]? = some (l.current + n)

/-- What leads from one ledger to another keeps the ring and the stacks in their bounds and the window indexed, and with
no more than `n` moves of an account the accounts sound. -/
structure Ledger.Lawful (n : Nat) (a b : Ledger) : Prop where
  ring : a.ring.length ≤ 32 → b.ring.length ≤ 32
  indexed : a.Indexed → b.Indexed
  parcels : (∀ st, (a.stores st).heats.length ≤ 24) → ∀ st, (b.stores st).heats.length ≤ 24
  caverns : ∀ k, k + n ≤ 1000 → (∀ c, (a.caverns c).Sound k) → ∀ c, (b.caverns c).Sound (k + n)
  stores : ∀ k, k + n ≤ 1000 → (∀ st, (a.stores st).Sound k) → ∀ st, (b.stores st).Sound (k + n)

theorem Near.mono {k m : Nat} {x : Int} (h : Near k x) (hm : k ≤ m) : Near m x := by
  simp only [Near] at *; omega

/-- A counter that is not yet near the ends of its range takes an amount without saturating. -/
theorem Near.add {k : Nat} {x d : Int} (h : Near k x) (hk : k + 1 ≤ 1000) (hd : -4294967296 ≤ d ∧ d ≤ 4294967296) :
    (saturateCounter (x + d)).val = x + d ∧ Near (k + 1) (x + d) := by
  simp only [Near] at *
  exact ⟨saturateCounter_val (by omega) (by omega), by omega⟩

theorem CavernAccount.Sound.mono {k m : Nat} {a : CavernAccount} (h : a.Sound k) (hm : k ≤ m) : a.Sound m := by
  obtain ⟨hbalance, htop, hfilled, hwithdrawn, hreconciled⟩ := h
  exact ⟨hbalance, htop, hfilled.mono hm, hwithdrawn.mono hm, hreconciled.mono hm⟩

theorem StoreAccount.Sound.mono {k m : Nat} {a : StoreAccount} (h : a.Sound k) (hm : k ≤ m) : a.Sound m := by
  obtain ⟨hbalance, hsum, hcap, hdeposited, hdrawn, hwritten, hreconciled⟩ := h
  exact ⟨hbalance, hsum, hcap, hdeposited.mono hm, hdrawn.mono hm, hwritten.mono hm, hreconciled.mono hm⟩

namespace Ledger.Lawful

theorem of_eq {n : Nat} {a b : Ledger} (h : b = a) : Lawful n a b := by
  subst h
  exact ⟨id, id, id, fun k _ hs c => (hs c).mono (Nat.le_add_right k n),
    fun k _ hs st => (hs st).mono (Nat.le_add_right k n)⟩

theorem trans {n m : Nat} {a b c : Ledger} (h : Lawful n a b) (g : Lawful m b c) : Lawful (n + m) a c where
  ring := g.ring ∘ h.ring
  indexed := g.indexed ∘ h.indexed
  parcels := g.parcels ∘ h.parcels
  caverns k hk hs := by rw [← Nat.add_assoc]; exact g.caverns _ (by omega) (h.caverns k (by omega) hs)
  stores k hk hs := by rw [← Nat.add_assoc]; exact g.stores _ (by omega) (h.stores k (by omega) hs)

theorem mono {n m : Nat} {a b : Ledger} (h : Lawful n a b) (hm : n ≤ m) : Lawful m a b := by
  have := h.trans (of_eq (n := m - n) rfl)
  rwa [Nat.add_sub_cancel' hm] at this

end Ledger.Lawful

/-! ## One account moved -/

/-- A move of one cavern's account. -/
def CavernMove (a b : CavernAccount) : Prop := ∀ k, k + 1 ≤ 1000 → a.Sound k → b.Sound (k + 1)

/-- A move of one store's account. -/
def StoreMove (a b : StoreAccount) : Prop :=
  (a.heats.length ≤ 24 → b.heats.length ≤ 24) ∧ ∀ k, k + 1 ≤ 1000 → a.Sound k → b.Sound (k + 1)

/-- A ledger with another account of one cavern. -/
def Ledger.withCavern (l : Ledger) (c : Cavern) (a : CavernAccount) : Ledger :=
  { l with caverns := fun d => if d = c then a else l.caverns d }

/-- A ledger with another account of one store. -/
def Ledger.withStore (l : Ledger) (st : Store) (a : StoreAccount) : Ledger :=
  { l with stores := fun d => if d = st then a else l.stores d }

theorem modCavern_withCavern (s : State) (c : Cavern) (f : CavernRec → CavernRec) :
    (s.modCavern c f).ledger = s.ledger.withCavern c (f (s.cavern c)).account := modCavern_ledger_eq s c f

theorem modStore_withStore (s : State) (st : Store) (f : StoreRec → StoreRec) :
    (s.modStore st f).ledger = s.ledger.withStore st (f (s.store st)).account := modStore_ledger_eq s st f

@[simp] theorem Ledger.withStore_withStore (l : Ledger) (st : Store) (a b : StoreAccount) :
    (l.withStore st a).withStore st b = l.withStore st b := by
  simp only [withStore, Ledger.mk.injEq, true_and, and_true]
  funext d
  split <;> rfl

@[simp] theorem Ledger.withStore_same (l : Ledger) (st : Store) (a : StoreAccount) :
    (l.withStore st a).stores st = a := if_pos rfl

theorem Ledger.withStore_self (l : Ledger) (st : Store) : l.withStore st (l.stores st) = l := by
  simp only [withStore]
  congr
  funext d
  split <;> simp [*]

theorem Ledger.Lawful.cavern {l : Ledger} {c : Cavern} {a : CavernAccount} (h : CavernMove (l.caverns c) a) :
    Lawful 1 l (l.withCavern c a) where
  ring := id
  indexed := id
  parcels := id
  caverns k hk hs d := by
    simp only [withCavern]
    split
    · exact h k hk (hs c)
    · exact (hs d).mono (Nat.le_add_right k 1)
  stores k _ hs st := (hs st).mono (Nat.le_add_right k 1)

theorem Ledger.Lawful.store {l : Ledger} {st : Store} {a : StoreAccount} (h : StoreMove (l.stores st) a) :
    Lawful 1 l (l.withStore st a) where
  ring := id
  indexed := id
  parcels hs d := by
    simp only [withStore]
    split
    · exact h.1 (hs st)
    · exact hs d
  caverns k _ hs c := (hs c).mono (Nat.le_add_right k 1)
  stores k hk hs d := by
    simp only [withStore]
    split
    · exact h.2 k hk (hs st)
    · exact (hs d).mono (Nat.le_add_right k 1)

/-! ## Moves of a cavern's account (R32, R33, R42, R43) -/

section CavernMove
variable {a : CavernAccount} {m : Nat} (h : m ≤ 100000000)
include h

/-- A report that fills moves the mass and the counter by the same amount (R32, R33). -/
theorem CavernMove.fill : CavernMove a { a with
    mass := m, filled := (saturateCounter (a.filled + ((m : Int) - a.mass))).val } := by
  intro k hk ⟨hbalance, htop, hfilled, hwithdrawn, hreconciled⟩
  obtain ⟨hval, hnear⟩ := hfilled.add hk (d := (m : Int) - a.mass) (by omega)
  rw [hval]
  exact ⟨by dsimp only; omega, h, hnear, hwithdrawn.mono (by omega), hreconciled.mono (by omega)⟩

theorem CavernMove.withdraw : CavernMove a { a with
    mass := m, withdrawn := (saturateCounter (a.withdrawn + ((a.mass : Int) - m))).val } := by
  intro k hk ⟨hbalance, htop, hfilled, hwithdrawn, hreconciled⟩
  obtain ⟨hval, hnear⟩ := hwithdrawn.add hk (d := (a.mass : Int) - m) (by omega)
  rw [hval]
  exact ⟨by dsimp only; omega, h, hfilled.mono (by omega), hnear, hreconciled.mono (by omega)⟩

/-- A correction moves the mass and reconciled-net by the same amount (R33, R42). -/
theorem CavernMove.reconcile : CavernMove a { a with
    mass := m, reconciled := (saturateCounter (a.reconciled + ((m : Int) - a.mass))).val } := by
  intro k hk ⟨hbalance, htop, hfilled, hwithdrawn, hreconciled⟩
  obtain ⟨hval, hnear⟩ := hreconciled.add hk (d := (m : Int) - a.mass) (by omega)
  rw [hval]
  exact ⟨by dsimp only; omega, h, hfilled.mono (by omega), hwithdrawn.mono (by omega), hnear⟩

end CavernMove

theorem applyAir_lawful (c : Cavern) (fill : Bool) (air : Nat) (s : State) :
    Ledger.Lawful 1 s.ledger (applyAir c fill air s).ledger := by
  have hmass := saturateMass_val Config.massTop
    (if fill then ((s.cavern c).mass : Int) + air else ((s.cavern c).mass : Int) - air)
  simp only [applyAir, raise_ledger, modCavern_withCavern]
  generalize saturateMass _ _ = m at hmass ⊢
  have hm : m.val ≤ 100000000 := by simp only [Config.massTop] at hmass; omega
  cases fill
  case true => exact .cavern (CavernMove.fill hm)
  case false => exact .cavern (CavernMove.withdraw hm)

theorem saturate_le (top x : Nat) : (saturate top x).val ≤ top := by
  rw [saturate]
  split
  · exact le_rfl
  · dsimp only; omega

theorem massAtPressure_le (r : Rounding) (p g t : Nat) : (massAtPressure r p g t).val ≤ 100000000 := by
  have h := saturate_le Config.massTop (roundDiv r (p * 2 ^ 40) (g * t))
  simpa only [massAtPressure, Config.massTop] using h

/-- The account that a correction writes (R42). -/
theorem correctMass_ledger (c : Cavern) (p t : Nat) (s : State) :
    let r := s.cavern c
    let m := (massAtPressure .nearest p r.gain t).val
    (correctMass c p t s).ledger = (s.modCavern c fun r' => { r' with
      mass := m, reconciled := (saturateCounter (r.reconciled + ((m : Int) - r.mass))).val
      quality := .tracked }).ledger := by
  rw [correctMass, evalMassConds_ledger, emit_ledger, recomputeEstimate_ledger, raise_ledger, raise_ledger]

theorem reconcileMass_lawful (c : Cavern) (s : State) {m : Nat} (h : m ≤ 100000000) :
    Ledger.Lawful 1 s.ledger (s.modCavern c fun r => { r with
      mass := m, reconciled := (saturateCounter ((s.cavern c).reconciled + ((m : Int) - (s.cavern c).mass))).val
      quality := .tracked }).ledger := by
  rw [modCavern_withCavern]
  exact .cavern (CavernMove.reconcile h)

theorem correctMass_lawful (c : Cavern) (p t : Nat) (s : State) :
    Ledger.Lawful 1 s.ledger (correctMass c p t s).ledger := by
  rw [correctMass_ledger]
  exact reconcileMass_lawful c s (massAtPressure_le ..)

theorem near_zero (k : Nat) : Near k 0 := by simp only [Near]; omega

/-- A load sets the mass and the counters together (R33, R43). -/
theorem loadCavern_lawful (c : Cavern) {mass : Nat} (exc : Option ExcCode) (s : State) (h : mass ≤ 100000000) :
    Ledger.Lawful 1 s.ledger (loadCavern c mass exc s).ledger := by
  simp only [loadCavern, evalMassConds_ledger, recomputeEstimate_ledger, raise_ledger, modCavern_withCavern]
  exact .cavern fun k _ _ => ⟨by simp, h, near_zero _, near_zero _, near_zero _⟩

/-! ## Moves of a store's account (R46, R52 to R58, R62 to R68) -/

theorem ledger_stores (s : State) (st : Store) : s.ledger.stores st = (s.store st).account := rfl

theorem addDeposited_ledger (st : Store) (x : Nat) (s : State) : (addDeposited st x s).ledger = s.ledger.withStore st
    { s.ledger.stores st with deposited := (saturateCounter ((s.ledger.stores st).deposited + x)).val } := by
  simp only [addDeposited, raise_ledger, modStore_withStore]; rfl

theorem addDrawn_ledger (st : Store) (x : Nat) (s : State) : (addDrawn st x s).ledger = s.ledger.withStore st
    { s.ledger.stores st with drawn := (saturateCounter ((s.ledger.stores st).drawn + x)).val } := by
  simp only [addDrawn, raise_ledger, modStore_withStore]; rfl

theorem addWrittenOff_ledger (st : Store) (source : ExcSource) (x : Nat) (s : State) :
    (addWrittenOff st source x s).ledger = s.ledger.withStore st
      { s.ledger.stores st with writtenOff := (saturateCounter ((s.ledger.stores st).writtenOff + x)).val } := by
  simp only [addWrittenOff, raise_ledger, modStore_withStore]; rfl

theorem addReconciled_ledger (st : Store) (x : Int) (s : State) : (addReconciled st x s).ledger = s.ledger.withStore st
    { s.ledger.stores st with reconciled := (saturateCounter ((s.ledger.stores st).reconciled + x)).val } := by
  simp only [addReconciled, raise_ledger, modStore_withStore]; rfl

/-- Heat that leaves a stack and is written off (R62, R65, R66). -/
theorem StoreMove.writeOff {a : StoreAccount} {heats : List Nat} {gone : Nat} (hsum : heats.sum + gone = a.heats.sum)
    (hlength : heats.length ≤ a.heats.length) :
    StoreMove a { a with heats := heats, writtenOff := (saturateCounter (a.writtenOff + gone)).val } := by
  refine ⟨fun h => hlength.trans h,
    fun k hk ⟨hbalance, hcontent, hcap, hdeposited, hdrawn, hwritten, hreconciled⟩ => ?_⟩
  obtain ⟨hval, hnear⟩ := hwritten.add hk (d := gone) (by omega)
  exact ⟨by dsimp only; omega, by dsimp only; omega, hcap, hdeposited.mono (by omega), hdrawn.mono (by omega),
    by simpa only [hval] using hnear, hreconciled.mono (by omega)⟩

/-- Heat that leaves a stack and is drawn (R57, R66). -/
theorem StoreMove.draw {a : StoreAccount} {heats : List Nat} {taken : Nat} (hsum : heats.sum + taken = a.heats.sum)
    (hlength : heats.length ≤ a.heats.length) :
    StoreMove a { a with heats := heats, drawn := (saturateCounter (a.drawn + taken)).val } := by
  refine ⟨fun h => hlength.trans h,
    fun k hk ⟨hbalance, hcontent, hcap, hdeposited, hdrawn, hwritten, hreconciled⟩ => ?_⟩
  obtain ⟨hval, hnear⟩ := hdrawn.add hk (d := taken) (by omega)
  exact ⟨by dsimp only; omega, by dsimp only; omega, hcap, hdeposited.mono (by omega),
    by simpa only [hval] using hnear, hwritten.mono (by omega), hreconciled.mono (by omega)⟩

/-- A reconciled top parcel: the heat of the stack and reconciled-net move by the same amount (R64, R66). -/
theorem StoreMove.reconcile {a : StoreAccount} {heats : List Nat} {d : Int} (hsum : (heats.sum : Int) = a.heats.sum + d)
    (hcapacity : a.heats.sum ≤ a.capacity → heats.sum ≤ a.capacity) (hlength : heats.length ≤ a.heats.length) :
    StoreMove a { a with heats := heats, reconciled := (saturateCounter (a.reconciled + d)).val } := by
  refine ⟨fun h => hlength.trans h,
    fun k hk ⟨hbalance, hcontent, hcap, hdeposited, hdrawn, hwritten, hreconciled⟩ => ?_⟩
  have hnew := hcapacity hcontent
  obtain ⟨hval, hnear⟩ := hreconciled.add hk (d := d) (by omega)
  exact ⟨by dsimp only; omega, hnew, hcap, hdeposited.mono (by omega), hdrawn.mono (by omega),
    hwritten.mono (by omega), by simpa only [hval] using hnear⟩

/-- Heat of a report: what is not put into the stack is written off (R52, R53, R66). -/
theorem StoreMove.deposit {a : StoreAccount} {heats : List Nat} {heat lost : Nat}
    (hsum : heats.sum + lost = a.heats.sum + heat) (hheat : heat ≤ 2147483647)
    (hcapacity : a.heats.sum ≤ a.capacity → heats.sum ≤ a.capacity) (hlost : lost ≤ heat)
    (hlength : a.heats.length ≤ 24 → heats.length ≤ 24) {writtenOff : Int}
    (hw : writtenOff = (saturateCounter (a.writtenOff + lost)).val ∨ (lost = 0 ∧ writtenOff = a.writtenOff)) :
    StoreMove a { a with
      heats := heats, deposited := (saturateCounter (a.deposited + heat)).val, writtenOff := writtenOff } := by
  refine ⟨hlength, fun k hk ⟨hbalance, hcontent, hcap, hdeposited, hdrawn, hwritten, hreconciled⟩ => ?_⟩
  obtain ⟨hdval, hdnear⟩ := hdeposited.add hk (d := heat) (by omega)
  obtain ⟨hwval, hwnear⟩ := hwritten.add hk (d := lost) (by omega)
  have hoff : writtenOff = a.writtenOff + lost := hw.elim (·.trans hwval) (by omega)
  subst hoff
  exact ⟨by dsimp only; omega, hcapacity hcontent, hcap, by simpa only [hdval] using hdnear, hdrawn.mono (by omega),
    hwnear, hreconciled.mono (by omega)⟩

theorem heats_sum (ps : List Parcel) : (ps.map Parcel.heat).sum = heatOf ps := rfl

theorem ageStore_lawful (st : Store) (s : State) : Ledger.Lawful 1 s.ledger (ageStore st s).ledger := by
  by_cases h : (s.store st).configured = true ∧ (s.store st).stack ≠ []
  case pos =>
    obtain ⟨hconf, hstack⟩ := h
    have hle := heatOf_decayed_le s.arith.mode (s.store st).tBase (s.store st).decay (s.store st).tSpent
      (s.store st).stack
    have hlength : ((s.store st).aged s.arith.mode).length ≤ (s.store st).stack.length :=
      (List.length_filter_le _ _).trans (by simp)
    rw [ageStore_aged hconf hstack]
    simp only [replaceStack, releaseFull_ledger, evalReachable_ledger, settleStore, addWrittenOff_ledger,
      modStore_withStore, Ledger.withStore_withStore, Ledger.withStore_same]
    refine .store (StoreMove.writeOff ?sum ?length)
    case sum => simp only [State.ledger, StoreRec.account, heats_sum, StoreRec.aged] at *; omega
    case length => simpa [State.ledger] using hlength
  case neg => rw [ageStore, if_neg h]; exact .of_eq rfl

theorem discardParcel_lawful {st : Store} {p : Parcel} {rest : List Parcel} {s : State}
    (h : (s.store st).stack = p :: rest) : Ledger.Lawful 1 s.ledger (discardParcel st p rest s).ledger := by
  simp only [discardParcel, emit_ledger, releaseFull_ledger, evalReachable_ledger, addWrittenOff_ledger,
    modStore_withStore, Ledger.withStore_withStore, Ledger.withStore_same]
  refine .store (StoreMove.writeOff ?_ ?_)
  · simp [State.ledger, h, Nat.add_comm]
  · simp [State.ledger, h]

theorem drawHeat_lawful (st : Store) (air : Nat) (s : State) : Ledger.Lawful 1 s.ledger (drawHeat st air s).ledger := by
  obtain ⟨-, hsum, hlength⟩ := drawStack_balance (s.store st).tUse
    (heatForMass (roundingOf s.arith.mode .requirement) air s.svc.figures.qx).val (s.store st).stack
  have hstore (e : Option ExcCode) : (raise e .draw (.store st) s).store st = s.store st := by simp [State.store]
  simp only [drawHeat, hstore]
  generalize drawStack _ _ _ = d at hsum hlength ⊢
  split
  case isTrue => rw [raise_ledger]; exact .of_eq ((modStore_ledger rfl).trans (raise_ledger ..))
  case isFalse =>
    have hmove : StoreMove (s.ledger.stores st) { s.ledger.stores st with
        heats := d.stack.map Parcel.heat, drawn := (saturateCounter ((s.store st).drawn + d.taken)).val } :=
      .draw hsum (by simpa [State.ledger] using hlength)
    have hledger : ∀ u : State, u.ledger = s.ledger.withStore st { s.ledger.stores st with
        heats := d.stack.map Parcel.heat, drawn := (saturateCounter ((s.store st).drawn + d.taken)).val } →
        Ledger.Lawful 1 s.ledger u.ledger := fun u hu => hu ▸ .store hmove
    split <;> refine hledger _ ?_ <;> simp only [shortDraw_ledger, releaseFull_ledger, evalReachable_ledger,
      addDrawn_ledger, modStore_withStore, raise_ledger, hstore, Ledger.withStore_withStore,
      Ledger.withStore_same] <;> rfl

/-- The heat of a reconciled parcel stays within its own and the free capacity (R17). -/
theorem reconciledHeat_le (tBase free heat : Nat) (temp : Option Nat) (measured : Nat) :
    (reconciledHeat tBase free heat temp measured).val ≤ heat + free := by
  simp only [reconciledHeat]
  split
  case isTrue => exact Nat.zero_le _
  case isFalse =>
    split
    case h_1 => exact Nat.le_add_right heat free
    case h_2 =>
      split
      case isTrue => exact Nat.le_add_right heat free
      case isFalse => exact saturate_le ..

theorem StoreRec.free_le (r : StoreRec) : r.free ≤ r.capacity - r.content := by
  rw [free]
  split
  · exact le_rfl
  · exact Nat.zero_le _

theorem correctTop_lawful {st : Store} {p : Parcel} {rest : List Parcel} (v : Nat) {s : State}
    (h : (s.store st).stack = p :: rest) : Ledger.Lawful 1 s.ledger (correctTop st p rest v s).ledger := by
  have hheat := reconciledHeat_le (s.store st).tBase (s.store st).free p.heat p.temp v
  have hfree := (s.store st).free_le
  have hcontent : (s.store st).content = p.heat + (rest.map Parcel.heat).sum := by simp [StoreRec.content, h]
  simp only [correctTop, emit_ledger, releaseFull_ledger, evalReachable_ledger, addReconciled_ledger, raise_ledger,
    modStore_withStore, Ledger.withStore_withStore, Ledger.withStore_same]
  generalize (reconciledHeat _ _ _ _ _).val = x at hheat ⊢
  refine .store (StoreMove.reconcile ?sum ?capacity ?length)
  all_goals simp only [State.ledger, StoreRec.account, h]
  case sum => split <;> simp <;> omega
  case capacity =>
    intro hcap
    simp only [List.map_cons, List.sum_cons] at hcap
    split
    · omega
    · simp only [List.map_cons, List.sum_cons]; omega
  case length => split <;> simp

theorem loadStore_lawful {st : Store} {stack : List Parcel} {s : State} (hheat : heatOf stack ≤ (s.store st).capacity)
    (hlength : stack.length ≤ 24) : Ledger.Lawful 1 s.ledger (loadStore st stack s).ledger := by
  simp only [loadStore, releaseFull_ledger, evalReachable_ledger, modStore_withStore]
  refine .store ⟨fun _ => by simpa using hlength, fun k _ ⟨_, _, hcap, _⟩ => ?_⟩
  change (s.store st).capacity ≤ 20000000 at hcap
  exact ⟨by simp [heats_sum], hheat, hcap, by simp only [Near]; omega, near_zero _, near_zero _, near_zero _⟩

/-! ## A deposit (R50 to R53) -/

/-- Heat put into the stack of a store, and nothing else of its account. -/
def StackTakes (st : Store) (x : Nat) (s t : State) : Prop :=
  ∃ heats, t.ledger = s.ledger.withStore st { s.ledger.stores st with heats := heats } ∧
    heats.sum = (s.ledger.stores st).heats.sum + x ∧
    ((s.ledger.stores st).heats.length ≤ 24 → heats.length ≤ 24)

theorem StackTakes.refl (st : Store) (s : State) : StackTakes st 0 s s :=
  ⟨_, (s.ledger.withStore_self st).symm, rfl, id⟩

theorem StackTakes.trans {st : Store} {x y : Nat} {a b c : State} (h : StackTakes st x a b) (k : StackTakes st y b c) :
    StackTakes st (x + y) a c := by
  obtain ⟨hs, hb, hsum, hlength⟩ := h
  obtain ⟨ks, hc, ksum, klength⟩ := k
  rw [hb, Ledger.withStore_same] at ksum klength
  refine ⟨ks, ?_, by rw [ksum]; dsimp only; omega, fun e => klength (hlength e)⟩
  rw [hc, hb, Ledger.withStore_withStore, Ledger.withStore_same]

theorem mergeBottom_heats (mode : Mode) (tBase : Nat) (ps : List Parcel) :
    ((mergeBottom mode tBase ps).map Parcel.heat).sum = (ps.map Parcel.heat).sum ∧
      (2 ≤ ps.length → (mergeBottom mode tBase ps).length + 1 = ps.length) := by
  induction ps using mergeBottom.induct with
  | case1 => simp [mergeBottom]
  | case2 p => simp [mergeBottom]
  | case3 a b => simp [mergeBottom]
  | case4 p rest h1 h2 ih =>
    obtain ⟨hsum, hlength⟩ := ih
    have hrest : 2 ≤ rest.length := by
      match rest, h1, h2 with
      | [], h1, _ => exact absurd rfl h1
      | [b], _, h2 => exact absurd rfl (h2 b)
      | _ :: _ :: _, _, _ => simp
    rw [mergeBottom]
    · simp [hsum, hlength hrest]
    · assumption
    · assumption

/-- A stack that has been made room in takes a further parcel (R51). -/
theorem openParcel_takes (st : Store) (t : Train) (s : State) : StackTakes st 0 s (openParcel st t s) := by
  obtain ⟨hsum, hlength⟩ := mergeBottom_heats s.arith.mode (s.store st).tBase (s.store st).stack
  have hstack (u : State) : (evalReachable st u).ledger = u.ledger := evalReachable_ledger st u
  have hroom : ∃ heats, (makeRoom st s).ledger = s.ledger.withStore st { s.ledger.stores st with heats := heats } ∧
      heats.sum = (s.ledger.stores st).heats.sum ∧ ((s.ledger.stores st).heats.length ≤ 24 → heats.length ≤ 23) := by
    rw [makeRoom]
    split
    case isTrue hfull =>
      simp only [evalReachable_ledger, modStore_withStore]
      refine ⟨_, rfl, hsum, fun h => ?_⟩
      simp only [State.ledger, StoreRec.account, List.length_map, Config.stackTop] at *
      have := hlength (by omega)
      omega
    case isFalse hroom =>
      refine ⟨_, (s.ledger.withStore_self st).symm, rfl, fun _ => ?_⟩
      simp only [State.ledger, StoreRec.account, List.length_map, Config.stackTop] at *
      omega
  obtain ⟨heats, hledger, hheats, hlen⟩ := hroom
  have haccount : ((makeRoom st s).store st).account = { s.ledger.stores st with heats := heats } :=
    (congrArg (fun l => l.stores st) hledger).trans (Ledger.withStore_same ..)
  simp only [StoreRec.account, StoreAccount.mk.injEq] at haccount
  obtain ⟨hstack, hcap, hdeposited, hdrawn, hwritten, hreconciled⟩ := haccount
  refine ⟨0 :: heats, ?_, by simpa using hheats, fun h => Nat.succ_le_succ (hlen h)⟩
  rw [openParcel, modStore_withStore, hledger, Ledger.withStore_withStore]
  simp [hstack, hcap, hdeposited, hdrawn, hwritten, hreconciled]

theorem openParcel_hasOpen (st : Store) (t : Train) (s : State) : ((openParcel st t s).store st).hasOpen = true := by
  simp [openParcel, StoreRec.hasOpen]

theorem depositOpen_takes {st : Store} {taken : Nat} (outlet : Option Nat) {s : State}
    (h : (s.store st).hasOpen = true ∨ taken = 0) : StackTakes st taken s (depositOpen st taken outlet s) := by
  rw [depositOpen]
  split
  case isTrue hput =>
    simp only [Bool.and_eq_true] at hput
    obtain ⟨hopen, -⟩ := hput
    simp only [StoreRec.hasOpen] at hopen
    split at hopen
    next p rest hstack =>
      refine ⟨_, (evalReachable_ledger ..).trans (modStore_withStore ..), ?_, ?_⟩
      · simp [State.ledger, hstack, depositTop]; omega
      · simp [State.ledger, hstack, depositTop]
    next => simp at hopen
  case isFalse hnot =>
    have htaken : taken = 0 := h.elim (fun e => by simp [e] at hnot; omega) id
    subst htaken
    exact .refl st s

/-- The parcel of a report is opened where the store has none, and takes what free capacity leaves (R50, R52). -/
theorem depositParcel_takes {st : Store} (t : Train) {taken : Nat} (outlet : Option Nat) {s : State} {isOpen : Bool}
    {free : Nat} (hopen : isOpen = (s.store st).hasOpen) (hfree : taken ≤ free) :
    StackTakes st taken s
      (depositOpen st taken outlet (if isOpen || free == 0 then s else openParcel st t s)) := by
  split
  case isTrue h =>
    refine depositOpen_takes outlet ?_
    rw [← hopen]
    simp only [Bool.or_eq_true, beq_iff_eq] at h
    exact h.imp id (by omega)
  case isFalse =>
    rw [← Nat.zero_add taken]
    have hput : StackTakes st taken (openParcel st t s) (depositOpen st taken outlet (openParcel st t s)) :=
      depositOpen_takes outlet (.inl (openParcel_hasOpen st t s))
    simpa only [Nat.zero_add] using (openParcel_takes st t s).trans hput

theorem addDeposited_store (st : Store) (x : Nat) (s : State) : (addDeposited st x s).store st =
    { s.store st with deposited := (saturateCounter ((s.store st).deposited + x)).val } := by
  have hraise (e : Option ExcCode) (u : State) : (raise e .deposit (.store st) u).store st = u.store st := by
    simp [State.store]
  simp [addDeposited, hraise]

/-- The heat of a report is deposited, and what is not put into the stack is written off (R50 to R53). -/
theorem depositHeat_lawful (st : Store) (t : Train) {q : Nat} (outlet : Option Nat) (s : State) (hq : q ≤ 2147483647) :
    Ledger.Lawful 1 s.ledger (depositHeat st t q outlet s).ledger := by
  have hfree := (s.store st).free_le
  have hcontent : (s.store st).content = ((s.store st).stack.map Parcel.heat).sum := rfl
  have hopen : (s.store st).hasOpen = ((addDeposited st q s).store st).hasOpen := by rw [addDeposited_store]; rfl
  have hone := addDeposited_ledger st q s
  simp only [depositHeat]
  generalize addDeposited st q s = one at hopen hone ⊢
  split
  case isTrue =>
    rw [addWrittenOff_ledger, hone, Ledger.withStore_withStore, Ledger.withStore_same]
    exact .store (.deposit (a := (s.store st).account) rfl hq id le_rfl id (.inl rfl))
  case isFalse =>
    obtain ⟨heats, htwo, hsum, hlength⟩ := depositParcel_takes t outlet hopen (Nat.min_le_right q (s.store st).free)
    rw [hone, Ledger.withStore_same] at htwo hsum hlength
    rw [Ledger.withStore_withStore] at htwo
    simp only [ledger_stores, StoreRec.account] at hsum
    have hfull (c : Prop) [Decidable c] (x : Nat) (u : State) :
        (if c then enterFull st x u else u).ledger = u.ledger := by
      split <;> simp
    generalize depositOpen _ _ _ _ = two at htwo ⊢
    rw [hfull]
    split
    case isTrue =>
      rw [addWrittenOff_ledger, htwo, Ledger.withStore_withStore, Ledger.withStore_same]
      exact .store (.deposit (a := (s.store st).account) (lost := q - min q (s.store st).free)
        (by dsimp only; omega) hq (by dsimp only; omega) (Nat.sub_le ..) hlength
        (.inl rfl))
    case isFalse =>
      rw [htwo]
      exact .store (.deposit (a := (s.store st).account) (lost := 0)
        (by dsimp only; omega) hq (by dsimp only; omega) (Nat.zero_le _) hlength
        (.inr ⟨rfl, rfl⟩))

end Sys2Proof.Machine
end

section
/-! PROOFS. What a step may do to the ledger: the book at a boundary and a SET TIME, the work of an advance, the taking
of every command, whole frames, and each row of the table. -/

namespace Sys2Proof.Machine

/-! ## The book (R78, R81, R83, R88, R89) -/

/-- Another current interval, window and ring. -/
theorem Ledger.Lawful.book {n : Nat} {l : Ledger} {current : Nat} {intervals : List Nat} {ring : List Settlement}
    (hring : l.ring.length ≤ 32 → ring.length ≤ 32)
    (hindexed : l.Indexed → ({ l with current := current, intervals := intervals, ring := ring } : Ledger).Indexed) :
    Lawful n l { l with current := current, intervals := intervals, ring := ring } where
  ring := hring
  indexed := hindexed
  parcels := id
  caverns k _ hs c := (hs c).mono (Nat.le_add_right k n)
  stores k _ hs st := (hs st).mono (Nat.le_add_right k n)

theorem ringWith_length (ring : List Settlement) (r : Settlement) :
    (ringWith ring r).length = if ring.length < 32 then ring.length + 1 else ring.length := by
  by_cases h : ring.length < 32 <;> simp only [ringWith, Config.ringTop, h, if_true, if_false]
  · simp
  · simp; omega

/-- The close of a slot keeps its storage for k + 96, and takes at most one record into the ring (R81, R88). -/
theorem closeSlot_ledger (s : State) : ∃ ring, (ring = s.sbk.ring ∨ ∃ r, ring = ringWith s.sbk.ring r) ∧
    (closeSlot s).ledger = { s.ledger with
      current := s.sbk.current + 1
      intervals := s.ledger.intervals.set (s.sbk.current % 96) (s.sbk.current + 96), ring := ring } := by
  have hstorage (u : State) (k : Nat) : ({ u.modSlot k (fun x => x.reinitialised (k + Config.slotCount)) with
      sbk := { (u.modSlot k (fun x => x.reinitialised (k + Config.slotCount))).sbk with
        current := k + 1, unscheduled := 0 } } : State).ledger = { u.ledger with
      current := k + 1, intervals := u.ledger.intervals.set (k % 96) (k + 96) } :=
    congrArg (fun l : Ledger => { l with current := k + 1 })
      (modSlot_ledger_eq u k (fun x => x.reinitialised (k + Config.slotCount)))
  have hbump (u : State) (p : Prop) [Decidable p] : (if p then u else bumpGeneration u).ledger = u.ledger := by
    split <;> rfl
  simp only [closeSlot]
  rw [hstorage, hbump]
  split
  case isTrue => exact ⟨_, .inl rfl, rfl⟩
  case isFalse =>
    have hclosed := closeIntegration_ledger ((s.sbk.current + 1) * Config.intervalSeconds) s
    generalize closeIntegration _ s = a at hclosed ⊢
    rw [emit_ledger, raise_ledger]
    have hring : a.sbk.ring = s.sbk.ring := congrArg Ledger.ring hclosed
    refine ⟨ringWith a.sbk.ring (settlementOf (a.slot s.sbk.current) a.sbk.unscheduled).1, .inr ⟨_, by rw [hring]⟩, ?_⟩
    exact congrArg (fun l : Ledger => { l with
      current := s.sbk.current + 1, intervals := l.intervals.set (s.sbk.current % 96) (s.sbk.current + 96)
      ring := ringWith a.sbk.ring (settlementOf (a.slot s.sbk.current) a.sbk.unscheduled).1 }) hclosed

theorem closeSlot_lawful {n : Nat} (s : State) : Ledger.Lawful n s.ledger (closeSlot s).ledger := by
  obtain ⟨ring, hring, hledger⟩ := closeSlot_ledger s
  rw [hledger]
  refine .book (fun h => ?_) fun ⟨hlength, hindex⟩ => ⟨by simpa using hlength, fun m hm => ?_⟩
  · rcases hring with rfl | ⟨r, rfl⟩
    · exact h
    · rw [ringWith_length]; split <;> [omega; exact h]
  · change (s.ledger.intervals.set (s.sbk.current % 96) (s.sbk.current + 96))[(s.sbk.current + 1 + m) % 96]? =
      some (s.sbk.current + 1 + m)
    rw [List.getElem?_set]
    by_cases hlast : m = 95
    · rw [if_pos (by omega), if_pos (by omega), hlast]
    · rw [if_neg (by omega)]
      have := hindex (m + 1) (by omega)
      rwa [show s.ledger.current = s.sbk.current from rfl, ← Nat.add_assoc, Nat.add_right_comm] at this

/-- Every index of a rebuilt window holds the interval that falls on it (R83). -/
theorem rebuildWindow_intervals (k : Nat) (x : Sbk) :
    (rebuildWindow k x).slots.map Slot.interval = (List.range x.slots.length).map (intervalAt k) := by
  refine List.ext_getElem (by simp [rebuildWindow]) fun i _ _ => ?_
  simp [rebuildWindow, Slot.reinitialised, Slot.blank]

theorem setTimeConfig_ledger (v : Nat) (s : State) : (setTimeConfig v s).ledger = { s.ledger with
    current := v / 900, intervals := (List.range s.ledger.intervals.length).map (intervalAt (v / 900)), ring := [] } := by
  have hintervals := rebuildWindow_intervals (v / 900) s.sbk
  have hlength : s.ledger.intervals.length = s.sbk.slots.length := List.length_map ..
  rw [hlength, ← hintervals]
  rfl

theorem setTimeConfig_lawful {n : Nat} (v : Nat) (s : State) : Ledger.Lawful n s.ledger (setTimeConfig v s).ledger := by
  rw [setTimeConfig_ledger]
  refine .book (fun _ => Nat.zero_le _) fun ⟨hlength, _⟩ => ⟨by simpa using hlength, fun m hm => ?_⟩
  have hin : (v / 900 + m) % 96 < 96 := Nat.mod_lt _ (by decide)
  have hat : intervalAt (v / 900) ((v / 900 + m) % 96) = v / 900 + m := by
    simp only [intervalAt, Config.slotCount]; omega
  rw [hlength, List.getElem?_map, List.getElem?_range hin, Option.map_some, hat]

theorem emptyRing_lawful {n : Nat} (s : State) : Ledger.Lawful n s.ledger (emptyRing s).ledger :=
  .book (fun _ => Nat.zero_le _) id

theorem afterReset_lawful {n : Nat} (pins : Pins) (now : Nat) (waiting : List Instr) (s : State) :
    Ledger.Lawful n s.ledger (State.afterReset pins now waiting).ledger where
  ring _ := Nat.zero_le _
  indexed _ := by
    refine ⟨rfl, fun m hm => ?_⟩
    have hzero : (State.afterReset pins now waiting).ledger.current = 0 := rfl
    have hall : (State.afterReset pins now waiting).ledger.intervals = List.range 96 := rfl
    rw [hzero, hall, Nat.zero_add, Nat.mod_eq_of_lt hm, List.getElem?_range hm]
  parcels _ st := by cases st <;> exact Nat.zero_le _
  caverns k _ _ c := by
    cases c <;> exact ⟨rfl, Nat.zero_le _, near_zero _, near_zero _, near_zero _⟩
  stores k _ _ st := by
    cases st <;> exact ⟨rfl, Nat.zero_le _, Nat.zero_le _, near_zero _, near_zero _, near_zero _, near_zero _⟩

/-! ## The work of an advance (log 6) -/

theorem agePass_lawful (s : State) : Ledger.Lawful 2 s.ledger (agePass s).ledger := by
  have hreset : (resetTimer s).ledger = s.ledger := by
    simp only [State.ledger, resetTimer_store]; rfl
  have hfirst := ageStore_lawful .hsA (resetTimer s)
  rw [hreset] at hfirst
  rw [agePass, postRecheck_ledger, plantEvent_ledger]
  exact hfirst.trans (ageStore_lawful .hsB _)

theorem takeAging_lawful (s : State) : Ledger.Lawful 2 s.ledger (takeAging s).ledger := by
  rw [takeAging]
  split
  · exact agePass_lawful s
  · exact .of_eq rfl

theorem takeBoundary_lawful {n : Nat} (s : State) : Ledger.Lawful n s.ledger (takeBoundary s).ledger := by
  simp only [takeBoundary]
  split
  · simp only [directionTest_ledger, boundaryBook, postRecheck_ledger, lapseWalk_ledger, bumpGeneration_ledger,
      handOver_ledger, openSlot_ledger]
    have hclose := closeSlot_lawful (n := n)
      (boundaryCaverns { takeStaging s with pck := { (takeStaging s).pck with boundaryDue := false } })
    rwa [boundaryCaverns_ledger, withPck_ledger, takeStaging_ledger] at hclose
  · exact .of_eq rfl

theorem drain_lawful (s : State) : Ledger.Lawful 2 s.ledger (drain s).ledger := by
  simp only [drain, startWalk_ledger]
  refine (takeAging_lawful s).trans (m := 0) ?_
  have hboundary := takeBoundary_lawful (n := 0) (takeStaging ((allSources.foldl takeStale (takeAging s)).window.foldl takeExpiry
    (allTrains.foldl takeRungs (allSources.foldl takeStale (takeAging s)))))
  simpa only [takeStaging_ledger, foldl_ledger takeExpiry_ledger, foldl_ledger takeRungs_ledger, foldl_ledger takeStale_ledger]
    using hboundary

theorem advance_lawful (s : State) : Ledger.Lawful 2 s.ledger (advance s).ledger := by
  simp only [advance]
  split
  · rw [countAdvance_ledger]; exact drain_lawful s
  · exact drain_lawful s

theorem takeEdge_lawful (now : Nat) (s : State) : Ledger.Lawful 2 s.ledger (takeEdge now s).ledger := by
  simp only [takeEdge, endHoldover_ledger]
  split
  · exact advance_lawful (noteMoment now s)
  · exact .of_eq rfl

theorem takeHoldover_lawful (now : Nat) (s : State) : Ledger.Lawful 2 s.ledger (takeHoldover now s).ledger := by
  simp only [takeHoldover]
  split
  · have h := advance_lawful (emit .timeHoldover .notice .nothing (noteMoment now s).pck.seconds 0
      { noteMoment now s with pck := { (noteMoment now s).pck with holdover := true, holdCount := 0 } })
    rwa [emit_ledger] at h
  · exact .of_eq rfl

theorem takeHoldoverSecond_lawful (now : Nat) (s : State) :
    Ledger.Lawful 2 s.ledger (takeHoldoverSecond now s).ledger := by
  simp only [takeHoldoverSecond]
  split
  · exact (advance_lawful (noteMoment now s)).trans (m := 0) (.of_eq (withPck_ledger (advance (noteMoment now s)) _))
  · exact .of_eq rfl

/-! ## Run reports (R148) -/

theorem Report.clamped_heat (x : Report) (t : Train) (r : TrainRec) (qc air : Nat) :
    (x.clamped t (reportLimits r qc air)).heat ≤ 2147483647 := by
  have htop : (reportLimits r qc air).heat.val ≤ Config.reportTop := saturate_le Config.reportTop _
  simp only [Report.clamped]
  split
  · exact Nat.zero_le _
  · exact (Nat.min_le_right ..).trans htop

theorem reportCavern_lawful (c : Cavern) (fill : Bool) (air : Nat) (s : State) :
    Ledger.Lawful 1 s.ledger (reportCavern c fill air s).ledger := by
  have hestimate (u : State) (p : Prop) [Decidable p] : (if p then u else recomputeEstimate c u).ledger = u.ledger := by
    split <;> simp
  rw [reportCavern]
  split
  · exact .of_eq rfl
  · simp only [plantEvent_ledger, evalRateHold_ledger, evalMassConds_ledger, hestimate]
    exact applyAir_lawful c fill air s

theorem reportStore_lawful (st : Store) (t : Train) {x : Report} (h : x.heat ≤ 2147483647) (s : State) :
    Ledger.Lawful 1 s.ledger (reportStore st t x s).ledger := by
  rw [reportStore]
  repeat' split
  · exact .of_eq rfl
  · rw [plantEvent_ledger]; exact drawHeat_lawful st x.air s
  · exact .of_eq rfl
  · rw [plantEvent_ledger]; exact depositHeat_lawful st t x.outlet s h

theorem applyReport_lawful (t : Train) (x : Report) (s : State) :
    Ledger.Lawful 2 s.ledger (applyReport t x s).1.ledger := by
  simp only [applyReport]
  have hheat := x.clamped_heat t (s.train t) s.svc.figures.qc x.air
  generalize hl : reportLimits (s.train t) s.svc.figures.qc x.air = l at hheat ⊢
  have hclamped (k n : Nat) : (emitClamped t k n (raiseLimits t l s)).ledger = s.ledger := by simp
  have hstart := hclamped (x.clampBits t l) (s.train t).elapsed
  generalize emitClamped t _ _ _ = u at hstart ⊢
  simp only [applyClamped, reportDispatch_ledger, reportSchedule_ledger]
  rw [← hstart]
  split
  next a _ =>
    have hair := reportCavern_lawful a.cavern (!t.expands) (x.clamped t l).air (restartTiming t u)
    rw [restartTiming_ledger] at hair
    exact hair.trans (reportStore_lawful a.store t hheat _)
  next => exact .of_eq rfl

theorem examineReport_lawful (t : Train) (x : ReportFields) (s : State) :
    Ledger.Lawful 2 s.ledger (examineReport t x s).1.ledger := by
  simp only [examineReport]
  repeat' split
  · exact .of_eq rfl
  · exact applyReport_lawful ..
  · simp only [refuseReport]
    split
    · exact .of_eq rfl
    · rw [emit_ledger]; exact .of_eq rfl

/-! ## What each command takes -/

@[simp] theorem refuse_fst (code : ResultCode) (s : State) : (refuse code s).1 = s := rfl
@[simp] theorem doneWith_fst (s : State) : (doneWith s).1 = s := rfl

theorem takeSetCavern_ledger (b : Byte) (g : BitVec 24) (f c r rt tol : BitVec 16) (s : State) :
    (takeSetCavern b g f c r rt tol s).1.ledger = s.ledger := by
  simp only [takeSetCavern]
  repeat' split
  all_goals simp [recomputeAll, configureCavern]

theorem takeSetStore_lawful (b : Byte) (cap : BitVec 32) (tb ts tu tol : BitVec 16) (mg : Byte) (s : State) :
    Ledger.Lawful 1 s.ledger (takeSetStore b cap tb ts tu tol mg s).1.ledger := by
  simp only [takeSetStore]
  split
  case h_1 => exact .of_eq rfl
  case h_2 st _ =>
    split
    case isFalse => exact .of_eq rfl
    case isTrue hfit =>
      simp only [storeFieldsFit, within, Bool.and_eq_true, decide_eq_true_eq] at hfit
      obtain ⟨⟨⟨⟨⟨⟨⟨⟨-, hcap⟩, -⟩, -⟩, -⟩, -⟩, -⟩, -⟩, hcontent⟩ := hfit
      split
      case isTrue => exact .of_eq rfl
      case isFalse =>
        simp only [doneWith_fst, postRecheckInService_ledger, plantEvent_ledger, releaseFull_ledger, evalReachable_ledger,
          modStore_withStore]
        refine .store ⟨id, fun k _ ⟨hbalance, _, _, hdeposited, hdrawn, hwritten, hreconciled⟩ => ?_⟩
        exact ⟨hbalance, hcontent, hcap, hdeposited.mono (by omega), hdrawn.mono (by omega), hwritten.mono (by omega),
          hreconciled.mono (by omega)⟩

theorem takeSetTrain_ledger (p : Port) (b : Byte) (r m ra ba : BitVec 32) (f : BitVec 16) (s : State) :
    (takeSetTrain p b r m ra ba f s).1.ledger = s.ledger := by
  simp only [takeSetTrain]
  repeat' split
  all_goals try rfl
  simp only [doneWith_fst, configureTrain]
  split <;> rfl

/-- The decay factors are no part of an account. -/
theorem decayFactors_ledger (s : State) (svc : Svc) (a b : Nat) : ({ s with
    svc := svc
    hsu := { s.hsu with hsA := { s.hsu.hsA with decay := a }, hsB := { s.hsu.hsB with decay := b } } } : State).ledger =
    s.ledger := by
  simp only [State.ledger, Ledger.mk.injEq, and_true]
  exact ⟨rfl, funext fun st => by cases st <;> rfl⟩

theorem takeSetFigures_ledger (a b c d : BitVec 16) (e : BitVec 32) (f g : BitVec 16) (h i j k : BitVec 32) (s : State) :
    (takeSetFigures a b c d e f g h i j k s).1.ledger = s.ledger := by
  simp only [takeSetFigures]
  split
  · simp only [doneWith_fst, postRecheckInService_ledger, evalHold_ledger, bumpGeneration_ledger]
    exact decayFactors_ledger ..
  · rfl

theorem takeSetTiming_ledger (a b : BitVec 16) (c : BitVec 32) (d e : BitVec 16) (f g : Byte) (s : State) :
    (takeSetTiming a b c d e f g s).1.ledger = s.ledger := by
  simp only [takeSetTiming]
  split
  · simp only [doneWith_fst, State.ledger, Ledger.mk.injEq, and_true]
    exact ⟨rfl, funext fun st => by cases st <;> rfl⟩
  · rfl

theorem arithWork_ledger (modeChanged trapOff : Bool) (s : State) :
    (arithWork modeChanged trapOff s).ledger = s.ledger := by
  simp only [arithWork]
  repeat' split
  all_goals simp [recomputeMode, recomputeTrapOff]

theorem takeSetArithMode_ledger (b k : Byte) (s : State) : (takeSetArithMode b k s).1.ledger = s.ledger := by
  simp only [takeSetArithMode]
  repeat' split
  all_goals simp [arithWork_ledger]

theorem takeSetLockEnable_ledger (b : Byte) (s : State) : (takeSetLockEnable b s).1.ledger = s.ledger := by
  simp only [takeSetLockEnable]
  split
  · simp only [doneWith_fst, State.ledger, Ledger.mk.injEq, and_true]
    exact ⟨funext fun c => by cases c <;> rfl, rfl⟩
  · rfl

theorem doLoadCavern_lawful (c : Cavern) {m : Figure} (h : m.val ≤ 100000000) (s : State) :
    Ledger.Lawful 1 s.ledger (doLoadCavern c m s).1.ledger := by
  have hload := loadCavern_lawful c m.exc s h
  rw [← loadEvent_ledger] at hload
  exact hload.trans (m := 0) (emptyRing_lawful _)

theorem takeLoadCavern_lawful (b m : Byte) (a : BitVec 32) (s : State) :
    Ledger.Lawful 1 s.ledger (takeLoadCavern b m a s).1.ledger := by
  have hrefuse (code : ResultCode) : Ledger.Lawful 1 s.ledger (refuse code s).1.ledger := .of_eq rfl
  simp only [takeLoadCavern]
  split
  case h_1 => exact hrefuse _
  case h_2 c _ =>
    split; · exact hrefuse _
    split; · exact hrefuse _
    split; · exact hrefuse _
    split
    case isTrue =>
      split
      case isTrue h => exact doLoadCavern_lawful c h s
      case isFalse => exact hrefuse _
    case isFalse =>
      split
      case isTrue =>
        split
        case h_1 p t _ _ _ _ => exact doLoadCavern_lawful c (massAtPressure_le .nearest p (s.cavern c).gain t) s
        case h_2 => exact hrefuse _
      case isFalse => exact hrefuse _

theorem doLoadStore_lawful {st : Store} {stack : List Parcel} {s : State} (hheat : heatOf stack ≤ (s.store st).capacity)
    (hlength : stack.length ≤ 24) : Ledger.Lawful 1 s.ledger (doLoadStore st stack s).1.ledger := by
  have hload := loadStore_lawful hheat hlength
  rw [← loadEvent_ledger] at hload
  exact hload.trans (m := 0) (emptyRing_lawful _)

theorem takeLoadStore_lawful (b m : Byte) (a : BitVec 32) (x : BitVec 16) (s : State) :
    Ledger.Lawful 1 s.ledger (takeLoadStore b m a x s).1.ledger := by
  have hrefuse (code : ResultCode) : Ledger.Lawful 1 s.ledger (refuse code s).1.ledger := .of_eq rfl
  simp only [takeLoadStore]
  split
  case h_1 => exact hrefuse _
  case h_2 st _ =>
    split; · exact hrefuse _
    split; · exact hrefuse _
    split
    case isTrue => exact doLoadStore_lawful (Nat.zero_le _) (Nat.zero_le _)
    case isFalse =>
      split
      case isTrue =>
        split
        case isTrue hfit =>
          obtain ⟨-, hcap, -, -⟩ := StoreOpen.parcel_fits.1 hfit
          exact doLoadStore_lawful (by simpa using hcap) (by simp)
        case isFalse => exact hrefuse _
      case isFalse => exact hrefuse _

/-- SET TIME takes due work, and in CONFIG rebuilds the window (R74, R83). -/
theorem takeSetTime_lawful (v : BitVec 32) (now : Nat) (s : State) :
    Ledger.Lawful 2 s.ledger (takeSetTime v now s).1.ledger := by
  have hdrain := drain_lawful (noteMoment now s)
  rw [noteMoment_ledger] at hdrain
  simp only [takeSetTime]
  split
  · exact hdrain.trans (m := 0) (setTimeConfig_lawful _ _)
  · split
    · exact hdrain.trans (m := 0) (.of_eq (withPck_ledger (drain (noteMoment now s)) _))
    · exact .of_eq rfl

theorem takeDeclareReady_ledger (p : Port) (s : State) : (takeDeclareReady p s).1.ledger = s.ledger := by
  simp only [takeDeclareReady]
  repeat' split
  all_goals simp

theorem takeWithdraw_ledger (p : Port) (s : State) : (takeWithdraw p s).1.ledger = s.ledger := by
  simp only [takeWithdraw]
  split <;> simp

theorem takePark_ledger (p : Port) (s : State) : (takePark p s).1.ledger = s.ledger := by
  simp only [takePark]
  split <;> simp

theorem takeSetReserveBand_ledger (b k d : Byte) (s : State) : (takeSetReserveBand b k d s).1.ledger = s.ledger := by
  simp only [takeSetReserveBand]
  repeat' split
  all_goals simp

theorem takeRequestRun_ledger (p : Port) (t c d : Byte) (s : State) :
    (takeRequestRun p t c d s).1.ledger = s.ledger := by
  simp only [takeRequestRun]
  repeat' split
  all_goals simp [enqueue]

theorem takeRelease_ledger (p : Port) (b : Byte) (s : State) : (takeRelease p b s).1.ledger = s.ledger := by
  simp only [takeRelease, releaseTrain]
  repeat' split
  all_goals simp

theorem takeRunReport_lawful (p : Port) (b : Byte) (x : ReportFields) (s : State) :
    Ledger.Lawful 2 s.ledger (takeRunReport p b x s).1.ledger := by
  simp only [takeRunReport]
  split
  case h_3 t _ =>
    have h := examineReport_lawful t x s
    dsimp only
    split
    · exact h
    · exact h
  all_goals exact .of_eq rfl

theorem takeStreamed_lawful (p : Port) (b : Byte) (x : ReportFields) (s : State) :
    Ledger.Lawful 2 s.ledger (takeStreamed p b x s).1.ledger := by
  simp only [takeStreamed]
  split
  case h_3 t _ =>
    have h := examineReport_lawful t x s
    dsimp only
    split
    · exact h
    · exact h
  all_goals exact .of_eq rfl

theorem takeReadTrain_ledger (b : Byte) (s : State) : (takeReadTrain b s).1.ledger = s.ledger := by
  simp only [takeReadTrain]
  split <;> rfl

theorem takeClearTrip_ledger (p : Port) (b : Byte) (s : State) : (takeClearTrip p b s).1.ledger = s.ledger := by
  simp only [takeClearTrip, clearTripOf]
  repeat' split
  all_goals simp

theorem takeClearDerate_ledger (p : Port) (b : Byte) (s : State) : (takeClearDerate p b s).1.ledger = s.ledger := by
  simp only [takeClearDerate, clearDerateOf]
  repeat' split
  all_goals simp

theorem takeDiscardTop_lawful (b : Byte) (s : State) : Ledger.Lawful 1 s.ledger (takeDiscardTop b s).1.ledger := by
  simp only [takeDiscardTop]
  split
  case h_1 => exact .of_eq rfl
  case h_2 =>
    split
    case h_1 hstack =>
      split
      case isTrue =>
        rw [doneWith_fst, postRecheck_ledger, plantEvent_ledger]
        exact discardParcel_lawful hstack
      case isFalse => exact .of_eq rfl
    case h_2 => exact .of_eq rfl

theorem takeOffer_ledger (i pw up down ref : BitVec 32) (s : State) :
    (takeOffer i pw up down ref s).1.ledger = s.ledger := by
  simp only [takeOffer]
  repeat' split
  all_goals rfl

/-- A command that names a slot only answers where the slot is not the one it names (R80). -/
theorem identified_ledger {j : Nat} {seq : Byte} {f : State → Taken} {s : State} (h : (f s).1.ledger = s.ledger) :
    (identified j seq f s).1.ledger = s.ledger := by
  rw [identified]
  split
  · rfl
  · rfl
  · exact h

theorem takeConfirm_ledger (i : BitVec 32) (seq : Byte) (v : BitVec 32) (s : State) :
    (takeConfirm i seq v s).1.ledger = s.ledger := by
  refine identified_ledger ?_
  dsimp only
  repeat' split
  all_goals rfl

theorem takeWithdrawOffer_ledger (i : BitVec 32) (seq : Byte) (s : State) :
    (takeWithdrawOffer i seq s).1.ledger = s.ledger := by
  refine identified_ledger ?_
  dsimp only
  split <;> simp

theorem takeVoidSlot_ledger (i : BitVec 32) (seq : Byte) (s : State) : (takeVoidSlot i seq s).1.ledger = s.ledger := by
  have hvoid (n : Nat) : (s.modSlot n Slot.voidedOut).ledger = s.ledger := modSlot_ledger rfl
  refine identified_ledger ?_
  dsimp only
  split <;> simp [hvoid]

theorem takeActivateReserve_ledger (i : BitVec 32) (seq : Byte) (a : BitVec 32) (s : State) :
    (takeActivateReserve i seq a s).1.ledger = s.ledger := by
  have hstore (n : Nat) (x : Int) (u : State) : (storeReserve n x u).ledger = u.ledger := modSlot_ledger rfl
  refine identified_ledger ?_
  dsimp only
  split <;> simp [hstore]

theorem takeReadSlots_ledger (i : BitVec 32) (c k : Byte) (s : State) :
    (takeReadSlots i c k s).1.ledger = s.ledger := by
  simp only [takeReadSlots]
  repeat' split
  all_goals rfl

theorem takeScanSlots_ledger (i j : BitVec 32) (f c : Byte) (v : BitVec 32) (d : Byte) (s : State) :
    (takeScanSlots i j f c v d s).1.ledger = s.ledger := by
  simp only [takeScanSlots]
  repeat' split
  all_goals rfl

theorem takeFetchSettlement_lawful {n : Nat} (s : State) :
    Ledger.Lawful n s.ledger (takeFetchSettlement s).1.ledger := by
  rw [takeFetchSettlement]
  split
  case h_1 hring =>
    refine .book (fun h => ?_) id
    rw [show s.ledger.ring = s.sbk.ring from rfl, hring] at h
    exact (Nat.le_succ _).trans h
  case h_2 => exact .of_eq rfl

theorem takeReadPosition_ledger (s : State) : (takeReadPosition s).1.ledger = s.ledger := by
  simp only [takeReadPosition]
  split <;> simp

theorem takeReadCavern_ledger (p : Port) (b : Byte) (s : State) : (takeReadCavern p b s).1.ledger = s.ledger := by
  rw [takeReadCavern]
  split <;> rfl

theorem takeReadStore_ledger (b : Byte) (s : State) : (takeReadStore b s).1.ledger = s.ledger := by
  rw [takeReadStore]
  split <;> rfl

theorem takeFetchEvent_ledger (p : Port) (s : State) : (takeFetchEvent p s).1.ledger = s.ledger := by
  simp only [takeFetchEvent]
  split <;> rfl

theorem takeSetEventMask_ledger (p : Port) (b : Byte) (s : State) : (takeSetEventMask p b s).1.ledger = s.ledger := by
  rw [takeSetEventMask]
  split <;> rfl

theorem takeReadBytes_ledger (p : Port) (code : Nat) (bs : List Byte) (s : State) :
    (takeReadBytes p code bs s).1.ledger = s.ledger := by
  unfold takeReadBytes
  split
  case h_1 => exact takeReadCavern_ledger ..
  case h_2 => exact takeReadStore_ledger ..
  case h_3 => exact takeReadPosition_ledger s
  case h_7 => exact takeFetchEvent_ledger ..
  case h_8 => exact takeSetEventMask_ledger ..
  all_goals rfl

end Sys2Proof.Machine
end

section
/-! PROOFS. What a step may do to the ledger: the instrument line, the bytes of a port, and every row of the dispatch;
the book and the accounts stay lawful (O56, O57). -/

namespace Sys2Proof.Machine

/-! ## The instrument line (R41 to R43, R63, R64, R157, R161) -/

theorem reconcileCavern_lawful (c : Cavern) (s : State) : Ledger.Lawful 1 s.ledger (reconcileCavern c s).ledger := by
  simp only [reconcileCavern]
  repeat' split
  · rw [postRecheck_ledger]
    exact correctMass_lawful ..
  · exact .of_eq (modCavern_ledger rfl)
  · exact .of_eq rfl
  · exact .of_eq rfl

theorem reconcileTop_lawful (st : Store) (v : Nat) (s : State) :
    Ledger.Lawful 1 s.ledger (reconcileTop st v s).ledger := by
  simp only [reconcileTop]
  split
  case h_1 hstack =>
    split
    · rw [postRecheck_ledger]
      exact correctTop_lawful v hstack
    · exact .of_eq (modStore_ledger rfl)
  case h_2 => exact .of_eq rfl

theorem takePressure_lawful (c : Cavern) (v : Nat) (valid : Validity) (s : State) :
    Ledger.Lawful 1 s.ledger (takePressure c v valid s).ledger := by
  have hcopy : (evalBreach c (s.modCavern c fun r => { r with pressure := some v, pressureV := valid })).ledger =
      s.ledger := by
    rw [evalBreach_ledger]
    exact modCavern_ledger rfl
  rw [takePressure, plantEvent_ledger]
  dsimp only
  split
  · rw [← hcopy]
    exact reconcileCavern_lawful ..
  · exact .of_eq hcopy

theorem changeTemp_ledger (c : Cavern) (v : Nat) (s : State) : (changeTemp c v s).ledger = s.ledger := by
  rw [changeTemp, evalMassConds_ledger, recomputeEstimate_ledger, recomputeLimits_ledger]
  exact modCavern_ledger rfl

theorem takeTemperature_ledger (c : Cavern) (v : Nat) (valid : Validity) (s : State) :
    (takeTemperature c v valid s).ledger = s.ledger := by
  have hcopy : (s.modCavern c fun r => { r with temp := some v, tempV := valid }).ledger = s.ledger :=
    modCavern_ledger rfl
  rw [takeTemperature, plantEvent_ledger]
  dsimp only
  split
  · rw [changeTemp_ledger, hcopy]
  · exact hcopy

theorem takeTop_lawful (st : Store) (v : Nat) (valid : Validity) (s : State) :
    Ledger.Lawful 1 s.ledger (takeTop st v valid s).ledger := by
  have hcopy : (s.modStore st fun r => { r with top := some v, topV := valid }).ledger = s.ledger := modStore_ledger rfl
  rw [takeTop, plantEvent_ledger]
  dsimp only
  split
  · rw [← hcopy]
    exact reconcileTop_lawful ..
  · exact .of_eq hcopy

theorem handMeasurement_lawful (src : Source) (v : Nat) (valid : Validity) (s : State) :
    Ledger.Lawful 1 s.ledger (handMeasurement src v valid s).ledger := by
  cases src
  case s1 => exact takePressure_lawful ..
  case s2 => exact .of_eq (takeTemperature_ledger ..)
  case s3 => exact takePressure_lawful ..
  case s4 => exact .of_eq (takeTemperature_ledger ..)
  case s5 => exact takeTop_lawful ..
  case s6 => exact takeTop_lawful ..

theorem acceptFrame_lawful (src : Source) (raw : Nat) (status seq : Byte) (s : State) :
    Ledger.Lawful 1 s.ledger (acceptFrame src raw status seq s).ledger := by
  have hsource (r : SourceRec) : ((takeStaleTo src s).modSource src fun _ => r).ledger = s.ledger := by simp
  simp only [acceptFrame]
  split
  · rw [← hsource, ← emit_ledger]
    exact handMeasurement_lawful ..
  · rw [← hsource]
    exact handMeasurement_lawful ..

theorem takeFrame_lawful (chars : List Byte) (s : State) : Ledger.Lawful 1 s.ledger (takeFrame chars s).ledger := by
  simp only [takeFrame]
  repeat' split
  · exact .of_eq rfl
  · exact acceptFrame_lawful ..
  · exact .of_eq rfl
  · exact .of_eq rfl
  · exact .of_eq rfl

theorem modSource_line (s : State) (src : Source) (f : SourceRec → SourceRec) :
    (s.modSource src f).ilr.line = s.ilr.line := by
  cases src <;> rfl

theorem takeStale_line (s : State) (src : Source) : (takeStale s src).ilr.line = s.ilr.line := by
  have hcopy (u : State) : (staleCopy src u).ilr = u.ilr := by cases src <;> simp [staleCopy]
  simp only [takeStale]
  split
  · rw [hcopy, (emit_frame ..).2.2.1, modSource_line]
  · rfl

theorem takeStaleTo_line (src : Source) (s : State) : (takeStaleTo src s).ilr.line = s.ilr.line := by
  have hfold (l : List Source) (u : State) : (l.foldl takeStale u).ilr.line = u.ilr.line := by
    induction l generalizing u with
    | nil => rfl
    | cons x l ih => rw [List.foldl_cons, ih, takeStale_line]
  rw [takeStaleTo]
  split
  · rw [takeStale_line, hfold]
  · rfl

theorem acceptFrame_line (src : Source) (raw : Nat) (status seq : Byte) (s : State) :
    (acceptFrame src raw status seq s).ilr.line = s.ilr.line := by
  simp only [acceptFrame]
  split <;> simp [modSource_line, takeStaleTo_line]

theorem takeFrame_line (chars : List Byte) (s : State) : (takeFrame chars s).ilr.line = s.ilr.line := by
  simp only [takeFrame]
  repeat' split
  · rfl
  · exact acceptFrame_line ..
  · rfl
  · rfl
  · rfl

@[simp] theorem setLine_ledger (l : Line) (s : State) : (setLine l s).ledger = s.ledger := rfl

theorem takeChars_waitIdle {s : State} (h : s.ilr.line = .waitIdle) (chars : List Byte) :
    chars.foldl takeChar s = s := by
  have hchar (c : Byte) : takeChar s c = s := by simp [takeChar, h]
  induction chars with
  | nil => rfl
  | cons c chars ih => rw [List.foldl_cons, hchar, ih]

/-- One frame at most is taken without an idle gap. -/
theorem takeChars_lawful (chars : List Byte) (s : State) :
    Ledger.Lawful 1 s.ledger (chars.foldl takeChar s).ledger := by
  induction chars generalizing s with
  | nil => exact .of_eq rfl
  | cons c chars ih =>
    rw [List.foldl_cons]
    cases hline : s.ilr.line with
    | waitIdle => simpa only [takeChar, hline] using ih s
    | collecting held =>
      simp only [takeChar, hline]
      split
      · exact ih (setLine (.collecting (held ++ [c])) s)
      · rw [takeChars_waitIdle (takeFrame_line ..)]
        exact takeFrame_lawful _ (setLine .waitIdle s)

/-! ## Commands in bytes (R155, R175 to R177, R180) -/

theorem takeLoadInventory_lawful (o b m : Byte) (a : BitVec 32) (x : BitVec 16) (s : State) :
    Ledger.Lawful 2 s.ledger (takeLoadInventory o b m a x s).1.ledger := by
  rw [takeLoadInventory]
  repeat' split
  · exact (takeLoadCavern_lawful ..).mono (by decide)
  · exact (takeLoadStore_lawful ..).mono (by decide)
  · exact .of_eq rfl

theorem takeConfigBytes_lawful (p : Port) (code : Nat) (bs : List Byte) (s : State) :
    Ledger.Lawful 2 s.ledger (takeConfigBytes p code bs s).1.ledger := by
  unfold takeConfigBytes
  split
  case h_1 => exact .of_eq rfl
  case h_2 => split; exacts [.of_eq (takeSetCavern_ledger ..), .of_eq rfl]
  case h_3 => split; exacts [(takeSetStore_lawful ..).mono (by decide), .of_eq rfl]
  case h_4 => split; exacts [.of_eq (takeSetTrain_ledger ..), .of_eq rfl]
  case h_5 => split; exacts [.of_eq (takeSetFigures_ledger ..), .of_eq rfl]
  case h_6 => split; exacts [.of_eq (takeSetTiming_ledger ..), .of_eq rfl]
  case h_7 => split; exacts [.of_eq (takeSetArithMode_ledger ..), .of_eq rfl]
  case h_8 => exact .of_eq (takeSetLockEnable_ledger ..)
  case h_9 => split; exacts [takeLoadInventory_lawful .., .of_eq rfl]
  case h_10 => exact takeSetTime_lawful ..
  case h_11 => exact .of_eq (takeDeclareReady_ledger ..)
  case h_12 => exact .of_eq (takeWithdraw_ledger ..)
  case h_13 => exact .of_eq (takePark_ledger ..)
  case h_14 => split; exacts [.of_eq (takeSetReserveBand_ledger ..), .of_eq rfl]

theorem takeTrainBytes_lawful (p : Port) (code : Nat) (bs : List Byte) (s : State) :
    Ledger.Lawful 2 s.ledger (takeTrainBytes p code bs s).1.ledger := by
  unfold takeTrainBytes
  split
  case h_1 => split; exacts [.of_eq (takeRequestRun_ledger ..), .of_eq rfl]
  case h_2 => exact .of_eq (takeRelease_ledger ..)
  case h_3 => exact takeRunReport_lawful ..
  case h_4 => exact .of_eq (takeReadTrain_ledger ..)
  case h_5 => exact .of_eq (takeClearTrip_ledger ..)
  case h_6 => exact .of_eq (takeClearDerate_ledger ..)
  case h_7 => exact (takeDiscardTop_lawful ..).mono (by decide)

theorem takeTradeBytes_lawful (code : Nat) (bs : List Byte) (s : State) :
    Ledger.Lawful 2 s.ledger (takeTradeBytes code bs s).1.ledger := by
  unfold takeTradeBytes
  split
  case h_1 => split; exacts [.of_eq (takeOffer_ledger ..), .of_eq rfl]
  case h_2 => split; exacts [.of_eq (takeConfirm_ledger ..), .of_eq rfl]
  case h_3 => split; exacts [.of_eq (takeWithdrawOffer_ledger ..), .of_eq rfl]
  case h_4 => split; exacts [.of_eq (takeVoidSlot_ledger ..), .of_eq rfl]
  case h_5 => split; exacts [.of_eq (takeActivateReserve_ledger ..), .of_eq rfl]
  case h_6 => split; exacts [.of_eq (takeReadSlots_ledger ..), .of_eq rfl]
  case h_7 => split; exacts [.of_eq (takeScanSlots_ledger ..), .of_eq rfl]
  case h_8 => exact takeFetchSettlement_lawful s

theorem takeBytes_lawful (p : Port) (code : Nat) (bs : List Byte) (s : State) :
    Ledger.Lawful 2 s.ledger (takeBytes p code bs s).1.ledger := by
  rw [takeBytes]
  repeat' split
  · exact takeConfigBytes_lawful ..
  · exact takeTrainBytes_lawful ..
  · exact takeTradeBytes_lawful ..
  · exact .of_eq (takeReadBytes_ledger ..)

/-- The port waits for no further byte of a command: it executes, or holds a result (R175). -/
def PortIface.served (r : PortIface) : Prop := r.phase = .result ∨ r.phase = .executing

theorem placeTaken_served (p : Port) (form : Answer → List Byte) (t : Taken) :
    ((placeTaken p form t).port p).served := by
  rw [placeTaken]
  split
  · exact .inl (by simp [placeNow])
  · exact .inr (by simp)

theorem placeNow_served (p : Port) (bytes : List Byte) (s : State) : ((placeNow p bytes s).port p).served :=
  .inl (by simp [placeNow])

/-- What a byte at a port may do: no work of a block, or one command taken, after which the port waits for no byte. -/
def ByteMove (p : Port) (s t : State) : Prop :=
  (t.ledger = s.ledger ∧ ((s.port p).served → (t.port p).served)) ∨
    (Ledger.Lawful 2 s.ledger t.ledger ∧ ¬ (s.port p).served ∧ (t.port p).served)

theorem ByteMove.taken {p : Port} {s t : State} (h : Ledger.Lawful 2 s.ledger t.ledger) (hs : ¬ (s.port p).served)
    (ht : (t.port p).served) : ByteMove p s t := .inr ⟨h, hs, ht⟩

theorem ByteMove.kept {p : Port} {s t : State} (h : t.ledger = s.ledger) (ht : (s.port p).served → (t.port p).served) :
    ByteMove p s t := .inl ⟨h, ht⟩

theorem ByteMove.trans {p : Port} {a b c : State} (h : ByteMove p a b) (k : ByteMove p b c) : ByteMove p a c := by
  obtain ⟨hl, hs⟩ | ⟨hl, hn, hs⟩ := h
  · obtain ⟨kl, ks⟩ | ⟨kl, kn, ks⟩ := k
    · exact .kept (kl.trans hl) (ks ∘ hs)
    · exact .taken (hl ▸ kl) (kn ∘ hs) ks
  · obtain ⟨kl, ks⟩ | ⟨kl, kn, ks⟩ := k
    · exact .taken (kl ▸ hl) hn (ks hs)
    · exact absurd hs kn

theorem ByteMove.lawful {p : Port} {s t : State} (h : ByteMove p s t) : Ledger.Lawful 2 s.ledger t.ledger := by
  obtain ⟨hl, -⟩ | ⟨hl, -⟩ := h
  exacts [.of_eq hl, hl]

theorem takeAt_lawful {p : Port} {code : Nat} {take : State → Taken} (s : State)
    (h : ∀ u : State, Ledger.Lawful 2 u.ledger (take u).1.ledger) :
    Ledger.Lawful 2 s.ledger (takeAt p code take s).ledger := by
  rw [takeAt]
  split
  · rw [placeTaken_ledger]
    exact h (uncollect p s)
  · exact .of_eq rfl

theorem takeAt_served (p : Port) (code : Nat) (take : State → Taken) (s : State) :
    ((takeAt p code take s).port p).served := by
  rw [takeAt]
  split
  exacts [placeTaken_served .., placeNow_served ..]

theorem takeSoFar_move {p : Port} {s : State} (h : ¬ (s.port p).served) (streamed : Bool) (bytes : List Byte) :
    ByteMove p s (takeSoFar p streamed bytes s) := by
  unfold takeSoFar
  split
  case h_1 => exact .kept rfl id
  case h_2 b rest =>
    split
    · rw [takeStreamCollected]
      split
      · refine .taken ?_ h (placeTaken_served ..)
        rw [placeTaken_ledger]
        exact takeStreamed_lawful p b _ (uncollect p s)
      · exact .kept rfl fun hs => absurd hs h
    · rw [takeCollected]
      split
      · exact .taken (takeAt_lawful s (takeBytes_lawful p b.toNat rest)) h (takeAt_served ..)
      · exact .kept rfl fun hs => absurd hs h

theorem firstByte_move {p : Port} {s : State} (h : ¬ (s.port p).served) (b : Byte) :
    ByteMove p s (firstByte p b s) := by
  rw [firstByte]
  repeat' split
  · exact takeSoFar_move h ..
  · exact .kept rfl fun hs => absurd hs h
  · exact .kept rfl fun hs => absurd hs h
  · exact takeSoFar_move h ..
  · exact .kept rfl fun hs => absurd hs h

theorem resultByte_move (p : Port) (slot : Nat) (b : Byte) (s : State) :
    ByteMove p s (resultByte p slot b s) := by
  rw [resultByte]
  repeat' split
  · refine .kept ?_ fun _ => takeAt_served ..
    rw [takeAt]
    split
    · rw [placeTaken_ledger]
      rfl
    · rfl
  · exact .kept rfl id
  · refine .kept rfl fun hs => ?_
    simp only [State.modPort_port, if_true]
    split
    exacts [hs, hs]

theorem receiveByte_move (p : Port) (slot : Nat) (b : Byte) (s : State) : ByteMove p s (receiveByte p slot b s) := by
  have hserved (x : Phase) (hx : x ≠ .result ∧ x ≠ .executing) (h : (s.port p).phase = x) : ¬ (s.port p).served := by
    rw [PortIface.served, h]
    exact not_or.2 hx
  simp only [receiveByte]
  split
  case h_1 h => exact firstByte_move (hserved _ (by decide) h) b
  case h_2 h => exact takeSoFar_move (hserved _ (by decide) h) ..
  case h_3 => exact .kept rfl id
  case h_4 => exact resultByte_move ..

theorem clockByte_move (p : Port) (s : State) (b : Byte) : ByteMove p s (clockByte p s b) := by
  rw [clockByte]
  split
  · refine .trans (b := addSlots p 1 s) (.kept rfl fun hs => ?_) (receiveByte_move ..)
    simp only [addSlots, State.modPort_port, if_true]
    split
    exacts [hs, hs]
  · exact .kept rfl id

/-- The bytes of a frame, or of a row, take one command at most (R175, R176). -/
theorem clockBytes_lawful (p : Port) (bytes : List Byte) (s : State) :
    Ledger.Lawful 2 s.ledger (clockBytes p bytes s).ledger := by
  have hmove (l : List Byte) (u : State) : ByteMove p u (l.foldl (clockByte p) u) := by
    induction l generalizing u with
    | nil => exact .kept rfl id
    | cons b l ih => exact (clockByte_move p u b).trans (ih _)
  exact (hmove bytes s).lawful

theorem live_lawful {n : Nat} {f : State → State} (s : State) (h : ∀ u : State, Ledger.Lawful n u.ledger (f u).ledger) :
    Ledger.Lawful n s.ledger (live f s).ledger := by
  rw [live]
  split
  exacts [.of_eq rfl, h s]

theorem command_lawful {p : Port} {code : Byte} {params : List Byte} {take : State → Taken} (s : State)
    (h : ∀ u : State, Ledger.Lawful 2 u.ledger (take u).1.ledger) :
    Ledger.Lawful 2 s.ledger (command p code params take s).ledger := by
  rw [command]
  refine live_lawful s fun u => ?_
  split
  · exact takeAt_lawful (addSlots p (1 + params.length) u) h
  · exact clockBytes_lawful ..

theorem streamedCommand_lawful (p : Port) (b : Byte) (x : ReportFields) (s : State) :
    Ledger.Lawful 2 s.ledger (streamedCommand p b x s).ledger := by
  rw [streamedCommand]
  refine live_lawful s fun u => ?_
  split
  · rw [placeTaken_ledger]
    exact takeStreamed_lawful p b x (uncollect p (addSlots p 22 u))
  · exact clockBytes_lawful ..

/-! ## Every row and every step -/

theorem live_lawful_of_eq {f : State → State} (s : State) (h : ∀ u : State, (f u).ledger = u.ledger) :
    Ledger.Lawful 2 s.ledger (live f s).ledger := live_lawful s fun u => .of_eq (h u)

theorem command_lawful_of_eq {p : Port} {code : Byte} {params : List Byte} {take : State → Taken} (s : State)
    (h : ∀ u : State, (take u).1.ledger = u.ledger) : Ledger.Lawful 2 s.ledger (command p code params take s).ledger :=
  command_lawful s fun u => .of_eq (h u)

theorem exec_lawful (c : Instr) (s : State) : ∃ t, exec c s = .next t ∧ Ledger.Lawful 2 s.ledger t.ledger := by
  cases c
  case readIdentity => exact ⟨_, rfl, command_lawful_of_eq s fun _ => rfl⟩
  case setCavern => exact ⟨_, rfl, command_lawful_of_eq s (takeSetCavern_ledger _ _ _ _ _ _ _)⟩
  case setStore => exact ⟨_, rfl, command_lawful s fun u => (takeSetStore_lawful _ _ _ _ _ _ _ u).mono (by decide)⟩
  case setTrain => exact ⟨_, rfl, command_lawful_of_eq s (takeSetTrain_ledger _ _ _ _ _ _ _)⟩
  case setFigures => exact ⟨_, rfl, command_lawful_of_eq s (takeSetFigures_ledger _ _ _ _ _ _ _ _ _ _ _)⟩
  case setTiming => exact ⟨_, rfl, command_lawful_of_eq s (takeSetTiming_ledger _ _ _ _ _ _ _)⟩
  case setArithMode => exact ⟨_, rfl, command_lawful_of_eq s (takeSetArithMode_ledger _ _)⟩
  case setLockEnable => exact ⟨_, rfl, command_lawful_of_eq s (takeSetLockEnable_ledger _)⟩
  case loadInventoryCavern => exact ⟨_, rfl, command_lawful s fun u => (takeLoadCavern_lawful _ _ _ u).mono (by decide)⟩
  case loadInventoryStore => exact ⟨_, rfl, command_lawful s fun u => (takeLoadStore_lawful _ _ _ _ u).mono (by decide)⟩
  case setTime => exact ⟨_, rfl, command_lawful s (takeSetTime_lawful _ _)⟩
  case declareReady => exact ⟨_, rfl, command_lawful_of_eq s (takeDeclareReady_ledger _)⟩
  case withdraw => exact ⟨_, rfl, command_lawful_of_eq s (takeWithdraw_ledger _)⟩
  case park => exact ⟨_, rfl, command_lawful_of_eq s (takePark_ledger _)⟩
  case setReserveBand => exact ⟨_, rfl, command_lawful_of_eq s (takeSetReserveBand_ledger _ _ _)⟩
  case requestRun => exact ⟨_, rfl, command_lawful_of_eq s (takeRequestRun_ledger _ _ _ _)⟩
  case release => exact ⟨_, rfl, command_lawful_of_eq s (takeRelease_ledger _ _)⟩
  case runReport => exact ⟨_, rfl, command_lawful s (takeRunReport_lawful _ _ _)⟩
  case readTrain => exact ⟨_, rfl, command_lawful_of_eq s (takeReadTrain_ledger _)⟩
  case clearTrip => exact ⟨_, rfl, command_lawful_of_eq s (takeClearTrip_ledger _ _)⟩
  case clearDerate => exact ⟨_, rfl, command_lawful_of_eq s (takeClearDerate_ledger _ _)⟩
  case discardTop => exact ⟨_, rfl, command_lawful s fun u => (takeDiscardTop_lawful _ u).mono (by decide)⟩
  case offer => exact ⟨_, rfl, command_lawful_of_eq s (takeOffer_ledger _ _ _ _ _)⟩
  case confirm => exact ⟨_, rfl, command_lawful_of_eq s (takeConfirm_ledger _ _ _)⟩
  case withdrawOffer => exact ⟨_, rfl, command_lawful_of_eq s (takeWithdrawOffer_ledger _ _)⟩
  case voidSlot => exact ⟨_, rfl, command_lawful_of_eq s (takeVoidSlot_ledger _ _)⟩
  case activateReserve => exact ⟨_, rfl, command_lawful_of_eq s (takeActivateReserve_ledger _ _ _)⟩
  case readSlots => exact ⟨_, rfl, command_lawful_of_eq s (takeReadSlots_ledger _ _ _)⟩
  case scanSlots => exact ⟨_, rfl, command_lawful_of_eq s (takeScanSlots_ledger _ _ _ _ _ _)⟩
  case fetchSettlement => exact ⟨_, rfl, command_lawful s takeFetchSettlement_lawful⟩
  case readCavern => exact ⟨_, rfl, command_lawful_of_eq s (takeReadCavern_ledger _ _)⟩
  case readStore => exact ⟨_, rfl, command_lawful_of_eq s (takeReadStore_ledger _)⟩
  case readPosition => exact ⟨_, rfl, command_lawful_of_eq s takeReadPosition_ledger⟩
  case readArith => exact ⟨_, rfl, command_lawful_of_eq s fun _ => rfl⟩
  case clearArith => exact ⟨_, rfl, command_lawful_of_eq s fun _ => rfl⟩
  case readTime => exact ⟨_, rfl, command_lawful_of_eq s fun _ => rfl⟩
  case fetchEvent => exact ⟨_, rfl, command_lawful_of_eq s (takeFetchEvent_ledger _)⟩
  case setEventMask => exact ⟨_, rfl, command_lawful_of_eq s (takeSetEventMask_ledger _ _)⟩
  case portReset => exact ⟨_, rfl, command_lawful_of_eq s fun _ => rfl⟩
  case unknownCommandCode => exact ⟨_, rfl, live_lawful s (clockBytes_lawful _ _)⟩
  case streamedReport => exact ⟨_, rfl, streamedCommand_lawful _ _ _ s⟩
  case escapeByte => exact ⟨_, rfl, live_lawful s (clockBytes_lawful _ _)⟩
  case frameEnd => exact ⟨_, rfl, live_lawful s (clockBytes_lawful _ _)⟩
  case selectFall => exact ⟨_, rfl, live_lawful_of_eq s (takeSelectFall_ledger _)⟩
  case presentFall p =>
    refine ⟨_, rfl, ?_⟩
    split
    exacts [live_lawful_of_eq (setPresentPin p false s) (takePresentFall_ledger p), .of_eq rfl]
  case presentRise p =>
    refine ⟨_, rfl, ?_⟩
    split
    exacts [.of_eq rfl, live_lawful_of_eq (setPresentPin p true s) (takePresentRise_ledger p)]
  case resetFall => refine ⟨_, rfl, .of_eq ?_⟩; split <;> rfl
  case resetRise =>
    refine ⟨_, rfl, ?_⟩
    split
    exacts [afterReset_lawful _ _ _ s, .of_eq rfl]
  case pinChange code rsvtb =>
    refine ⟨_, rfl, live_lawful_of_eq { s with pins := { s.pins with rsv := code, rsvtb := rsvtb } } fun u => ?_⟩
    split
    exacts [rfl, takePinChange_ledger ..]
  case envlockChange => exact ⟨_, rfl, .of_eq rfl⟩
  case tpulseEdge now => exact ⟨_, rfl, live_lawful s (takeEdge_lawful now)⟩
  case holdoverEntry now => exact ⟨_, rfl, live_lawful s (takeHoldover_lawful now)⟩
  case holdoverAdvance now => exact ⟨_, rfl, live_lawful s (takeHoldoverSecond_lawful now)⟩
  case stagingLeadEvent => exact ⟨_, rfl, live_lawful_of_eq s takeStaging_ledger⟩
  case boundary => exact ⟨_, rfl, live_lawful s takeBoundary_lawful⟩
  case instrumentFrame chars => exact ⟨_, rfl, live_lawful s fun u => (takeChars_lawful chars u).mono (by decide)⟩
  case lineIdleGap => exact ⟨_, rfl, live_lawful_of_eq s fun _ => rfl⟩
  case framingError => exact ⟨_, rfl, live_lawful_of_eq s fun _ => rfl⟩
  case sourceStale src => exact ⟨_, rfl, live_lawful_of_eq s (takeStaleTo_ledger src)⟩
  case agingPass => exact ⟨_, rfl, live_lawful s takeAging_lawful⟩
  case offerExpiry j => exact ⟨_, rfl, live_lawful_of_eq s fun u => takeExpiry_ledger u j⟩
  case lateRung tr => exact ⟨_, rfl, live_lawful_of_eq s (takeLate_ledger tr)⟩
  case overdueRung tr => exact ⟨_, rfl, live_lawful_of_eq s (takeOverdue_ledger tr)⟩
  case lostRung tr => exact ⟨_, rfl, live_lawful_of_eq s (takeLost_ledger tr)⟩
  case walkStart => exact ⟨_, rfl, live_lawful_of_eq s startWalk_ledger⟩
  case offerWalkCompletion => exact ⟨_, rfl, live_lawful_of_eq s completeOffer_ledger⟩
  case confirmWalkCompletion => exact ⟨_, rfl, live_lawful_of_eq s completeConfirm_ledger⟩
  case recheckWalkCompletion => exact ⟨_, rfl, live_lawful_of_eq s completeFlownRecheck_ledger⟩

theorem step_lawful {s t : State} (h : step s = .next t) : Ledger.Lawful 2 s.ledger t.ledger := by
  rw [step] at h
  split at h
  case h_1 => exact .of_eq (congrArg State.ledger (Host.Outcome.next.inj h).symm)
  case h_2 c rest _ =>
    obtain ⟨u, hu, hl⟩ := exec_lawful c (s.withPending rest)
    obtain rfl : u = t := Host.Outcome.next.inj (hu.symm.trans h)
    exact hl

/-! ## The window (R78, R81, R83) -/

theorem bookIndexed_iff (s : State) : BookIndexed s ↔ s.ledger.Indexed := by
  have hlength : s.ledger.intervals.length = s.sbk.slots.length := List.length_map ..
  simp only [BookIndexed, Ledger.Indexed, hlength]
  refine and_congr_right fun hlen => forall₂_congr fun n _ => ?_
  have hlt : (s.sbk.current + n) % 96 < s.sbk.slots.length := by omega
  simp [State.ledger, State.slot, Config.slotCount, List.getElem?_eq_getElem hlt, List.getD]

/-- Settles O57: no row but SET TIME, the boundary and the rise of RESET moves an interval of the window, and these
keep every record at its index. -/
theorem windowStaysIndexed : Obligations.WindowStaysIndexed := fun s t hs h =>
  (bookIndexed_iff t).2 ((step_lawful h).indexed ((bookIndexed_iff s).1 hs))

/-! ## Bounds and accounts (R1, R33, R47, R48, R66, R88) -/

theorem near_zero_of_roomy {x : Int} (h : Roomy x) : Near 0 x := by
  simp only [Roomy, Near] at *
  omega

theorem accounts_sound {s : State} (h : AccountsBalanced s) (hroom : CountersRoomy s) :
    (∀ c, (s.ledger.caverns c).Sound 0) ∧ ∀ st, (s.ledger.stores st).Sound 0 := by
  refine ⟨fun c => ?_, fun st => ?_⟩
  · obtain ⟨hfilled, hwithdrawn, hreconciled⟩ := hroom.1 c
    obtain ⟨hbalance, htop⟩ := h.1 c
    exact ⟨hbalance, htop, near_zero_of_roomy hfilled, near_zero_of_roomy hwithdrawn, near_zero_of_roomy hreconciled⟩
  · obtain ⟨hdeposited, hdrawn, hwritten, hreconciled⟩ := hroom.2 st
    obtain ⟨hbalance, hcontent, hcap⟩ := h.2 st
    exact ⟨hbalance, hcontent, hcap, near_zero_of_roomy hdeposited, near_zero_of_roomy hdrawn,
      near_zero_of_roomy hwritten, near_zero_of_roomy hreconciled⟩

theorem accounts_balanced {s : State} {k : Nat} (hc : ∀ c, (s.ledger.caverns c).Sound k)
    (hst : ∀ st, (s.ledger.stores st).Sound k) : AccountsBalanced s := by
  refine ⟨fun c => ?_, fun st => ?_⟩
  · obtain ⟨hbalance, htop, -⟩ := hc c
    exact ⟨hbalance, htop⟩
  · obtain ⟨hbalance, hcontent, hcap, -⟩ := hst st
    exact ⟨hbalance, hcontent, hcap⟩

theorem stacksBounded_iff (s : State) : StacksBounded s ↔ ∀ st, (s.ledger.stores st).heats.length ≤ 24 := by
  refine forall_congr' fun st => ?_
  rw [show (s.ledger.stores st).heats.length = _ from List.length_map ..]

/-- Settles O56: a step moves an account at most twice, each time by less than 2^32, so counters within 2^62 of 0 do
not saturate, and every move keeps the account balanced. -/
theorem booksStayBounded : Obligations.BooksStayBounded := by
  refine ⟨fun s t hring hstacks h => ⟨(step_lawful h).ring hring, ?_⟩, fun s t hs hroom h => ?_⟩
  · exact (stacksBounded_iff t).2 ((step_lawful h).parcels ((stacksBounded_iff s).1 hstacks))
  · obtain ⟨hc, hst⟩ := accounts_sound hs hroom
    exact accounts_balanced ((step_lawful h).caverns 0 (by decide) hc) ((step_lawful h).stores 0 (by decide) hst)

end Sys2Proof.Machine
end

section
/-! PROOFS. SCAN SLOTS, FETCH SETTLEMENT, and the identity checks of the commands that name a slot. -/

namespace Sys2Proof.Machine

/-! ## What the book shows (R80, R91) -/

theorem inWindow_congr {s u : State} (h : u.sbk = s.sbk) (j : Nat) : u.inWindow j = s.inWindow j := by
  simp only [State.inWindow, h]

theorem slot_congr {s u : State} (h : u.sbk = s.sbk) (j : Nat) : u.slot j = s.slot j := by
  simp only [State.slot, h]

theorem window_congr {s u : State} (h : u.sbk = s.sbk) : u.window = s.window := by
  simp only [State.window, h]

theorem scanSlotsFrom_congr {s u : State} (h : u.sbk = s.sbk) (first last stride : Nat) :
    scanSlotsFrom u first last stride = scanSlotsFrom s first last stride := by
  simp only [scanSlotsFrom, window_congr h, funext (slot_congr h)]

theorem inWindow_iff (s : State) (j : Nat) :
    s.inWindow j = true ↔ s.sbk.current ≤ j ∧ j < s.sbk.current + 96 := by
  rw [State.inWindow, Bool.and_eq_true, decide_eq_true_eq, decide_eq_true_eq, Config.slotCount]

theorem withinPower_iff (x : Int) : withinPower x = true ↔ -2000000 ≤ x ∧ x ≤ 2000000 := by
  rw [withinPower, Bool.and_eq_true, decide_eq_true_eq, decide_eq_true_eq, Config.powerTop]
  rfl

theorem OnlyPort.sbk {p : Port} {s u : State} (h : OnlyPort p s u) : u.sbk = s.sbk := by rw [h.1]

/-! ## SCAN SLOTS (R91) -/

theorem exec_scanSlots (p : Port) (first last : BitVec 32) (f c : Byte) (v : BitVec 32) (d : Byte) (s : State) :
    exec (.scanSlots p first last f c v d) s = .next (command p 0x26 (putBE 4 first.toNat ++ putBE 4 last.toNat ++
      [f, c] ++ putBE 4 v.toNat ++ [d]) (takeScanSlots first last f c v d) s) := rfl

/-- A SCAN SLOTS whose taking answers and changes nothing, whatever the ports hold, only answers. -/
theorem scanSlots_answersOnly {p : Port} {s : State} (h : Ready p s) {first last v : BitVec 32} {f c d : Byte}
    {a : Answer} (ht : ∀ u : State, u.sbk = s.sbk → takeScanSlots first last f c v d u = (u, some a)) :
    AnswersOnly (.scanSlots p first last f c v d) p a s :=
  ⟨_, exec_scanSlots p first last f c v d s, command_answersOnly h rfl fun u hu => ht u hu.sbk⟩

/-- The range test of the operands of SCAN SLOTS (R91). -/
def scanInRange (s : State) (first last v : BitVec 32) (d : Byte) : Bool :=
  s.inWindow first.toNat && s.inWindow last.toNat && decide (first.toNat ≤ last.toNat) &&
    withinPower v.toInt && within 1 2 d.toNat

theorem scanInRange_iff (s : State) (first last v : BitVec 32) (d : Byte) :
    scanInRange s first last v d = true ↔ s.inWindow first.toNat = true ∧ s.inWindow last.toNat = true ∧
      first.toNat ≤ last.toNat ∧ (-2000000 ≤ v.toInt ∧ v.toInt ≤ 2000000) ∧ (d.toNat = 1 ∨ d.toNat = 2) := by
  have hstride : (1 ≤ d.toNat ∧ d.toNat ≤ 2) ↔ (d.toNat = 1 ∨ d.toNat = 2) := by omega
  simp only [scanInRange, within, withinPower_iff, Bool.and_eq_true, decide_eq_true_eq, ← hstride, and_assoc]

theorem scanInRange_congr {s u : State} (h : u.sbk = s.sbk) (first last v : BitVec 32) (d : Byte) :
    scanInRange u first last v d = scanInRange s first last v d := by
  simp only [scanInRange, inWindow_congr h]

theorem takeScanSlots_inRange {first last v : BitVec 32} {f c d : Byte} {fig : ScanFigure} {cmp : Comparison}
    {s : State} (hf : scanFigureOf f = some fig) (hc : comparisonOf c = some cmp) (hrange : scanInRange s first last v d = true) :
    takeScanSlots first last f c v d s = (s, some (.done (scanBody fig cmp v.toInt
      (scanSlotsFrom s first.toNat last.toNat d.toNat)))) := by
  simp only [takeScanSlots, hf, hc]
  exact if_pos hrange

theorem takeScanSlots_outOfRange {first last v : BitVec 32} {f c d : Byte} {s : State}
    (h : scanFigureOf f = none ∨ comparisonOf c = none ∨ scanInRange s first last v d = false) :
    takeScanSlots first last f c v d s = refuse .range s := by
  rw [takeScanSlots]
  split
  case h_1 hf hc =>
    obtain h | h | h := h
    · cases hf.symm.trans h
    · cases hc.symm.trans h
    · exact if_neg (ne_true_of_eq_false h)
  case h_2 => rfl

theorem scanBody_hit {fig : ScanFigure} {cmp : Comparison} {v : Int} {xs : List Slot} {x : Slot}
    (h : xs.find? (fun x => (scanned fig x).any (fun y => cmp.meets y v)) = some x) :
    scanBody fig cmp v xs = [0x01] ++ putBE 4 x.interval ++ [x.seq] ++ [BitVec.ofNat 8 x.state.code] ++
      putSigned 4 ((scanned fig x).getD 0) := by
  rw [scanBody, h]
  simp [putBE]

theorem scanBody_missed {fig : ScanFigure} {cmp : Comparison} {v : Int} {xs : List Slot}
    (h : xs.find? (fun x => (scanned fig x).any (fun y => cmp.meets y v)) = none) :
    scanBody fig cmp v xs = 0x02 :: List.replicate 10 0 := by
  rw [scanBody, h]
  rfl

/-- Settles O5: the taking of SCAN SLOTS reads the book alone, and answers over an unchanged part. -/
theorem scanSlotsAnswer : Obligations.ScanSlotsAnswer := by
  intro p s first last f c v d h
  refine ⟨fun fig cmp hf hc hfirst hlast hle hlow hhigh hd => ?_, fun hout => ?_⟩
  · have hrange := (scanInRange_iff s first last v d).2 ⟨hfirst, hlast, hle, ⟨hlow, hhigh⟩, hd⟩
    have htaken (u : State) (hu : u.sbk = s.sbk) : takeScanSlots first last f c v d u = (u, some (.done
        (scanBody fig cmp v.toInt (scanSlotsFrom s first.toNat last.toNat d.toNat)))) := by
      rw [takeScanSlots_inRange hf hc ((scanInRange_congr hu ..).trans hrange), scanSlotsFrom_congr hu]
    refine ⟨fun x hx => scanSlots_answersOnly h ?_, fun hx => scanSlots_answersOnly h ?_⟩
    · rw [← scanBody_hit hx]
      exact htaken
    · rw [← scanBody_missed hx]
      exact htaken
  · refine scanSlots_answersOnly h fun u hu => takeScanSlots_outOfRange ?_
    rw [scanInRange_congr hu, ← Bool.not_eq_true, scanInRange_iff]
    simp only [← Bool.not_eq_true] at hout
    by_cases hf : scanFigureOf f = none
    · exact .inl hf
    by_cases hc : comparisonOf c = none
    · exact .inr (.inl hc)
    refine .inr (.inr fun ⟨hfirst, hlast, hle, ⟨hlow, hhigh⟩, hd⟩ => ?_)
    obtain hout | hout | hout | hout | hout | hout | hout | hout := hout
    exacts [hf hout, hc hout, hout hfirst, hout hlast, by omega, by omega, by omega, by omega]

/-! ## FETCH SETTLEMENT (R89) -/

theorem exec_fetchSettlement (p : Port) (s : State) :
    exec (.fetchSettlement p) s = .next (command p 0x27 [] takeFetchSettlement s) := rfl

/-- Settles O11: the ring is read and shortened at its head, and nothing else of the part is touched. -/
theorem fetchSettlementTakesOldest : Obligations.FetchSettlementTakesOldest := by
  intro s h
  refine ⟨fun hring => ⟨_, exec_fetchSettlement .t s, command_answersOnly h rfl fun u hu => ?_⟩,
    fun r rest hring => ⟨_, exec_fetchSettlement .t s, ?_⟩⟩
  · rw [takeFetchSettlement, hu.sbk, hring]
    rfl
  · have hu := uncollect_onlyPort .t (1 + ([] : List Byte).length) s
    have htaken : takeFetchSettlement (uncollect .t (addSlots .t (1 + ([] : List Byte).length) s)) =
        ({ uncollect .t (addSlots .t (1 + ([] : List Byte).length) s) with sbk := { s.sbk with ring := rest } },
          some (.done (putBE 1 rest.length ++ settlementBytes r))) := by
      rw [takeFetchSettlement, hu.sbk, hring]
    rw [command_answered h rfl htaken]
    exact ⟨placeNow_answers .t _ _, rfl, rfl, fun q hq => (placeNow_otherPorts .t _ _ q hq).trans (hu.2 q hq)⟩

/-! ## The identity checks (R80) -/

theorem identified_outside {j : Nat} {seq : Byte} {f : State → Taken} {s : State}
    (h : j < s.sbk.current ∨ s.sbk.current + 96 ≤ j) : identified j seq f s = refuse .range s := by
  have hout : s.inWindow j = false := by
    rw [← Bool.not_eq_true, inWindow_iff]
    omega
  simp [identified, identify, hout]

theorem identified_stale {j : Nat} {seq : Byte} {f : State → Taken} {s : State} (hlow : s.sbk.current ≤ j)
    (hhigh : j < s.sbk.current + 96) (h : (s.slot j).seq ≠ seq) : identified j seq f s = refuse .staleSequence s := by
  have hin : s.inWindow j = true := (inWindow_iff s j).2 ⟨hlow, hhigh⟩
  simp [identified, identify, hin, h]

/-- A command that is first judged by its slot's identity, and refused by it, only answers. -/
theorem identified_answersOnly {s : State} (h : Ready .t s) {c : Instr} {code : Byte} {params : List Byte} {j : Nat}
    {seq : Byte} {f : State → Taken} {result : ResultCode} (hcode : admits code.toNat .t = true)
    (hc : exec c s = .next (command .t code params (identified j seq f) s))
    (ht : ∀ u : State, u.sbk = s.sbk → identified j seq f u = refuse result u) : AnswersOnly c .t (.bare result) s :=
  ⟨_, hc, command_answersOnly h hcode fun u hu => ht u hu.sbk⟩

/-- Settles O33: the four commands go through the identity checks before their own tests. -/
theorem slotIdentity : Obligations.SlotIdentity := by
  intro s i v seq h
  refine ⟨fun hout => ?_, fun hlow hhigh hseq => ?_⟩
  · have houtside (f : State → Taken) (u : State) (hu : u.sbk = s.sbk) :
        identified i.toNat seq f u = refuse .range u := identified_outside (by rwa [hu])
    exact ⟨identified_answersOnly h rfl rfl (houtside _), identified_answersOnly h rfl rfl (houtside _),
      identified_answersOnly h rfl rfl (houtside _), identified_answersOnly h rfl rfl (houtside _)⟩
  · have hstale (f : State → Taken) (u : State) (hu : u.sbk = s.sbk) :
        identified i.toNat seq f u = refuse .staleSequence u :=
      identified_stale (by rwa [hu]) (by rwa [hu]) (by rwa [slot_congr hu])
    exact ⟨identified_answersOnly h rfl rfl (hstale _), identified_answersOnly h rfl rfl (hstale _),
      identified_answersOnly h rfl rfl (hstale _), identified_answersOnly h rfl rfl (hstale _)⟩

end Sys2Proof.Machine
end

section
/-! PROOFS. The work that an advance leaves due, and what the clock keeps through it; the TPULSE edge, the watch and the
holdover second; SET TIME. -/

namespace Sys2Proof.Machine

/-! ## A part with nothing due (log 6) -/

theorem foldl_eq_self {α : Type} {f : State → α → State} {s : State} (h : ∀ x, f s x = s) (l : List α) :
    l.foldl f s = s := by
  induction l with
  | nil => rfl
  | cons x l ih => rw [List.foldl_cons, h, ih]

theorem takeStale_of_not_due {s : State} {src : Source} (h : (s.ilr.get src).staleDue = false) :
    takeStale s src = s := by
  simp [takeStale, SourceRec.due, h]

theorem takeRungs_of_none {s : State} {tr : Train} (h : (s.train tr).rungs = 0) : takeRungs s tr = s := by
  simp [takeRungs, takeLate, takeOverdue, takeLost, TrainRec.rungWaits, h]

theorem takeExpiry_of_unmarked {s : State} (h : s.pck.expiryMark = none) (j : Nat) : takeExpiry s j = s := by
  have hexpired : s.expired j = false := by
    rw [State.expired, h]
    split
    case h_1 hmark => cases hmark
    case h_2 => rfl
  simp [takeExpiry, hexpired]

theorem startWalk_of_settled {s : State} (hflag : s.pen.recheckFlag = false) (hwaiting : s.pen.waiting = none)
    (hbase : ∀ f, s.pen.flight = some f → f.base.isSome = true) : startWalk s = s := by
  have hup : s.pen.takeUp = s.pen := by
    simp only [Pen.takeUp, hflag, hwaiting]
    split <;> rfl
  rw [startWalk, hup]
  dsimp only
  split
  case h_1 hflight => cases hbase _ hflight
  case h_2 => rfl

theorem drain_of_nothingDue {s : State} (h : NothingDue s) : drain s = s := by
  obtain ⟨haging, hstale, hrungs, hexpiry, hstaging, hboundary, hflag, hwaiting, hbase⟩ := h
  have htakeAging : takeAging s = s := by simp [takeAging, haging]
  have htakeStaging : takeStaging s = s := by simp [takeStaging, hstaging]
  have htakeBoundary : takeBoundary s = s := by simp [takeBoundary, hboundary]
  simp only [drain, htakeAging, foldl_eq_self fun src => takeStale_of_not_due (hstale src),
    foldl_eq_self fun tr => takeRungs_of_none (hrungs tr), foldl_eq_self (takeExpiry_of_unmarked hexpiry),
    htakeStaging, htakeBoundary, startWalk_of_settled hflag hwaiting hbase]

/-- Only the blocks that hold due work decide whether there is any. -/
theorem NothingDue.congr {s u : State} (h : NothingDue s) (hhsu : u.hsu = s.hsu) (hilr : u.ilr = s.ilr)
    (hdsu : u.dsu = s.dsu) (hpen : u.pen = s.pen) (hexpiry : u.pck.expiryMark = s.pck.expiryMark)
    (hstaging : u.pck.stagingDue = s.pck.stagingDue) (hboundary : u.pck.boundaryDue = s.pck.boundaryDue) :
    NothingDue u := by
  simpa only [NothingDue, State.train, hhsu, hilr, hdsu, hpen, hexpiry, hstaging, hboundary] using h

/-! ## What the due work leaves of the clock -/

/-- The clocks of two states differ at most in what stands due of the staging-lead event and the boundary. -/
def SameTime (s t : State) : Prop :=
  t.pck = { s.pck with
    stagingMark := t.pck.stagingMark, stagingDue := t.pck.stagingDue, boundaryDue := t.pck.boundaryDue }

theorem SameTime.of_eq {s t : State} (h : t.pck = s.pck) : SameTime s t := by rw [SameTime, h]

theorem SameTime.trans {a b c : State} (h : SameTime a b) (k : SameTime b c) : SameTime a c := by
  rw [SameTime] at *
  rw [k, h]

theorem takeStaging_sameTime (s : State) : SameTime s (takeStaging s) := by
  rw [takeStaging]
  split
  · simp [SameTime]
  · exact .of_eq rfl

theorem takeBoundary_sameTime (s : State) : SameTime s (takeBoundary s) := by
  rw [takeBoundary]
  split
  · refine (takeStaging_sameTime s).trans ?_
    simp [SameTime]
  · exact .of_eq rfl

/-- The due work that comes before the staging-lead event: the aging pass, the stale sources, the rungs and the
expiries. -/
def unitWork (s : State) : State :=
  let s1 := allSources.foldl takeStale (takeAging s)
  s1.window.foldl takeExpiry (allTrains.foldl takeRungs s1)

theorem drain_eq (s : State) : drain s = startWalk (takeBoundary (takeStaging (unitWork s))) := rfl

theorem unitWork_pck (s : State) : (unitWork s).pck = s.pck := by simp [unitWork, allTrains]

theorem drain_sameTime (s : State) : SameTime s (drain s) := by
  have hevents := (SameTime.of_eq (unitWork_pck s)).trans
    ((takeStaging_sameTime (unitWork s)).trans (takeBoundary_sameTime (takeStaging (unitWork s))))
  exact hevents.trans (.of_eq (by rw [drain_eq, (startWalk_frame _).2.2.1]))

theorem drain_clock (s : State) : (drain s).pck.seconds = s.pck.seconds ∧ (drain s).pck.moment = s.pck.moment ∧
    (drain s).pck.lastAdvance = s.pck.lastAdvance ∧ (drain s).pck.holdover = s.pck.holdover ∧
    (drain s).pck.holdCount = s.pck.holdCount ∧ (drain s).pck.timeSet = s.pck.timeSet := by
  rw [drain_sameTime s]
  exact ⟨rfl, rfl, rfl, rfl, rfl, rfl⟩

/-! ## Advances and holdover (R72, R73) -/

/-- Below the top of plant seconds an advance counts one second, at the moment shown, over the work done. -/
theorem advance_below {s : State} (h : s.pck.seconds < 4294967295) : advance s = countAdvance (drain s) := by
  have htop : (drain s).pck.seconds < Config.countTop := by
    rw [(drain_clock s).1, Config.countTop]
    exact h
  simp only [advance, if_pos htop]

theorem countAdvance_clock (s : State) : (countAdvance s).pck.seconds = s.pck.seconds + 1 ∧
    (countAdvance s).pck.lastAdvance = s.pck.moment ∧ (countAdvance s).pck.holdover = s.pck.holdover ∧
    (countAdvance s).pck.holdCount = s.pck.holdCount := ⟨rfl, rfl, rfl, rfl⟩

theorem countAdvance_drain_clock (s : State) :
    (countAdvance (drain s)).pck.seconds = s.pck.seconds + 1 ∧
      (countAdvance (drain s)).pck.lastAdvance = s.pck.moment ∧
      (countAdvance (drain s)).pck.holdover = s.pck.holdover ∧
      (countAdvance (drain s)).pck.holdCount = s.pck.holdCount := by
  obtain ⟨hseconds, hmoment, -, hholdover, hcount, -⟩ := drain_clock s
  obtain ⟨hadvanced, hlast, hkept, hcounted⟩ := countAdvance_clock (drain s)
  exact ⟨by rw [hadvanced, hseconds], by rw [hlast, hmoment], by rw [hkept, hholdover], by rw [hcounted, hcount]⟩

/-- The end of holdover clears the flag, and its record joins the queues. -/
theorem endHoldover_effect (s : State) :
    endHoldover s = { s with pck := { s.pck with holdover := false }, evr := (endHoldover s).evr } ∧
      EventsOnlyJoin s (endHoldover s) ∧ (s.pck.holdover = false → endHoldover s = s) := by
  cases h : s.pck.holdover with
  | false =>
    have hpck : ({ s.pck with holdover := false } : Pck) = s.pck := by rw [← h]
    have hsame : endHoldover s = s := by simp [endHoldover, h]
    exact ⟨by rw [hsame, hpck], .of_eq (by rw [hsame]), fun _ => hsame⟩
  | true =>
    have hended : endHoldover s = emit .timeHoldover .info .nothing s.pck.seconds s.pck.holdCount
        { s with pck := { s.pck with holdover := false } } := by simp [endHoldover, h]
    rw [hended]
    exact ⟨rfl, fun p => emit_joins _ _ _ _ _ { s with pck := { s.pck with holdover := false } } p, nofun⟩

theorem endHoldover_clock (s : State) : (endHoldover s).pck.seconds = s.pck.seconds ∧
    (endHoldover s).pck.lastAdvance = s.pck.lastAdvance := by
  rw [(endHoldover_effect s).1]
  exact ⟨rfl, rfl⟩

/-- A plant-wide record joins, where it is not masked and there is room, behind what stands at every port that is not
ABSENT. -/
theorem emit_told {kind : EventKind} (hroute : kind.route = .plantWide) (cls : EventClass) (subject : Subject)
    (w1 w2 : Int) {p : Port} {s : State} (h : s.presence p ≠ .absent) :
    Told p kind cls subject w1 w2 s (emit kind cls subject w1 w2 s) := by
  intro hroom hmask
  have hnot : ¬ (cls = .info ∧ (s.events p).mask = true) := fun ⟨hinfo, hmasked⟩ => by simp [hmask hinfo] at hmasked
  have hto : routedTo (s.presence p) ⟨kind, cls, subject, s.pck.seconds, dataWord w1, dataWord w2⟩ p = true := by
    simp [routedTo, hroute, h]
  rw [emit, route_events, EventPort.offered, if_pos hto, EventPort.take, if_neg hnot,
    if_pos (show (s.events p).queue.length < Config.queueTop from hroom)]

theorem exec_tpulseEdge (now : Nat) (s : State) : exec (.tpulseEdge now) s = .next (live (takeEdge now) s) := rfl
theorem exec_holdoverEntry (now : Nat) (s : State) :
    exec (.holdoverEntry now) s = .next (live (takeHoldover now) s) := rfl
theorem exec_holdoverAdvance (now : Nat) (s : State) :
    exec (.holdoverAdvance now) s = .next (live (takeHoldoverSecond now) s) := rfl

theorem live_released {f : State → State} {s : State} (h : s.pins.resetLow = false) : live f s = f s := by
  simp [live, h]

/-- Time since the last advance, as a span that has passed. -/
theorem span_passed (span : Nat) (h : 0 < span) (s : State) :
    span ≤ s.sinceAdvance ↔ s.pck.lastAdvance + span ≤ s.pck.moment := by
  rw [State.sinceAdvance]
  omega

/-- The state when the watch ends: holdover begins with count 0, and TIME HOLDOVER is handed to the router. -/
def holdoverBegun (s : State) : State :=
  emit .timeHoldover .notice .nothing s.pck.seconds 0 { s with pck := { s.pck with holdover := true, holdCount := 0 } }

theorem holdoverBegun_joins (s : State) : EventsOnlyJoin s (holdoverBegun s) := fun p =>
  emit_joins _ _ _ _ _ { s with pck := { s.pck with holdover := true, holdCount := 0 } } p

theorem countUp_below {n : Nat} (h : n < 4294967295) : countUp n = n + 1 := by
  rw [countUp, Config.countTop, if_pos h]

theorem takeHoldover_passed {now : Nat} {s : State} (hoff : s.pck.holdover = false)
    (h : s.pck.lastAdvance + 37500000 ≤ max s.pck.moment now) :
    takeHoldover now s = advance (holdoverBegun (noteMoment now s)) :=
  if_pos ⟨hoff, (span_passed Config.watchSpan (by decide) (noteMoment now s)).2 h⟩

theorem takeHoldover_early {now : Nat} {s : State}
    (h : s.pck.holdover = true ∨ max s.pck.moment now < s.pck.lastAdvance + 37500000) :
    takeHoldover now s = noteMoment now s := by
  refine if_neg fun ⟨hoff, hspan⟩ => ?_
  have hpassed := (span_passed Config.watchSpan (by decide) (noteMoment now s)).1 hspan
  obtain h | h := h
  · exact absurd (hoff.symm.trans h) nofun
  · exact absurd hpassed (Nat.not_le.2 h)

theorem takeHoldoverSecond_passed {now : Nat} {s : State} (hon : s.pck.holdover = true)
    (h : s.pck.lastAdvance + 25000000 ≤ max s.pck.moment now) (htop : s.pck.seconds < 4294967295) :
    takeHoldoverSecond now s = { advance (noteMoment now s) with
      pck := { (advance (noteMoment now s)).pck with
        holdCount := countUp (advance (noteMoment now s)).pck.holdCount } } :=
  if_pos ⟨hon, (span_passed Config.oneSecond (by decide) (noteMoment now s)).2 h, htop⟩

theorem takeHoldoverSecond_early {now : Nat} {s : State}
    (h : s.pck.holdover = false ∨ max s.pck.moment now < s.pck.lastAdvance + 25000000) :
    takeHoldoverSecond now s = noteMoment now s := by
  refine if_neg fun ⟨hon, hspan, _⟩ => ?_
  have hpassed := (span_passed Config.oneSecond (by decide) (noteMoment now s)).1 hspan
  obtain h | h := h
  · exact absurd (h.symm.trans hon) nofun
  · exact absurd hpassed (Nat.not_le.2 h)

theorem takeEdge_passed {now : Nat} {s : State} (h : s.pck.lastAdvance + 12500000 ≤ max s.pck.moment now) :
    takeEdge now s = endHoldover (advance (noteMoment now s)) :=
  congrArg endHoldover (if_pos ((span_passed Config.halfSecond (by decide) (noteMoment now s)).2 h))

theorem takeEdge_early {now : Nat} {s : State} (h : max s.pck.moment now < s.pck.lastAdvance + 12500000) :
    takeEdge now s = endHoldover (noteMoment now s) :=
  congrArg endHoldover (if_neg fun hspan =>
    Nat.not_le.2 h ((span_passed Config.halfSecond (by decide) (noteMoment now s)).1 hspan))

/-- Settles O39: each of the three notes the moment, tests the span since the last advance, and where it has passed
makes the advance over the drained part, whose clock is still the one shown. -/
theorem edgesAndHoldover : Obligations.EdgesAndHoldover := by
  refine ⟨fun s h => drain_of_nothingDue h, fun s now hreset htop => ?_⟩
  rw [exec_tpulseEdge, exec_holdoverEntry, exec_holdoverAdvance, live_released hreset, live_released hreset,
    live_released hreset]
  intro m shown
  have hshown : shown = noteMoment now s := rfl
  clear_value shown
  subst hshown
  refine ⟨fun h => ?edge, fun h => ?early, fun hoff h => ?watch, fun h => ?watchEarly, fun hon h hcount => ?second,
    fun h => ?secondEarly⟩
  case edge =>
    obtain ⟨hseconds, hlast, -⟩ := countAdvance_drain_clock (noteMoment now s)
    obtain ⟨heffect, hjoins, hsame⟩ := endHoldover_effect (countAdvance (drain (noteMoment now s)))
    rw [takeEdge_passed h, advance_below (s := noteMoment now s) htop]
    obtain ⟨hkept, hlastKept⟩ := endHoldover_clock (countAdvance (drain (noteMoment now s)))
    exact ⟨_, rfl, hkept.trans hseconds, hlastKept.trans hlast, heffect, hjoins, hsame⟩
  case early =>
    obtain ⟨heffect, hjoins, hsame⟩ := endHoldover_effect (noteMoment now s)
    rw [takeEdge_early h]
    exact ⟨_, rfl, by rw [heffect]; rfl, by rw [heffect]; rfl, hjoins, fun hoff => by rw [hsame hoff]; rfl⟩
  case watch =>
    rw [takeHoldover_passed hoff h, advance_below (s := holdoverBegun (noteMoment now s)) htop]
    obtain ⟨hseconds, hlast, hholdover, hcount⟩ := countAdvance_drain_clock (holdoverBegun (noteMoment now s))
    exact ⟨_, rfl, hseconds, hlast, hholdover, hcount, _, rfl, rfl, holdoverBegun_joins _, fun p hp =>
      emit_told rfl _ _ _ _ hp⟩
  case watchEarly => rw [takeHoldover_early h]
  case second =>
    obtain ⟨hseconds, hlast, hholdover, hcounted⟩ := countAdvance_drain_clock (noteMoment now s)
    have hup : countUp (countAdvance (drain (noteMoment now s))).pck.holdCount =
        (countAdvance (drain (noteMoment now s))).pck.holdCount + 1 := countUp_below (by rw [hcounted]; exact hcount)
    rw [takeHoldoverSecond_passed hon h htop, advance_below (s := noteMoment now s) htop, hup]
    generalize countAdvance (drain (noteMoment now s)) = u at *
    exact ⟨_, rfl, hseconds, hlast, hholdover.trans hon, by rw [hcounted]; rfl, rfl⟩
  case secondEarly => rw [takeHoldoverSecond_early h]

end Sys2Proof.Machine
end

section
/-! PROOFS. SET TIME. -/

namespace Sys2Proof.Machine

/-! ## The clock and the book after SET TIME (R74, R83) -/

theorem exec_setTime (p : Port) (v : BitVec 32) (now : Nat) (s : State) :
    exec (.setTime p v now) s = .next (command p 0x0A (putBE 4 v.toNat) (takeSetTime v now) s) := rfl

/-- Every record of a rebuilt window is EMPTY. -/
theorem rebuildWindow_empty (k : Nat) (x : Sbk) : ∀ y, y ∈ (rebuildWindow k x).slots → y.state = .empty := by
  intro y hy
  simp only [rebuildWindow, List.mem_map] at hy
  obtain ⟨r, -, rfl⟩ := hy
  rfl

theorem setTimeConfig_effect (v : Nat) (s : State) :
    (setTimeConfig v s).pck.seconds = v ∧ (setTimeConfig v s).pck.timeSet = true ∧
      (setTimeConfig v s).pck.lastAdvance = s.pck.moment ∧ (setTimeConfig v s).sbk = rebuildWindow (v / 900) s.sbk ∧
      (setTimeConfig v s).dsu.view.current = v / 900 ∧ (setTimeConfig v s).dsu.view.active = none ∧
      (setTimeConfig v s).pck.holdover = s.pck.holdover :=
  ⟨rfl, rfl, rfl, rfl, rfl, rfl, rfl⟩

theorem setTimeConfig_frame (v : Nat) (s : State) : setTimeConfig v s = { s with
    pck := (setTimeConfig v s).pck, sbk := (setTimeConfig v s).sbk
    dsu := { s.dsu with view := (setTimeConfig v s).dsu.view } } := rfl

/-- A SET TIME in SERVICE or PARKED: the clock alone is moved. -/
def State.movedTo (s : State) (v : Nat) : State := { s with pck := s.pck.moved v s.svc.times.lead }

theorem movedTo_clock (v : Nat) (s : State) :
    (s.movedTo v).pck.seconds = v ∧ (s.movedTo v).pck.lastAdvance = s.pck.moment ∧
      (s.movedTo v).pck.holdover = s.pck.holdover ∧
      ((s.movedTo v).pck.boundaryDue = true ↔ s.pck.seconds / 900 < v / 900) :=
  ⟨rfl, rfl, rfl, decide_eq_true_iff⟩

theorem movedTo_frame (v : Nat) (s : State) : s.movedTo v = { s with pck := (s.movedTo v).pck } := rfl

theorem timeAdmitted_iff (seconds v : Nat) :
    timeAdmitted seconds v = true ↔ v ≤ seconds + 2 ∧ seconds ≤ v + 2 ∧ seconds / 900 ≤ v / 900 := by
  rw [timeAdmitted, Bool.and_eq_true, decide_eq_true_eq, decide_eq_true_eq, intervalOf, intervalOf,
    Config.intervalSeconds, ← and_assoc]
  refine and_congr_left fun _ => ?_
  omega

/-! ## The taking of SET TIME (R74; log 5, 6) -/

theorem takeSetTime_config {v : BitVec 32} {now : Nat} {s : State} (h : s.svc.part = .config) :
    takeSetTime v now s = (setTimeConfig v.toNat (drain (noteMoment now s)), some (.bare .done)) := if_pos h

theorem takeSetTime_moved {v : BitVec 32} {now : Nat} {s : State} (h : s.svc.part ≠ .config)
    (hv : timeAdmitted s.pck.seconds v.toNat = true) :
    takeSetTime v now s = ((drain (noteMoment now s)).movedTo v.toNat, some (.bare .done)) :=
  (if_neg h).trans (if_pos hv)

theorem takeSetTime_refused {v : BitVec 32} {now : Nat} {s : State} (h : s.svc.part ≠ .config)
    (hv : timeAdmitted s.pck.seconds v.toNat ≠ true) :
    takeSetTime v now s = (noteMoment now s, some (.bare .state)) := (if_neg h).trans (if_neg hv)

/-- The part as SET TIME finds it: the command's bytes have left the port, and the moment is noted. -/
def setTimeStart (now : Nat) (s : State) : State := noteMoment now (uncollect .t (addSlots .t 5 s))

theorem setTimeStart_frame (now : Nat) (s : State) : OtherPorts .t s (setTimeStart now s) ∧
    setTimeStart now s = { s with
      spi := (setTimeStart now s).spi, pck := { s.pck with moment := max s.pck.moment now } } :=
  ⟨(uncollect_onlyPort .t 5 s).2, rfl⟩

/-- The part that SET TIME works on, in which the work that earlier advances left due is done. -/
def setTimeBase (now : Nat) (s : State) : State := drain (setTimeStart now s)

theorem setTimeBase_kept (now : Nat) (s : State) :
    (setTimeBase now s).pck.moment = max s.pck.moment now ∧ (setTimeBase now s).pck.seconds = s.pck.seconds ∧
      (setTimeBase now s).pck.holdover = s.pck.holdover ∧ (setTimeBase now s).svc = s.svc ∧
      (setTimeBase now s).pins = s.pins := by
  obtain ⟨hseconds, hmoment, -, hholdover, -⟩ := drain_clock (setTimeStart now s)
  obtain ⟨hpins, hsvc, -⟩ := drain_frame (setTimeStart now s)
  rw [setTimeBase, hseconds, hmoment, hholdover, hpins, hsvc]
  exact ⟨rfl, rfl, rfl, rfl, rfl⟩

/-- With nothing due it is the part before the command but for the port and the moment. -/
theorem setTimeBase_of_nothingDue {now : Nat} {s : State} (h : NothingDue s) :
    OtherPorts .t s (setTimeBase now s) ∧ setTimeBase now s = { s with
      spi := (setTimeBase now s).spi, pck := { s.pck with moment := max s.pck.moment now } } := by
  have hnone : NothingDue (setTimeStart now s) := h.congr rfl rfl rfl rfl rfl rfl rfl
  rw [setTimeBase, drain_of_nothingDue hnone]
  exact setTimeStart_frame now s

/-- Settles O21: SET TIME answers over the drained part, in which the window is rebuilt or the clock moved. -/
theorem setTimeEffect : Obligations.SetTimeEffect := by
  intro s v now h
  obtain ⟨hmoment, hseconds, hholdover, hsvc, hpins⟩ := setTimeBase_kept now s
  have hbase := fun hnone => setTimeBase_of_nothingDue (now := now) (s := s) hnone
  rw [exec_setTime]
  refine ⟨fun hpart => ?config, fun hpart hhigh hlow hinterval => ?moved, fun hpart hrefused => ?refused⟩
  case config =>
    rw [command_answered h rfl (takeSetTime_config hpart)]
    change ∃ t, Host.Outcome.next (placeNow .t _ (setTimeConfig v.toNat (setTimeBase now s))) = _ ∧ _
    generalize setTimeBase now s = u at *
    obtain ⟨htime, hset, hlast, hbook, hcurrent, hactive, hheld⟩ := setTimeConfig_effect v.toNat u
    refine ⟨_, rfl, placeNow_answers .t _ _, htime, hset, hlast.trans hmoment, ?_, ?_, ?_, ?_, hcurrent, hactive, hsvc,
      hpins, hheld.trans hholdover, fun hnone => ?_⟩
    · exact congrArg Sbk.current hbook
    · exact congrArg Sbk.ring hbook
    · exact congrArg Sbk.unscheduled hbook
    · exact fun x hx => rebuildWindow_empty _ _ x hx
    · obtain ⟨hports, hbase⟩ := hbase hnone
      refine ⟨fun q hq => (placeNow_otherPorts .t _ _ q hq).trans (hports q hq), ?_⟩
      rw [setTimeConfig_frame, hbase]
      rfl
  case moved =>
    have hadmitted := (timeAdmitted_iff s.pck.seconds v.toNat).2 ⟨hhigh, hlow, hinterval⟩
    rw [command_answered h rfl (takeSetTime_moved hpart hadmitted)]
    change ∃ t, Host.Outcome.next (placeNow .t _ ((setTimeBase now s).movedTo v.toNat)) = _ ∧ _
    generalize setTimeBase now s = u at *
    obtain ⟨htime, hlast, hheld, hdue⟩ := movedTo_clock v.toNat u
    refine ⟨_, rfl, placeNow_answers .t _ _, htime, hlast.trans hmoment, hheld.trans hholdover, hsvc, hpins,
      hseconds ▸ hdue, fun hnone => ?_⟩
    obtain ⟨hports, hbase⟩ := hbase hnone
    refine ⟨fun q hq => (placeNow_otherPorts .t _ _ q hq).trans (hports q hq), ?_⟩
    rw [movedTo_frame, hbase]
    rfl
  case refused =>
    have hnot : timeAdmitted s.pck.seconds v.toNat ≠ true := by
      rw [Ne, timeAdmitted_iff]
      omega
    rw [command_answered h rfl (takeSetTime_refused hpart hnot)]
    exact ⟨_, rfl, placeNow_answers .t _ _, fun q hq => (placeNow_otherPorts .t _ _ q hq).trans
      ((uncollect_onlyPort .t 5 s).2 q hq), rfl⟩

end Sys2Proof.Machine
end

section
/-! PROOFS. The answers of the Dispatch Unit at a boundary: the view and the slots that they leave aside, and the orders
that are those of the split. -/

namespace Sys2Proof.Machine

/-! ## The view, and every slot but the view's current one (R119, R134) -/

/-- The dispatch view stands, and no slot but the view's current one is touched. -/
structure ViewKept (s t : State) : Prop where
  view : t.dsu.view = s.dsu.view
  slots : s.sbk.slots.length = 96 → t.sbk.slots.length = 96 ∧
    ∀ n, n % 96 ≠ s.dsu.view.current % 96 → t.slot n = s.slot n

theorem stagedSplit_sbk (s : State) : (stagedSplit s).sbk = s.sbk := by simp

namespace ViewKept

theorem of_eq {s t : State} (hv : t.dsu.view = s.dsu.view) (hb : t.sbk = s.sbk) : ViewKept s t :=
  ⟨hv, fun h => ⟨by rw [hb, h], fun n _ => slot_congr hb n⟩⟩

theorem refl (s : State) : ViewKept s s := of_eq rfl rfl

theorem trans {a b c : State} (h : ViewKept a b) (k : ViewKept b c) : ViewKept a c where
  view := k.view.trans h.view
  slots ha := by
    obtain ⟨hb, hslots⟩ := h.slots ha
    obtain ⟨hc, kslots⟩ := k.slots hb
    exact ⟨hc, fun n hn => (kslots n (h.view ▸ hn)).trans (hslots n hn)⟩

theorem foldl {α : Type} {f : State → α → State} (hf : ∀ s x, ViewKept s (f s x)) (l : List α) (s : State) :
    ViewKept s (l.foldl f s) := by
  induction l generalizing s with
  | nil => exact refl s
  | cons x l ih => exact (hf s x).trans (ih (f s x))

theorem modTrain (s : State) (tr : Train) (f : TrainRec → TrainRec) : ViewKept s (s.modTrain tr f) :=
  of_eq (by simp [State.modTrain_dsu]) rfl

theorem emit (kind : EventKind) (cls : EventClass) (subject : Subject) (w1 w2 : Int) (s : State) :
    ViewKept s (emit kind cls subject w1 w2 s) := of_eq (by simp) (by simp)

theorem modCurrent (s : State) (f : Slot → Slot) : ViewKept s (s.modSlot s.dsu.view.current f) where
  view := rfl
  slots h := ⟨by rw [State.modSlot_length, h], fun n hn => by rw [State.modSlot_slot s _ n f h, if_neg hn]⟩

theorem markShort (pl : Plan) (power : Nat) (s : State) : ViewKept s (markShort pl power s) := by
  simp only [Machine.markShort]
  repeat' split
  · exact modCurrent ..
  · exact (modCurrent ..).trans (emit ..)
  · exact (modCurrent ..).trans (emit ..)
  · exact refl s
  · exact refl s

theorem split (s : State) : ViewKept s (split s) :=
  (foldl (f := fun u t => setOrder s.splitPlan t u) (fun u t => modTrain u t _) allTrains s).trans (markShort ..)

theorem commitOrder (before : Dsu) (s : State) (t : Train) : ViewKept s (commitOrder before s t) := by
  simp only [Machine.commitOrder]
  split
  · exact refl s
  · exact (modTrain ..).trans (emit ..)

theorem commitOrders (before : Dsu) (s : State) : ViewKept s (commitOrders before s) :=
  foldl (commitOrder before) allTrains s

theorem runSplit (before : Dsu) (s : State) : ViewKept s (runSplit before s) :=
  ((split s).trans (commitOrders before _)).trans (of_eq (stagedSplit_view _) (stagedSplit_sbk _))

theorem attachTrain (t : Train) (a : Attachment) (s : State) : ViewKept s (attachTrain t a s) :=
  of_eq (by simp [Machine.attachTrain, attachCavern, attachStore, State.modTrain_dsu]) (by simp)

theorem grantQueued (t : Train) (a : Attachment) (s : State) : ViewKept s (grantQueued t a s) := by
  have hqueue : ViewKept s { s with dsu := { s.dsu with queue := s.dsu.queue.filter (fun x => x ≠ t) } } :=
    of_eq rfl rfl
  exact ((hqueue.trans (attachTrain t a _)).trans (emit ..)).trans (runSplit ..)

theorem examineEntry (s : State) (t : Train) : ViewKept s (examineEntry s t) := by
  simp only [Machine.examineEntry]
  repeat' split
  · exact grantQueued ..
  · exact refl s
  · exact refl s

theorem examineQueue (s : State) : ViewKept s (examineQueue s) := foldl examineEntry s.dsu.queue s

theorem lapsePermit (cause : Nat) (s : State) (t : Train) : ViewKept s (lapsePermit cause s t) :=
  of_eq (by simp [Machine.lapsePermit, State.modTrain_dsu]) (by simp)

theorem directionTest (s : State) : ViewKept s (directionTest s) := foldl (lapsePermit 1) _ s

end ViewKept

/-! ## What a split reads (R133, R134) -/

/-- A train is in the set of the split of a net power (R133). -/
def sharesIn (r : TrainRec) (power : Int) (t : Train) : Bool :=
  (t.expands == decide (0 < power)) && r.permit.holdsOrder && !r.order.held && r.able

theorem shareSet_congr {d e : Dsu} {power : Int}
    (hset : power ≠ 0 → ∀ t, sharesIn (e.get t) power t = sharesIn (d.get t) power t)
    (hload : ∀ t, (e.get t).cap = (d.get t).cap ∧ (e.get t).minLoad = (d.get t).minLoad) :
    shareSet e power false = shareSet d power false := by
  have hset_eq (x : Dsu) : shareSet x power false = if power = 0 then [] else
      (allTrains.filter (fun t => sharesIn (x.get t) power t)).map
        (fun t => ⟨t, (x.get t).cap, (x.get t).minLoad⟩) := rfl
  rw [hset_eq, hset_eq]
  by_cases hpower : power = 0
  · rw [if_pos hpower, if_pos hpower]
  · simp only [if_neg hpower, hset hpower, (hload _).1, (hload _).2]

theorem splitPower_congr {s t : State} (hsvc : t.svc = s.svc) (hview : t.dsu.view = s.dsu.view) :
    t.splitPower = s.splitPower := by rw [State.splitPower, hsvc, hview, State.splitPower]

/-- What a split reads of a train, what it writes, and the next order: permit, mark, capability, minimum stable load and
target. -/
def TrainRec.ordered (r : TrainRec) : (Bool × Bool × Nat × Nat) × Nat × Option NextOrder :=
  ((r.permit.holdsOrder, r.order.held, r.cap, r.minLoad), r.order.target, r.nextOrder)

theorem splitPlan_congr {s t : State} (hsvc : t.svc = s.svc) (hview : t.dsu.view = s.dsu.view)
    (h : ∀ tr, (t.train tr).ordered.1 = (s.train tr).ordered.1) : t.splitPlan = s.splitPlan := by
  have hread (tr : Train) : (t.dsu.get tr).permit.holdsOrder = (s.dsu.get tr).permit.holdsOrder ∧
      (t.dsu.get tr).order.held = (s.dsu.get tr).order.held ∧ (t.dsu.get tr).cap = (s.dsu.get tr).cap ∧
      (t.dsu.get tr).minLoad = (s.dsu.get tr).minLoad := by
    have htrain := h tr
    simp only [TrainRec.ordered, Prod.mk.injEq] at htrain
    exact htrain
  rw [State.splitPlan, splitPower_congr hsvc hview, State.splitPlan]
  congr 1
  refine shareSet_congr (fun _ tr => ?_) fun tr => ?_
  · obtain ⟨hpermit, hheld, hcap, hmin⟩ := hread tr
    simp only [sharesIn, TrainRec.able, hpermit, hheld, hcap, hmin]
  · obtain ⟨-, -, hcap, hmin⟩ := hread tr
    exact ⟨hcap, hmin⟩

/-! ## Orders that are those of the split (R133, R135 to R137) -/

/-- No next slot is staged, no train has a next order or a HELD mark, and every target is the split's. -/
structure SplitStands (s : State) : Prop where
  next : s.dsu.view.next = none
  orders : ∀ tr, (s.train tr).nextOrder = none ∧ (s.train tr).order.held = false ∧
    (s.train tr).order.target = s.splitPlan.target tr

theorem split_train (s : State) (tr : Train) : (split s).train tr = { s.train tr with
    order := { (s.train tr).order with target := s.splitPlan.target tr, ramp := (s.train tr).rampLimit } } := by
  have hmark (pl : Plan) (power : Nat) (u : State) : (markShort pl power u).train tr = u.train tr := by
    simp [State.train]
  rw [split, hmark]
  cases tr <;> rfl

theorem emit_train (kind : EventKind) (cls : EventClass) (subject : Subject) (w1 w2 : Int) (s : State) (tr : Train) :
    (emit kind cls subject w1 w2 s).train tr = s.train tr := rfl

/-- A commit writes a train's sequence and its settle check. -/
theorem commitOrder_ordered (before : Dsu) (tr : Train) (s : State) (t : Train) :
    ((commitOrder before s t).train tr).ordered = (s.train tr).ordered := by
  simp only [commitOrder]
  split
  · rfl
  · rw [emit_train, State.modTrain_train]
    split
    case isTrue h => rw [h]; rfl
    case isFalse => rfl

theorem commitOrders_ordered (before : Dsu) (s : State) (tr : Train) :
    ((commitOrders before s).train tr).ordered = (s.train tr).ordered :=
  foldl_keeps (fun u => (State.train u tr).ordered) (commitOrder before) (commitOrder_ordered before tr) allTrains s

/-- With no next slot, no next order and no HELD mark, a split with its commits leaves the orders of the split. -/
theorem splitStands_committed {s : State} (before : Dsu) (hnext : s.dsu.view.next = none)
    (h : ∀ tr, (s.train tr).nextOrder = none ∧ (s.train tr).order.held = false) :
    SplitStands (commitOrders before (split s)) := by
  have hview : (commitOrders before (split s)).dsu.view = s.dsu.view :=
    ((ViewKept.split s).trans (.commitOrders before _)).view
  have hordered (tr : Train) : ((commitOrders before (split s)).train tr).ordered =
      ((s.train tr).ordered.1, s.splitPlan.target tr, (s.train tr).nextOrder) := by
    rw [commitOrders_ordered, split_train]
    rfl
  have hplan : (commitOrders before (split s)).splitPlan = s.splitPlan :=
    splitPlan_congr (by simp) hview fun tr => by rw [hordered]
  refine ⟨hview ▸ hnext, fun tr => ?_⟩
  obtain ⟨hnone, hheld⟩ := h tr
  have htrain := hordered tr
  simp only [TrainRec.ordered, Prod.mk.injEq] at htrain
  obtain ⟨⟨-, kheld, -⟩, ktarget, knone⟩ := htrain
  rw [hplan]
  exact ⟨knone.trans hnone, kheld.trans hheld, ktarget⟩

theorem stagedSplit_of_none {s : State} (h : s.dsu.view.next = none) : stagedSplit s = s := by
  rw [stagedSplit, h]

theorem splitStands_runSplit {s : State} (before : Dsu) (hnext : s.dsu.view.next = none)
    (h : ∀ tr, (s.train tr).nextOrder = none ∧ (s.train tr).order.held = false) : SplitStands (runSplit before s) := by
  have hstands := splitStands_committed before hnext h
  rw [runSplit, stagedSplit_of_none hstands.next]
  exact hstands

theorem attachTrain_train (t tr : Train) (a : Attachment) (s : State) : (attachTrain t a s).train tr =
    if tr = t then { s.train t with
        permit := .granted, prefs := none, attachment := some a
        silence := 0, rungs := 0, timing := .onTime, reference := some s.pck.seconds
        order := { (s.train t).order with target := 0, held := false }
        settlePending := false, settleCount := 0 }
    else s.train tr := by
  simp [attachTrain, attachCavern, attachStore]

namespace SplitStands

theorem grantQueued {s : State} (h : SplitStands s) (t : Train) (a : Attachment) :
    SplitStands (grantQueued t a s) := by
  refine splitStands_runSplit _ ?_ fun tr => ?_
  · have hqueue : ViewKept s { s with dsu := { s.dsu with queue := s.dsu.queue.filter (fun x => x ≠ t) } } :=
      .of_eq rfl rfl
    rw [((hqueue.trans (.attachTrain t a _)).trans (.emit ..)).view]
    exact h.next
  · have hqueue (x : Train) : ({ s with dsu := { s.dsu with queue := s.dsu.queue.filter (fun x => x ≠ t) } } :
        State).train x = s.train x := by cases x <;> rfl
    obtain ⟨hnext, hheld, -⟩ := h.orders tr
    rw [emit_train, attachTrain_train]
    split
    case isTrue hx =>
      rw [hqueue, ← hx]
      exact ⟨hnext, rfl⟩
    case isFalse =>
      rw [hqueue]
      exact ⟨hnext, hheld⟩

theorem examineEntry {s : State} (h : SplitStands s) (t : Train) : SplitStands (examineEntry s t) := by
  simp only [Machine.examineEntry]
  repeat' split
  · exact h.grantQueued ..
  · exact h
  · exact h

theorem examineQueue {s : State} (h : SplitStands s) : SplitStands (examineQueue s) := by
  rw [Machine.examineQueue]
  generalize s.dsu.queue = l
  induction l generalizing s with
  | nil => exact h
  | cons t l ih => exact ih (h.examineEntry t)

/-- A train whose kind the view does not let in carries no share of the split. -/
theorem sharesIn_of_not_admitted {s : State} (hnext : s.dsu.view.next = none) {t : Train}
    (ht : s.dsu.view.admits t = false) (hpower : s.splitPower ≠ 0) (r : TrainRec) :
    sharesIn r s.splitPower t = false := by
  have hactive : s.splitPower = s.dsu.view.active.getD 0 := by
    rw [State.splitPower] at hpower ⊢
    split at hpower
    case isTrue h => exact if_pos h
    case isFalse => exact absurd rfl hpower
  suffices hside : (t.expands == decide (0 < s.splitPower)) = false by rw [sharesIn, hside]; rfl
  rw [hactive] at hpower ⊢
  simp only [View.admits, View.admitsGen, View.admitsChg, hnext, Bool.or_false] at ht
  cases hn : s.dsu.view.active with
  | none => exact absurd (by rw [hn]; rfl) hpower
  | some n =>
    simp only [hn, Option.getD_some] at ht hpower ⊢
    cases hx : t.expands with
    | true =>
      have hnot : ¬ 0 < n := by simpa [hx] using ht
      simp [hnot]
    | false =>
      have hnot : ¬ n < 0 := by simpa [hx] using ht
      simp only [beq_eq_false_iff_ne, ne_eq, Bool.false_eq, decide_eq_false_iff_not, not_not]
      omega

theorem lapsePermit {s : State} (h : SplitStands s) {t : Train} (ht : s.dsu.view.admits t = false) (cause : Nat) :
    SplitStands (lapsePermit cause s t) := by
  have hview := (ViewKept.lapsePermit cause s t).view
  have htrain (tr : Train) : (Machine.lapsePermit cause s t).train tr =
      if tr = t then { s.train t with permit := .off, prefs := none } else s.train tr := by
    rw [Machine.lapsePermit, emit_train, State.modTrain_train]
    cases tr <;> cases t <;> rfl
  have hplan : (Machine.lapsePermit cause s t).splitPlan = s.splitPlan := by
    rw [State.splitPlan, splitPower_congr (by simp) hview, State.splitPlan]
    congr 1
    refine shareSet_congr (fun hpower tr => ?_) fun tr => ?_
    · change sharesIn ((Machine.lapsePermit cause s t).train tr) _ _ = sharesIn (s.train tr) _ _
      rw [htrain]
      split
      case isTrue hx =>
        rw [hx, sharesIn_of_not_admitted h.next ht hpower, sharesIn_of_not_admitted h.next ht hpower]
      case isFalse => rfl
    · change ((Machine.lapsePermit cause s t).train tr).cap = (s.train tr).cap ∧
        ((Machine.lapsePermit cause s t).train tr).minLoad = (s.train tr).minLoad
      rw [htrain]
      split
      case isTrue hx => rw [hx]; exact ⟨rfl, rfl⟩
      case isFalse => exact ⟨rfl, rfl⟩
  refine ⟨hview ▸ h.next, fun tr => ?_⟩
  have horders := h.orders tr
  rw [hplan, htrain]
  split
  case isTrue hx => rw [hx] at horders; rw [hx]; exact horders
  case isFalse => exact horders

theorem directionTest {s : State} (h : SplitStands s) : SplitStands (directionTest s) := by
  have hfold (l : List Train) (u : State) (hu : SplitStands u) (hl : ∀ t ∈ l, u.dsu.view.admits t = false) :
      SplitStands (l.foldl (Machine.lapsePermit 1) u) := by
    induction l generalizing u with
    | nil => exact hu
    | cons t l ih =>
      refine ih _ (hu.lapsePermit (hl t List.mem_cons_self) 1) fun x hx => ?_
      rw [(ViewKept.lapsePermit 1 u t).view]
      exact hl x (List.mem_cons_of_mem _ hx)
  refine hfold _ s h fun t ht => ?_
  simpa using (List.mem_filter.1 ht).2

end SplitStands

end Sys2Proof.Machine
end

section
/-! PROOFS. The boundary in the Cavern Inventory Unit and in the Schedule Book: renewed budgets, the slot that ends and
its settlement record, and the slot that begins. -/

namespace Sys2Proof.Machine

/-! ## Renewed budgets (R38) -/

theorem recomputeBudget_rest (c d : Cavern) (s : State) : ∃ budget kept, (recomputeBudget c s).cavern d =
    { s.cavern d with budget := budget, keptBudget := kept } := by
  have hwrite (exc : Option ExcCode) (f : CavernRec → CavernRec)
      (hf : ∀ r, ∃ budget kept, f r = { r with budget := budget, keptBudget := kept }) :
      ∃ budget kept, (raise exc .rate (.cavern c) (s.modCavern c f)).cavern d =
        { s.cavern d with budget := budget, keptBudget := kept } := by
    rw [raise_cavern, State.modCavern_cavern]
    split
    case isTrue h => rw [h]; exact hf _
    case isFalse => exact ⟨_, _, rfl⟩
  simp only [recomputeBudget]
  repeat' split
  · exact hwrite _ _ fun r => ⟨_, _, rfl⟩
  · exact hwrite _ _ fun r => ⟨_, _, rfl⟩
  · exact ⟨_, _, rfl⟩

theorem evalRateHold_rest (c d : Cavern) (s : State) : ∃ hold, (evalRateHold c s).cavern d =
    { s.cavern d with rateHold := hold } := by
  simp only [evalRateHold]
  split
  · rw [changeCond_cavern]
    split
    case isTrue h => rw [h]; exact ⟨_, rfl⟩
    case isFalse => exact ⟨_, rfl⟩
  · exact ⟨_, rfl⟩

theorem renewBudget_cavern (c d : Cavern) (s : State) : ∃ budget kept hold, (renewBudget c s).cavern d =
    { s.cavern d with
      budget := budget, keptBudget := kept, rateHold := hold, spent := if d = c then 0 else (s.cavern d).spent } := by
  obtain ⟨budget, kept, hbudget⟩ := recomputeBudget_rest c d s
  obtain ⟨hold, hhold⟩ := evalRateHold_rest c d ((recomputeBudget c s).modCavern c fun r => { r with spent := 0 })
  refine ⟨budget, kept, hold, ?_⟩
  rw [renewBudget, hhold, State.modCavern_cavern]
  split
  case isTrue h => rw [← h] at hbudget ⊢; rw [hbudget]
  case isFalse => rw [hbudget]

theorem renewBudget_work (c : Cavern) (s : State) : UnitWork s (renewBudget c s) where
  joins := by
    have hspent : EventsOnlyJoin (recomputeBudget c s) ((recomputeBudget c s).modCavern c fun r =>
        { r with spent := 0 }) := .of_eq rfl
    exact ((Recomputes.recomputeBudget c s).joins.trans hspent).trans (Recomputes.evalRateHold c _).joins
  arith := by
    have hbudget := (Recomputes.recomputeBudget c s).arith
    have harith : (renewBudget c s).arith = (recomputeBudget c s).arith := by simp [renewBudget]
    rw [ArithKept, harith]
    exact hbudget
  frame := by simp [renewBudget]

/-- The own work of the boundary in the Cavern Inventory Unit. -/
def budgetsRenewed (s : State) : State := renewBudget .cv2 (renewBudget .cv1 s)

theorem budgetsRenewed_cavern (s : State) (d : Cavern) : ∃ budget kept hold, (budgetsRenewed s).cavern d =
    { s.cavern d with budget := budget, keptBudget := kept, rateHold := hold, spent := 0 } := by
  obtain ⟨_, _, _, hfirst⟩ := renewBudget_cavern .cv1 d s
  obtain ⟨budget, kept, hold, hsecond⟩ := renewBudget_cavern .cv2 d (renewBudget .cv1 s)
  refine ⟨budget, kept, hold, ?_⟩
  rw [budgetsRenewed, hsecond, hfirst]
  cases d <;> rfl

theorem budgetsRenewed_work (s : State) : UnitWork s (budgetsRenewed s) :=
  (renewBudget_work .cv1 s).trans (renewBudget_work .cv2 _)

theorem budgetsRenewed_pen (s : State) : (budgetsRenewed s).pen = s.pen := by simp [budgetsRenewed]

/-- The boundary changed a rate budget. -/
abbrev BudgetChanged (s t : State) : Prop :=
  (t.cavern .cv1).budget ≠ (s.cavern .cv1).budget ∨ (t.cavern .cv2).budget ≠ (s.cavern .cv2).budget

theorem StoreRec.moved_self (r : StoreRec) : r.moved r = false := by simp [StoreRec.moved]

/-- A renewal is an inventory change exactly where a budget changed (R45). -/
theorem budgetsRenewed_moved (s : State) : moved s (budgetsRenewed s) = true ↔ BudgetChanged s (budgetsRenewed s) := by
  have hstore (st : Store) : (budgetsRenewed s).store st = s.store st := by simp [budgetsRenewed, State.store]
  have hcavern (c : Cavern) : (s.cavern c).moved ((budgetsRenewed s).cavern c) = true ↔
      ((budgetsRenewed s).cavern c).budget ≠ (s.cavern c).budget := by
    obtain ⟨budget, kept, hold, h⟩ := budgetsRenewed_cavern s c
    rw [h]
    simp [CavernRec.moved, CavernRec.bounds, ne_comm]
  simp only [moved, allStores, allCaverns, List.any_cons, List.any_nil, hstore, StoreRec.moved_self, Bool.or_false,
    Bool.or_eq_true, hcavern, BudgetChanged]

theorem boundaryCaverns_eq (s : State) : boundaryCaverns s = handOn s true false (budgetsRenewed s) := rfl

theorem boundaryCaverns_kept (s : State) : DispatchKept (budgetsRenewed s) (boundaryCaverns s) := handOn_kept ..

theorem boundaryCaverns_event (s : State) : PlantEvent s (boundaryCaverns s) := (budgetsRenewed_work s).handedOn ..

theorem boundaryCaverns_cavern (s : State) (c : Cavern) :
    ((boundaryCaverns s).cavern c).mass = (s.cavern c).mass ∧ ((boundaryCaverns s).cavern c).spent = 0 ∧
      ((boundaryCaverns s).cavern c).budget = ((budgetsRenewed s).cavern c).budget := by
  have hkept := (boundaryCaverns_kept s).caverns c
  obtain ⟨budget, kept, hold, h⟩ := budgetsRenewed_cavern s c
  rw [CavernKept] at hkept
  rw [hkept, h]
  exact ⟨rfl, rfl, rfl⟩

theorem boundaryCaverns_pen (s : State) : (boundaryCaverns s).pen = { s.pen with
    generation := (boundaryCaverns s).pen.generation, genHold := (boundaryCaverns s).pen.genHold
    chgHold := (boundaryCaverns s).pen.chgHold } := by
  have hpen := handOn_pen s true false (budgetsRenewed s)
  rw [budgetsRenewed_pen] at hpen
  exact hpen

/-- One where an event counts in the generation number, and 0 where it does not (log 20). -/
abbrev oneIf (b : Prop) [Decidable b] : BitVec 32 := if b then 1 else 0

theorem add_oneIf_pos {b : Prop} [Decidable b] (h : b) (x : BitVec 32) : x + oneIf b = x + 1 := by rw [oneIf, if_pos h]

theorem add_oneIf_neg {b : Prop} [Decidable b] (h : ¬ b) (x : BitVec 32) : x + oneIf b = x := by simp [oneIf, h]

theorem inventoryChangeIf_generation (changed : Bool) (s : State) :
    (inventoryChangeIf changed s).pen.generation = s.pen.generation + oneIf (changed = true) := by
  cases changed with
  | false => exact (BitVec.add_zero _).symm
  | true => simp [inventoryChangeIf, inventoryChange, evalHold_pen, bumpGeneration_pen]

theorem boundaryCaverns_generation (s : State) [Decidable (BudgetChanged s (boundaryCaverns s))] :
    (boundaryCaverns s).pen.generation = s.pen.generation + oneIf (BudgetChanged s (boundaryCaverns s)) := by
  have hchanged : moved s (budgetsRenewed s) = true ↔ BudgetChanged s (boundaryCaverns s) := by
    rw [budgetsRenewed_moved, BudgetChanged, BudgetChanged, (boundaryCaverns_cavern s .cv1).2.2,
      (boundaryCaverns_cavern s .cv2).2.2]
  have hmoved : (boundaryCaverns s).pen.generation = s.pen.generation + oneIf (moved s (budgetsRenewed s) = true) := by
    rw [boundaryCaverns_eq, handOn, inventoryChangeIf_generation, Bool.false_or]
    simp [budgetsRenewed_pen]
  rw [hmoved]
  exact congrArg (s.pen.generation + ·) (if_congr hchanged rfl rfl)

/-! ## The slot that ends (R81, R86 to R88) -/

/-- The book keeps its records' number and its current interval, and every slot but the current one; of that one it
keeps state and sequence. -/
structure ClosingKept (s t : State) : Prop where
  joins : EventsOnlyJoin s t
  pen : t.pen = s.pen
  current : t.sbk.current = s.sbk.current
  state : (t.slot s.sbk.current).state = (s.slot s.sbk.current).state
  seq : (t.slot s.sbk.current).seq = (s.slot s.sbk.current).seq
  slots : s.sbk.slots.length = 96 → t.sbk.slots.length = 96 ∧
    ∀ n, n % 96 ≠ s.sbk.current % 96 → t.slot n = s.slot n

theorem ClosingKept.of_eq {s t : State} (hj : EventsOnlyJoin s t) (hp : t.pen = s.pen)
    (hc : t.sbk.current = s.sbk.current) (hs : t.sbk.slots = s.sbk.slots) : ClosingKept s t := by
  have hslot (n : Nat) : t.slot n = s.slot n := by simp only [State.slot, hs]
  exact ⟨hj, hp, hc, by rw [hslot], by rw [hslot], fun h => ⟨by rw [hs, h], fun n _ => hslot n⟩⟩

theorem ClosingKept.trans {a b c : State} (h : ClosingKept a b) (k : ClosingKept b c) : ClosingKept a c where
  joins := h.joins.trans k.joins
  pen := k.pen.trans h.pen
  current := k.current.trans h.current
  state := by rw [← h.state, ← h.current]; exact k.state
  seq := by rw [← h.seq, ← h.current]; exact k.seq
  slots ha := by
    obtain ⟨hb, hslots⟩ := h.slots ha
    obtain ⟨hc, kslots⟩ := k.slots hb
    exact ⟨hc, fun n hn => (kslots n (h.current ▸ hn)).trans (hslots n hn)⟩

/-- A slot read after a change of the same one, in a book of any length. -/
theorem modSlot_slot_self (s : State) (n : Nat) (f : Slot → Slot) :
    (s.modSlot n f).slot n = f (s.slot n) ∨ (s.modSlot n f).slot n = s.slot n := by
  simp only [State.modSlot, State.slot, List.getD_eq_getElem?_getD, List.getElem?_set]
  by_cases h : n % Config.slotCount < s.sbk.slots.length <;> simp [h]

/-- Intervals that fall on the same index name the same record. -/
theorem slot_of_mod_eq {s : State} (h : s.sbk.slots.length = 96) {n m : Nat} (hmod : n % 96 = m % 96) :
    s.slot n = s.slot m := by
  have hlt : m % 96 < s.sbk.slots.length := by omega
  simp [State.slot, Config.slotCount, hmod, hlt]

theorem ClosingKept.modCurrent (s : State) {f : Slot → Slot} (hstate : ∀ x, (f x).state = x.state)
    (hseq : ∀ x, (f x).seq = x.seq) : ClosingKept s (s.modSlot s.sbk.current f) where
  joins := .of_eq rfl
  pen := rfl
  current := rfl
  state := by rcases modSlot_slot_self s s.sbk.current f with h | h <;> rw [h]; exact hstate _
  seq := by rcases modSlot_slot_self s s.sbk.current f with h | h <;> rw [h]; exact hseq _
  slots h := ⟨by rw [State.modSlot_length, h], fun n hn => by rw [State.modSlot_slot s _ n f h, if_neg hn]⟩

theorem ClosingKept.raise (exc : Option ExcCode) (source : ExcSource) (subject : Subject) (s : State) :
    ClosingKept s (raise exc source subject s) :=
  .of_eq (raise_joins _ _ _ _) (by simp) (by simp) (by simp)

theorem ClosingKept.emit (kind : EventKind) (cls : EventClass) (subject : Subject) (w1 w2 : Int) (s : State) :
    ClosingKept s (emit kind cls subject w1 w2 s) :=
  .of_eq (emit_joins _ _ _ _ _ _) (by simp) (by simp) (by simp)

theorem closeIntegration_kept (second : Nat) (s : State) : ClosingKept s (closeIntegration second s) := by
  simp only [closeIntegration]
  split
  · refine .trans (.modCurrent s (f := fun r => { r with activity := _ }) ?_ ?_) (.raise ..)
    · exact fun _ => rfl
    · exact fun _ => rfl
  · exact .of_eq (.of_eq rfl) rfl rfl rfl

/-- Only an ACTIVE slot with its activity has an integration to close. -/
theorem closeIntegration_inactive {second : Nat} {s : State} (h : (s.slot s.sbk.current).state ≠ .active) :
    closeIntegration second s = s := by
  simp only [closeIntegration]
  split
  case h_1 hstate _ => exact absurd hstate h
  case h_2 => rfl

theorem closeIntegration_active {second : Nat} {s : State} {v : Activity} (hlength : s.sbk.slots.length = 96)
    (hstate : (s.slot s.sbk.current).state = .active) (hv : (s.slot s.sbk.current).activity = some v) :
    (closeIntegration second s).slot s.sbk.current = { s.slot s.sbk.current with activity := some { v with
      energy := (saturateEnergy (v.energy + reserveEnergy v.reserve (second - v.mark))).val, mark := second } } := by
  have hraise (exc : Option ExcCode) (source : ExcSource) (subject : Subject) (u : State) (n : Nat) :
      (raise exc source subject u).slot n = u.slot n := slot_congr (by simp) n
  simp only [closeIntegration, hstate, hv, hraise]
  rw [State.modSlot_slot s _ _ _ hlength, if_pos rfl, ← hstate]

/-- The part in which the integration of the slot that ends is closed at the boundary second. -/
def integrationClosed (s : State) : State := closeIntegration ((s.sbk.current + 1) * 900) s

/-- The settlement record of the slot that ends, before the ring takes it (R87). -/
def endingRecord (s : State) : Settlement × Option ExcCode :=
  settlementOf ((integrationClosed s).slot s.sbk.current) (integrationClosed s).sbk.unscheduled

theorem integrationClosed_book (s : State) : (integrationClosed s).sbk.unscheduled = s.sbk.unscheduled ∧
    (integrationClosed s).sbk.ring = s.sbk.ring := by
  simp only [integrationClosed, closeIntegration]
  split <;> simp [State.modSlot]

/-- The part with the settlement record of the slot that ends in the ring. -/
def recordRung (s : State) : State := { integrationClosed s with
  sbk := { (integrationClosed s).sbk with ring := ringWith (integrationClosed s).sbk.ring (endingRecord s).1 } }

theorem recordRung_kept (s : State) : ClosingKept s (recordRung s) :=
  .trans (b := integrationClosed s) (closeIntegration_kept _ s) (.of_eq (.of_eq rfl) rfl rfl rfl)

/-- The saturation of its deviation raised, and SLOT SETTLED queued. -/
def slotSettled (s : State) : State :=
  emit .slotSettled .info (.slot s.sbk.current) (endingRecord s).1.deviation (endingRecord s).1.delivered
    (raise (endingRecord s).2 .report (.slot s.sbk.current) (recordRung s))

theorem slotSettled_kept (s : State) : ClosingKept s (slotSettled s) :=
  ((recordRung_kept s).trans (.raise ..)).trans (.emit ..)

theorem slotSettled_ring (s : State) : (slotSettled s).sbk.ring = ringWith s.sbk.ring (endingRecord s).1 := by
  rw [← (integrationClosed_book s).2]
  simp [slotSettled, recordRung]

/-- The slot that ends, settled outside CONFIG (R81, R83). -/
def slotEnded (s : State) : State := if s.svc.part = .config then s else slotSettled s

theorem slotEnded_kept (s : State) : ClosingKept s (slotEnded s) := by
  rw [slotEnded]
  split
  exacts [.of_eq (.of_eq rfl) rfl rfl rfl, slotSettled_kept s]

/-- The storage of the slot that ends becomes that of the interval a window later, and the next interval current. -/
def storageReused (k : Nat) (s : State) : State :=
  let t := s.modSlot k (fun x => x.reinitialised (k + 96))
  { t with sbk := { t.sbk with current := k + 1, unscheduled := 0 } }

theorem closeSlot_eq (s : State) : closeSlot s = storageReused s.sbk.current
    (if ((slotEnded s).slot s.sbk.current).state = .empty then slotEnded s else bumpGeneration (slotEnded s)) := rfl

theorem closeSlot_joins (s : State) : EventsOnlyJoin s (closeSlot s) := by
  refine (slotEnded_kept s).joins.trans ?_
  rw [closeSlot_eq]
  split <;> exact .of_eq rfl

theorem closeSlot_pen (s : State) : (closeSlot s).pen = { s.pen with
    generation := s.pen.generation + oneIf ((s.slot s.sbk.current).state ≠ .empty) } := by
  have hkept := slotEnded_kept s
  have hpen (u : State) : (storageReused s.sbk.current u).pen = u.pen := rfl
  rw [closeSlot_eq, hpen, hkept.state]
  by_cases h : (s.slot s.sbk.current).state = .empty
  · rw [if_pos h, hkept.pen, add_oneIf_neg (not_not.2 h)]
  · rw [if_neg h, bumpGeneration_pen, hkept.pen, add_oneIf_pos h]

theorem closeSlot_book (s : State) : (closeSlot s).sbk.current = s.sbk.current + 1 ∧
    (closeSlot s).sbk.unscheduled = 0 ∧ (closeSlot s).sbk.ring = (slotEnded s).sbk.ring := by
  rw [closeSlot_eq]
  split <;> exact ⟨rfl, rfl, rfl⟩

theorem closeSlot_slot {s : State} (hlength : s.sbk.slots.length = 96) : (closeSlot s).sbk.slots.length = 96 ∧
    ∀ n, (closeSlot s).slot n = if n % 96 = s.sbk.current % 96 then
      Slot.blank (s.sbk.current + 96) ((s.slot s.sbk.current).seq + 1) else s.slot n := by
  have hkept := slotEnded_kept s
  obtain ⟨hended, hslots⟩ := hkept.slots hlength
  have hreused (u : State) (hu : u.sbk = (slotEnded s).sbk) :
      (storageReused s.sbk.current u).sbk.slots.length = 96 ∧ ∀ n, (storageReused s.sbk.current u).slot n =
        if n % 96 = s.sbk.current % 96 then
          Slot.blank (s.sbk.current + 96) ((s.slot s.sbk.current).seq + 1) else s.slot n := by
    have hu96 : u.sbk.slots.length = 96 := by rw [hu, hended]
    have hslot (n : Nat) : (storageReused s.sbk.current u).slot n =
        (u.modSlot s.sbk.current fun x => x.reinitialised (s.sbk.current + 96)).slot n := rfl
    have hrecords : (storageReused s.sbk.current u).sbk.slots.length = u.sbk.slots.length :=
      State.modSlot_length u s.sbk.current fun x => x.reinitialised (s.sbk.current + 96)
    refine ⟨hrecords.trans hu96, fun n => ?_⟩
    rw [hslot, State.modSlot_slot _ _ _ _ hu96, slot_congr hu, slot_congr hu, Slot.reinitialised, hkept.seq]
    split
    case isTrue => rfl
    case isFalse hn => exact hslots n hn
  rw [closeSlot_eq]
  split <;> exact hreused _ rfl

/-- The ring that a boundary leaves: as it was in CONFIG, and otherwise with the record of the slot that ends. -/
theorem closeSlot_ring (s : State) : (closeSlot s).sbk.ring =
    if s.svc.part = .config then s.sbk.ring else ringWith s.sbk.ring (endingRecord s).1 := by
  rw [(closeSlot_book s).2.2, slotEnded]
  split
  exacts [rfl, slotSettled_ring s]

/-! ## The settlement record (R87, R88) -/

theorem ringWith_eq (ring : List Settlement) {r : Settlement} (hr : r.overrun = false) :
    ringWith ring r = (if ring.length < 32 then ring else ring.drop 1) ++
      [{ r with overrun := decide (32 ≤ ring.length) }] := by
  rw [ringWith, Config.ringTop]
  by_cases h : ring.length < 32
  · rw [if_pos h, if_pos h, decide_eq_false (by omega), ← hr]
  · rw [if_neg h, if_neg h, decide_eq_true (by omega)]

theorem settlementOf_overrun (x : Slot) (d : Int) : (settlementOf x d).1.overrun = false := by
  rw [settlementOf]
  split <;> rfl

theorem endingRecord_active {s : State} {v : Activity} (hlength : s.sbk.slots.length = 96)
    (hstate : (s.slot s.sbk.current).state = .active) (hv : (s.slot s.sbk.current).activity = some v) :
    let x := s.slot s.sbk.current
    let e := (saturateEnergy (v.energy + reserveEnergy v.reserve ((s.sbk.current + 1) * 900 - v.mark))).val
    (endingRecord s).1 = ⟨x.interval, x.ref, x.power, ⟨x.up, x.down⟩, x.power * 250, e, v.delivered,
      (saturateEnergy (v.delivered - x.power * 250 - e)).val, false, false, x.atRiskSeen, x.shortSeen, false,
      x.seq⟩ := by
  rw [endingRecord, integrationClosed, closeIntegration_active hlength hstate hv]
  simp only [settlementOf, hstate]
  rfl

theorem integrationClosed_inactive {s : State} (h : (s.slot s.sbk.current).state ≠ .active) :
    integrationClosed s = s := closeIntegration_inactive h

theorem endingRecord_voided {s : State} (hstate : (s.slot s.sbk.current).state = .voided) :
    let x := s.slot s.sbk.current
    (endingRecord s).1 = ⟨x.interval, x.ref, x.power, ⟨x.up, x.down⟩, 0, 0, s.sbk.unscheduled, s.sbk.unscheduled,
      false, true, x.atRiskSeen, x.shortSeen, false, x.seq⟩ := by
  rw [endingRecord, integrationClosed_inactive (by rw [hstate]; nofun)]
  simp only [settlementOf, hstate]

theorem endingRecord_none {s : State} (hactive : (s.slot s.sbk.current).state ≠ .active)
    (hvoided : (s.slot s.sbk.current).state ≠ .voided) :
    let x := s.slot s.sbk.current
    (endingRecord s).1 = ⟨x.interval, 0, 0, ⟨0, 0⟩, 0, 0, s.sbk.unscheduled, s.sbk.unscheduled, true, false, false,
      false, false, x.seq⟩ := by
  rw [endingRecord, integrationClosed_inactive hactive, settlementOf]
  split
  case h_1 h _ => exact absurd h hactive
  case h_2 h => exact absurd h hvoided
  case h_3 => rfl

/-! ## The slot that begins (R82) -/

/-- The slot record of an interval that begins: COMMITTED becomes ACTIVE, OFFERED lapses. -/
def Slot.begun (x : Slot) (k : Nat) : Slot :=
  match x.state with
  | .committed => { x with state := .active, seq := x.seq + 1, activity := some ⟨0, 0, 0, k * 900⟩ }
  | .offered => x.emptied
  | _ => x

/-- What the opening of a slot leaves. -/
structure Opened (s t : State) : Prop where
  joins : EventsOnlyJoin s t
  book : t.sbk = { s.sbk with slots := t.sbk.slots }
  pen : t.pen = { s.pen with generation := (s.pen.generation +
    oneIf ((s.slot s.sbk.current).state = .committed ∨ (s.slot s.sbk.current).state = .offered)) }
  slots : s.sbk.slots.length = 96 → t.sbk.slots.length = 96 ∧ ∀ n, t.slot n =
    if n % 96 = s.sbk.current % 96 then (s.slot s.sbk.current).begun s.sbk.current else s.slot n

theorem Opened.changed {s : State} {f : Slot → Slot}
    (hcounts : (s.slot s.sbk.current).state = .committed ∨ (s.slot s.sbk.current).state = .offered)
    (hf : f (s.slot s.sbk.current) = (s.slot s.sbk.current).begun s.sbk.current) (kind : EventKind) (cls : EventClass)
    (subject : Subject) (w1 w2 : Int) :
    Opened s (emit kind cls subject w1 w2 (bumpGeneration (s.modSlot s.sbk.current f))) where
  joins := .trans (b := bumpGeneration (s.modSlot s.sbk.current f)) (.of_eq rfl) (emit_joins _ _ _ _ _ _)
  book := rfl
  pen := by rw [add_oneIf_pos hcounts]; rfl
  slots h := ⟨(State.modSlot_length ..).trans h, fun n => by
    refine (State.modSlot_slot s s.sbk.current n f h).trans ?_
    rw [hf]⟩

theorem openSlot_opened (s : State) : Opened s (openSlot s) := by
  simp only [openSlot]
  split
  case h_1 h => exact .changed (.inl h) (by rw [Slot.begun, h]; rfl) ..
  case h_2 h => exact .changed (.inr h) (by rw [Slot.begun, h]) ..
  case h_3 hcommitted hoffered =>
    have hnot : ¬ ((s.slot s.sbk.current).state = .committed ∨ (s.slot s.sbk.current).state = .offered) :=
      not_or.2 ⟨hcommitted, hoffered⟩
    have hbegun : (s.slot s.sbk.current).begun s.sbk.current = s.slot s.sbk.current := by
      rw [Slot.begun]
      split
      case h_1 h => exact absurd h hcommitted
      case h_2 h => exact absurd h hoffered
      case h_3 => rfl
    refine ⟨.of_eq rfl, rfl, by rw [add_oneIf_neg hnot], fun h => ⟨h, fun n => ?_⟩⟩
    split
    case isTrue hn => rw [hbegun, slot_of_mod_eq h hn]
    case isFalse => rfl

end Sys2Proof.Machine
end

section
/-! PROOFS. The hand-over and the end of a boundary, and the staging-lead event and the boundary as a whole. -/

namespace Sys2Proof.Machine

/-! ## The hand-over (R82, R119, R137) -/

/-- The dispatch view of a boundary: the slot that begins, active where it is ACTIVE, and no next slot. -/
def viewBegun (s : State) : View :=
  ⟨s.sbk.current, if (s.slot s.sbk.current).state = .active then some (s.slot s.sbk.current).power else none, none⟩

/-- The part in which the view has moved and every train is handed over, before the split. -/
def handed (s : State) : State :=
  allTrains.foldl (fun u t => u.modTrain t TrainRec.handedOver) { s with dsu := { s.dsu with view := viewBegun s } }

theorem handOver_eq (s : State) : handOver s = if (viewBegun s).active.isSome then
    examineQueue (commitOrders s.dsu (split (handed s))) else commitOrders s.dsu (split (handed s)) := rfl

theorem handed_frame (s : State) : (handed s).evr = s.evr ∧ (handed s).sbk = s.sbk ∧ (handed s).ciu = s.ciu ∧
    (handed s).hsu = s.hsu ∧ (handed s).pen = s.pen ∧ (handed s).spi = s.spi ∧ (handed s).svc = s.svc := by
  simp [handed, allTrains]

theorem handed_train (s : State) (tr : Train) : (handed s).train tr = (s.train tr).handedOver := by cases tr <;> rfl

theorem handedOver_cleared (r : TrainRec) : r.handedOver.nextOrder = none ∧ r.handedOver.order.held = false ∧
    r.handedOver.totalAir = 0 ∧ r.handedOver.totalHeat = 0 ∧ r.handedOver.totalEnergy = 0 := by
  refine ⟨rfl, ?_, rfl, rfl, rfl⟩
  rw [TrainRec.handedOver]
  split <;> rfl

theorem DispatchKept.commitOrders (before : Dsu) (s : State) : DispatchKept s (commitOrders before s) :=
  .foldl (DispatchKept.commitOrder before) allTrains s

theorem handOver_rest (s : State) : (handOver s).pen = s.pen ∧ (handOver s).spi = s.spi ∧ (handOver s).svc = s.svc := by
  simp

theorem handOver_kept (s : State) : DispatchKept (handed s) (handOver s) := by
  have hsplit : DispatchKept (handed s) (commitOrders s.dsu (split (handed s))) :=
    (DispatchKept.split _).trans (.commitOrders ..)
  rw [handOver_eq]
  split
  exacts [hsplit.trans (.examineIf true _), hsplit]

theorem handOver_view (s : State) : ViewKept (handed s) (handOver s) := by
  have hsplit : ViewKept (handed s) (commitOrders s.dsu (split (handed s))) :=
    (ViewKept.split _).trans (.commitOrders ..)
  rw [handOver_eq]
  split
  exacts [hsplit.trans (.examineQueue _), hsplit]

theorem handOver_stands (s : State) : SplitStands (handOver s) := by
  have hsplit : SplitStands (commitOrders s.dsu (split (handed s))) := by
    refine splitStands_committed s.dsu rfl fun tr => ?_
    obtain ⟨hnext, hheld, -⟩ := handedOver_cleared (s.train tr)
    rw [handed_train]
    exact ⟨hnext, hheld⟩
  rw [handOver_eq]
  split
  exacts [hsplit.examineQueue, hsplit]

/-! ## Walks, the recheck request and the direction test (R92, R110, R125) -/

/-- The engine keeps its waiting walk, its flight, its recheck flag and the last limit code. -/
def WalkKept (s t : State) : Prop := t.pen = { s.pen with
  generation := t.pen.generation, genHold := t.pen.genHold, chgHold := t.pen.chgHold }

theorem WalkKept.of_eq {s t : State} (h : t.pen = s.pen) : WalkKept s t := by rw [WalkKept, h]

theorem WalkKept.trans {a b c : State} (h : WalkKept a b) (k : WalkKept b c) : WalkKept a c := by
  rw [WalkKept] at *
  rw [k, h]

theorem WalkKept.flight {s t : State} (h : WalkKept s t) : t.pen.flight = s.pen.flight := by rw [h]

theorem WalkKept.request {s t : State} (h : WalkKept s t) : t.pen.request = s.pen.request := by
  rw [h, Pen.request, Pen.request]

theorem takeUp_rest (x : Pen) : x.takeUp.generation = x.generation ∧ (x.waiting = none →
    x.takeUp.waiting = none ∧ (x.takeUp.flight.bind Flight.request) = (x.flight.bind Flight.request)) := by
  rcases x with ⟨flag, waiting, flight, generation, genHold, chgHold, limit⟩
  cases flight with
  | some f => exact ⟨rfl, fun h => ⟨h, rfl⟩⟩
  | none =>
    cases flag with
    | true => exact ⟨rfl, fun h => ⟨h, rfl⟩⟩
    | false =>
      cases waiting with
      | some r => exact ⟨rfl, nofun⟩
      | none => exact ⟨rfl, fun _ => ⟨rfl, rfl⟩⟩

theorem dropWalk_pen (s : State) : (dropWalk s).pen.generation = s.pen.generation ∧ (dropWalk s).pen.waiting = none ∧
    ((dropWalk s).pen.flight.bind Flight.request) = none := by
  obtain ⟨hgeneration, hrest⟩ := takeUp_rest { s.pen with
    waiting := none
    flight := if (s.pen.flight.bind Flight.request).isSome then none else s.pen.flight }
  obtain ⟨hwaiting, hflight⟩ := hrest rfl
  refine ⟨hgeneration, hwaiting, hflight.trans ?_⟩
  dsimp only
  split
  case isTrue => rfl
  case isFalse h => simpa using h

theorem posted_rest (x : Pen) : x.posted.generation = x.generation ∧ (x.waiting = none →
    x.posted.waiting = none ∧ (x.posted.flight.bind Flight.request) = (x.flight.bind Flight.request)) :=
  takeUp_rest { x with recheckFlag := true }

theorem postRecheck_rest (s : State) : (postRecheck s).pen.generation = s.pen.generation ∧ (s.pen.waiting = none →
    (postRecheck s).pen.waiting = none ∧
      ((postRecheck s).pen.flight.bind Flight.request) = (s.pen.flight.bind Flight.request)) := by
  rw [postRecheck_pen]
  split
  exacts [⟨rfl, fun h => ⟨h, rfl⟩⟩, posted_rest s.pen]

/-- The walk of the T-port is for the interval that has become current. -/
theorem lapseWalk_lapsed {s : State} {r : Request} (h : s.pen.request = some r) (hr : r.interval = s.sbk.current) :
    lapseWalk s = endWalk (.bare .lapsed) s := by
  rw [lapseWalk, h]
  exact if_pos hr

theorem lapseWalk_none {s : State} (h : s.pen.request = none) : lapseWalk s = s := by rw [lapseWalk, h]

theorem lapseWalk_generation (s : State) : (lapseWalk s).pen.generation = s.pen.generation := by
  simp only [lapseWalk]
  repeat' split
  exacts [(dropWalk_pen s).1, rfl, rfl]

theorem lapseWalk_otherPorts (s : State) : OtherPorts .t s (lapseWalk s) := by
  have hend (a : Answer) : OtherPorts .t s (endWalk a s) := fun q hq =>
    (State.modPort_port (dropWalk s) .t q _).trans (if_neg hq)
  simp only [lapseWalk]
  repeat' split
  exacts [hend _, fun _ _ => rfl, fun _ _ => rfl]

theorem endWalk_answers (a : Answer) (s : State) : Answers .t a (endWalk a s) := by
  simp [Answers, endWalk, placeLater]

/-- The end of a boundary: the generation number, a walk that lapses, the recheck request, and the direction test. -/
def boundaryEnd (s : State) : State := directionTest (postRecheck (lapseWalk (bumpGeneration s)))

theorem DispatchKept.lapsePermit (cause : Nat) (s : State) (t : Train) : DispatchKept s (lapsePermit cause s t) := by
  have hqueue : DispatchKept s { s with dsu := { s.dsu with queue := s.dsu.queue.filter (fun x => x ≠ t) } } :=
    .of_eq (.of_eq rfl) rfl (fun tr => by cases tr <;> rfl) rfl rfl
  exact (hqueue.trans (.modTrain (by simp [TrainKept]))).trans (.emit ..)

theorem DispatchKept.directionTest (s : State) : DispatchKept s (directionTest s) :=
  .foldl (DispatchKept.lapsePermit 1) _ s

/-- Between the hand-over and the direction test the engine and the T-port alone are touched. -/
theorem boundaryEnd_start (s : State) : (postRecheck (lapseWalk (bumpGeneration s))).dsu = s.dsu ∧
    (postRecheck (lapseWalk (bumpGeneration s))).svc = s.svc ∧
    (postRecheck (lapseWalk (bumpGeneration s))).sbk = s.sbk ∧
    (postRecheck (lapseWalk (bumpGeneration s))).evr = s.evr ∧
    (postRecheck (lapseWalk (bumpGeneration s))).ciu = s.ciu ∧
    (postRecheck (lapseWalk (bumpGeneration s))).hsu = s.hsu := by
  simp [bumpGeneration]

theorem boundaryEnd_kept (s : State) : DispatchKept s (boundaryEnd s) := by
  obtain ⟨hdsu, -, hsbk, hevr, hciu, hhsu⟩ := boundaryEnd_start s
  exact (DispatchKept.of_eq (.of_eq hevr) hsbk (fun tr => by rw [State.train, hdsu]; rfl) hciu hhsu).trans
    (.directionTest _)

theorem boundaryEnd_view (s : State) : ViewKept s (boundaryEnd s) := by
  obtain ⟨hdsu, -, hsbk, -⟩ := boundaryEnd_start s
  exact (ViewKept.of_eq (by rw [hdsu]) hsbk).trans (.directionTest _)

theorem SplitStands.congr {s t : State} (h : SplitStands s) (hdsu : t.dsu = s.dsu) (hsvc : t.svc = s.svc) :
    SplitStands t := by
  have htrain (tr : Train) : t.train tr = s.train tr := by rw [State.train, hdsu]; rfl
  have hplan : t.splitPlan = s.splitPlan :=
    splitPlan_congr hsvc (by rw [hdsu]) fun tr => by rw [htrain]
  refine ⟨by rw [hdsu]; exact h.next, fun tr => ?_⟩
  rw [htrain, hplan]
  exact h.orders tr

theorem boundaryEnd_stands {s : State} (h : SplitStands s) : SplitStands (boundaryEnd s) := by
  obtain ⟨hdsu, hsvc, -⟩ := boundaryEnd_start s
  exact (h.congr hdsu hsvc).directionTest

theorem boundaryEnd_pen (s : State) : (boundaryEnd s).pen = (postRecheck (lapseWalk (bumpGeneration s))).pen ∧
    (boundaryEnd s).spi = (lapseWalk (bumpGeneration s)).spi := by
  simp [boundaryEnd]

theorem boundaryEnd_generation (s : State) : (boundaryEnd s).pen.generation = s.pen.generation + 1 := by
  rw [(boundaryEnd_pen s).1, (postRecheck_rest _).1, lapseWalk_generation, bumpGeneration_pen]

theorem boundaryEnd_otherPorts (s : State) : OtherPorts .t s (boundaryEnd s) := fun q hq => by
  rw [State.port, (boundaryEnd_pen s).2]
  exact lapseWalk_otherPorts (bumpGeneration s) q hq

/-- A walk for the interval that has become current is answered LAPSED, and no walk of the T-port is left. -/
theorem boundaryEnd_lapsed {s : State} {r : Request} (h : s.pen.request = some r) (hr : r.interval = s.sbk.current) :
    Answers .t (.bare .lapsed) (boundaryEnd s) ∧ (boundaryEnd s).pen.waiting = none ∧
      ((boundaryEnd s).pen.flight.bind Flight.request) = none := by
  have hlapsed : lapseWalk (bumpGeneration s) = endWalk (.bare .lapsed) (bumpGeneration s) := lapseWalk_lapsed h hr
  obtain ⟨hpen, hspi⟩ := boundaryEnd_pen s
  rw [hlapsed] at hpen hspi
  obtain ⟨-, hwaiting, hflight⟩ := dropWalk_pen (bumpGeneration s)
  obtain ⟨kwaiting, kflight⟩ := (postRecheck_rest (endWalk (.bare .lapsed) (bumpGeneration s))).2 hwaiting
  rw [hpen, Answers, State.port, hspi]
  exact ⟨endWalk_answers (.bare .lapsed) (bumpGeneration s), kwaiting, kflight.trans hflight⟩

/-- Without a walk of the T-port the recheck request of the boundary is taken. -/
theorem boundaryEnd_posted {s : State} (h : s.pen.request = none) (hpart : s.svc.part ≠ .config) :
    RecheckPosted s (boundaryEnd s) := by
  have hnone : lapseWalk (bumpGeneration s) = bumpGeneration s := lapseWalk_none h
  have hpart' : (bumpGeneration s).svc.part ≠ .config := hpart
  rw [RecheckPosted, (boundaryEnd_pen s).1, hnone, postRecheck_pen, if_neg hpart', bumpGeneration_pen, Pen.posted_eq]
  cases s.pen.flight <;> rfl

end Sys2Proof.Machine
end

section
/-! PROOFS. The staging-lead event and the boundary as a whole. -/

namespace Sys2Proof.Machine

/-! ## The staging-lead event (R76, R119, R136) -/

/-- The clock and the view of the staging-lead event, before the staged split. -/
def stagingNoted (j : Nat) (s : State) : State := { s with
  pck := { s.pck with stagingMark := some j, stagingDue := none }
  dsu := { s.dsu with view := { s.dsu.view with next := some (nextSlotOf s (s.sbk.current + 1)) } } }

theorem takeStaging_due {s : State} {j : Nat} (h : s.pck.stagingDue = some j) :
    takeStaging s = examineQueue (stagedSplit (stagingNoted j s)) := by
  rw [takeStaging, h]
  rfl

theorem stagingNoted_kept (j : Nat) (s : State) : DispatchKept s (stagingNoted j s) :=
  .of_eq (.of_eq rfl) rfl (fun tr => by cases tr <;> rfl) rfl rfl

theorem takeStaging_kept (s : State) : DispatchKept s (takeStaging s) := by
  cases h : s.pck.stagingDue with
  | none => rw [takeStaging, h]; exact .refl s
  | some j =>
    rw [takeStaging_due h]
    exact ((stagingNoted_kept j s).trans (.stagedSplit _)).trans (.examineIf true _)

theorem takeStaging_view {s : State} {j : Nat} (h : s.pck.stagingDue = some j) :
    (takeStaging s).dsu.view.next = some (nextSlotOf s (s.sbk.current + 1)) := by
  rw [takeStaging_due h, (ViewKept.examineQueue _).view, stagedSplit_view]
  rfl

theorem takeStaging_pck {s : State} {j : Nat} (h : s.pck.stagingDue = some j) :
    (takeStaging s).pck = { s.pck with stagingMark := some j, stagingDue := none } := by
  have hkept (u : State) : (examineQueue (stagedSplit u)).pck = u.pck := by simp
  rw [takeStaging_due h, hkept]
  rfl

theorem takeStaging_state (s : State) : takeStaging s = { s with
    evr := (takeStaging s).evr, pck := (takeStaging s).pck, ciu := (takeStaging s).ciu
    hsu := (takeStaging s).hsu, sbk := (takeStaging s).sbk, dsu := (takeStaging s).dsu } := by
  obtain ⟨hpins, hspi, hilr, harith, hpen, hsvc, hpending⟩ := takeStaging_frame s
  rw [← hpins, ← hspi, ← hilr, ← harith, ← hpen, ← hsvc, ← hpending]

theorem exec_stagingLeadEvent {s : State} (h : s.pins.resetLow = false) :
    exec .stagingLeadEvent s = .next (takeStaging s) := by
  have hexec : exec .stagingLeadEvent s = .next (live takeStaging s) := rfl
  rw [hexec, live_released h]

/-! ## A boundary up to the close of the slot (R38, R77) -/

/-- The part with the outstanding staging-lead event taken and the boundary no longer due. -/
def boundaryNoted (s : State) : State :=
  { takeStaging s with pck := { (takeStaging s).pck with boundaryDue := false } }

/-- The boundary in the Cavern Inventory Unit, after the staging-lead event. -/
def boundaryStart (s : State) : State := boundaryCaverns (boundaryNoted s)

theorem takeBoundary_due {s : State} (h : s.pck.boundaryDue = true) :
    takeBoundary s = boundaryEnd (handOver (openSlot (closeSlot (boundaryStart s)))) := if_pos h

theorem exec_boundary {s : State} (h : s.pins.resetLow = false) : exec .boundary s = .next (takeBoundary s) := by
  have hexec : exec .boundary s = .next (live takeBoundary s) := rfl
  rw [hexec, live_released h]

theorem boundaryNoted_kept (s : State) : DispatchKept s (boundaryNoted s) :=
  (takeStaging_kept s).trans (.of_eq (.of_eq rfl) rfl (fun _ => rfl) rfl rfl)

theorem boundaryNoted_pen (s : State) : (boundaryNoted s).pen = s.pen := by simp [boundaryNoted]

theorem boundaryStart_joins (s : State) : EventsOnlyJoin s (boundaryStart s) :=
  (boundaryNoted_kept s).joins.trans (boundaryCaverns_event _).joins

theorem boundaryStart_book (s : State) : BookKept s (boundaryStart s) :=
  (boundaryNoted_kept s).book.trans ((budgetsRenewed_work _).book (boundaryCaverns_kept _))

theorem boundaryStart_length (s : State) : (boundaryStart s).sbk.slots.length = s.sbk.slots.length := by
  have hledger : (boundaryStart s).ledger = s.ledger := by
    rw [boundaryStart, boundaryCaverns_ledger, boundaryNoted, withPck_ledger, takeStaging_ledger]
  have hlength := congrArg (fun l => l.intervals.length) hledger
  simpa [State.ledger] using hlength

theorem boundaryStart_cavern (s : State) (c : Cavern) :
    ((boundaryStart s).cavern c).mass = (s.cavern c).mass ∧ ((boundaryStart s).cavern c).spent = 0 := by
  obtain ⟨hmass, hspent, -⟩ := boundaryCaverns_cavern (boundaryNoted s) c
  have hkept := (boundaryNoted_kept s).caverns c
  rw [CavernKept] at hkept
  exact ⟨hmass.trans (by rw [hkept]), hspent⟩

theorem boundaryStart_stack (s : State) (st : Store) : ((boundaryStart s).store st).stack = (s.store st).stack := by
  have hnoted := (boundaryNoted_kept s).stores st
  have hrenewed : (budgetsRenewed (boundaryNoted s)).store st = (boundaryNoted s).store st := by
    simp [budgetsRenewed, State.store]
  have hhanded := (boundaryCaverns_kept (boundaryNoted s)).stores st
  rw [StoreKept] at hnoted hhanded
  rw [boundaryStart, hhanded, hrenewed, hnoted]

theorem boundaryStart_walk (s : State) : WalkKept s (boundaryStart s) := by
  have hnoted : WalkKept s (boundaryNoted s) := .of_eq (boundaryNoted_pen s)
  exact hnoted.trans (boundaryCaverns_pen (boundaryNoted s))

theorem boundaryStart_generation (s : State) : (boundaryStart s).pen.generation =
    s.pen.generation + oneIf (BudgetChanged s (boundaryStart s)) := by
  have hbudget (c : Cavern) : ((boundaryNoted s).cavern c).budget = (s.cavern c).budget := by
    have hkept := (boundaryNoted_kept s).caverns c
    rw [CavernKept] at hkept
    rw [hkept]
  rw [boundaryStart, boundaryCaverns_generation, boundaryNoted_pen]
  exact congrArg (s.pen.generation + ·) (if_congr (by rw [BudgetChanged, BudgetChanged, hbudget, hbudget]) rfl rfl)

/-! ## The slots of a boundary (R78, R81, R82, R134) -/

/-- A slot that differs in its SHORT marks only shows the same figures otherwise. -/
theorem begun_short (x : Slot) (a b : Bool) (k : Nat) :
    ({ x with short := a, shortSeen := b } : Slot).begun k = { x.begun k with short := a, shortSeen := b } := by
  simp only [Slot.begun]
  split <;> rfl

section Slots
variable (s : State)

/-- The part in which the slot that begins is opened. -/
def boundaryOpened : State := openSlot (closeSlot (boundaryStart s))

/-- The part after a boundary. -/
def boundaryDone : State := boundaryEnd (handOver (boundaryOpened s))

theorem boundaryOpened_current : (boundaryOpened s).sbk.current = s.sbk.current + 1 := by
  have hopened := (openSlot_opened (closeSlot (boundaryStart s))).book
  rw [boundaryOpened, hopened, (closeSlot_book (boundaryStart s)).1, (boundaryStart_book s).1]

/-- From the opened slot on the book changes in SHORT marks only, and in those of the current slot only. -/
theorem boundaryDone_kept : DispatchKept (handed (boundaryOpened s)) (boundaryDone s) :=
  (handOver_kept _).trans (boundaryEnd_kept _)

theorem boundaryDone_view : ViewKept (handed (boundaryOpened s)) (boundaryDone s) :=
  (handOver_view _).trans (boundaryEnd_view _)

/-- What the close and the opening of a slot leave aside. -/
theorem boundaryOpened_frame : (boundaryOpened s).ciu = (boundaryStart s).ciu ∧
    (boundaryOpened s).hsu = (boundaryStart s).hsu ∧ (boundaryOpened s).svc = s.svc ∧
    (boundaryOpened s).spi = s.spi := by
  simp [boundaryOpened, boundaryStart, boundaryNoted]

theorem boundaryDone_joins : EventsOnlyJoin s (boundaryDone s) :=
  (((boundaryStart_joins s).trans (closeSlot_joins _)).trans (openSlot_opened _).joins).trans
    (EventsOnlyJoin.trans (b := handed (boundaryOpened s)) (.of_eq (handed_frame _).1) (boundaryDone_kept s).joins)

theorem boundaryDone_book : (boundaryDone s).sbk.current = s.sbk.current + 1 ∧
    (boundaryDone s).sbk.unscheduled = 0 ∧ (boundaryDone s).sbk.ring = (closeSlot (boundaryStart s)).sbk.ring := by
  have hdone := (boundaryDone_kept s).book.1
  have hhanded := (handed_frame (boundaryOpened s)).2.1
  have hopened : (boundaryOpened s).sbk = _ := (openSlot_opened (closeSlot (boundaryStart s))).book
  obtain ⟨-, hunscheduled, -⟩ := closeSlot_book (boundaryStart s)
  rw [hdone, hhanded]
  exact ⟨boundaryOpened_current s, by rw [hopened]; exact hunscheduled, by rw [hopened]⟩

theorem boundaryDone_viewIs : (boundaryDone s).dsu.view = viewBegun (boundaryOpened s) := (boundaryDone_view s).view

theorem boundaryDone_train (tr : Train) : ((boundaryDone s).train tr).totalAir = 0 ∧
    ((boundaryDone s).train tr).totalHeat = 0 ∧ ((boundaryDone s).train tr).totalEnergy = 0 := by
  have hkept := (boundaryDone_kept s).trains tr
  rw [TrainKept, handed_train] at hkept
  rw [hkept]
  exact ⟨rfl, rfl, rfl⟩

theorem boundaryDone_stands : SplitStands (boundaryDone s) := boundaryEnd_stands (handOver_stands _)

theorem boundaryDone_cavern (c : Cavern) : ((boundaryDone s).cavern c).mass = (s.cavern c).mass ∧
    ((boundaryDone s).cavern c).spent = 0 ∧
    ((boundaryDone s).cavern c).budget = ((boundaryStart s).cavern c).budget := by
  have hkept := (boundaryDone_kept s).caverns c
  have hstart : (handed (boundaryOpened s)).cavern c = (boundaryStart s).cavern c := by
    obtain ⟨-, -, hciu, -⟩ := handed_frame (boundaryOpened s)
    rw [State.cavern, hciu, (boundaryOpened_frame s).1]
    rfl
  obtain ⟨hmass, hspent⟩ := boundaryStart_cavern s c
  rw [CavernKept, hstart] at hkept
  rw [hkept]
  exact ⟨hmass, hspent, rfl⟩

theorem boundaryDone_stack (st : Store) : ((boundaryDone s).store st).stack = (s.store st).stack := by
  have hkept := (boundaryDone_kept s).stores st
  have hstart : (handed (boundaryOpened s)).store st = (boundaryStart s).store st := by
    obtain ⟨-, -, -, hhsu, -⟩ := handed_frame (boundaryOpened s)
    obtain ⟨-, hopened, -⟩ := boundaryOpened_frame s
    rw [State.store, hhsu, hopened]
    rfl
  rw [StoreKept, hstart] at hkept
  rw [hkept]
  exact boundaryStart_stack s st

theorem boundaryDone_otherPorts : OtherPorts .t s (boundaryDone s) := fun q hq => by
  obtain ⟨-, -, -, hopened⟩ := boundaryOpened_frame s
  rw [boundaryDone, boundaryEnd_otherPorts _ q hq, State.port, (handOver_rest _).2.1, hopened]
  rfl

/-- Before its end the boundary keeps the walks of the engine. -/
theorem handOver_walk : WalkKept s (handOver (boundaryOpened s)) := by
  have hclosed : WalkKept (boundaryStart s) (closeSlot (boundaryStart s)) := by
    rw [WalkKept, closeSlot_pen]
  have hopened : WalkKept (closeSlot (boundaryStart s)) (boundaryOpened s) := by
    rw [WalkKept, boundaryOpened, (openSlot_opened _).pen]
  exact ((boundaryStart_walk s).trans hclosed).trans (hopened.trans (.of_eq (handOver_rest _).1))

theorem handOver_current : (handOver (boundaryOpened s)).sbk.current = s.sbk.current + 1 := by
  rw [(handOver_kept (boundaryOpened s)).book.1, (handed_frame _).2.1]
  exact boundaryOpened_current s

section Length
variable {s} (hlength : s.sbk.slots.length = 96)
include hlength

theorem boundaryOpened_slot : (boundaryOpened s).sbk.slots.length = 96 ∧ ∀ n, (boundaryOpened s).slot n =
    if n % 96 = (s.sbk.current + 1) % 96 then
      ((boundaryStart s).slot (s.sbk.current + 1)).begun (s.sbk.current + 1)
    else if n % 96 = s.sbk.current % 96 then
      Slot.blank (s.sbk.current + 96) (((boundaryStart s).slot s.sbk.current).seq + 1)
    else (boundaryStart s).slot n := by
  have hcurrent : (boundaryStart s).sbk.current = s.sbk.current := by rw [(boundaryStart_book s).1]
  obtain ⟨hclosed, hclosedSlot⟩ := closeSlot_slot ((boundaryStart_length s).trans hlength)
  obtain ⟨hopened, hopenedSlot⟩ := (openSlot_opened (closeSlot (boundaryStart s))).slots hclosed
  refine ⟨hopened, fun n => (hopenedSlot n).trans ?_⟩
  have hnext : (s.sbk.current + 1) % 96 ≠ s.sbk.current % 96 := by omega
  rw [(closeSlot_book _).1, hclosedSlot n, hcurrent, hclosedSlot (s.sbk.current + 1), hcurrent, if_neg hnext]

theorem boundaryDone_slot_other {n : Nat} (hn : n % 96 ≠ (s.sbk.current + 1) % 96) :
    (boundaryDone s).slot n = (boundaryOpened s).slot n := by
  have hbook := (handed_frame (boundaryOpened s)).2.1
  have hhanded : (handed (boundaryOpened s)).sbk.slots.length = 96 := by
    rw [hbook]
    exact (boundaryOpened_slot hlength).1
  have hcurrent : (handed (boundaryOpened s)).dsu.view.current = s.sbk.current + 1 := boundaryOpened_current s
  rw [((boundaryDone_view s).slots hhanded).2 n (hcurrent ▸ hn), slot_congr hbook]

theorem boundaryDone_slot_ended :
    (boundaryDone s).slot (s.sbk.current + 96) = Slot.blank (s.sbk.current + 96) ((s.slot s.sbk.current).seq + 1) := by
  have hseq : ((boundaryStart s).slot s.sbk.current).seq = (s.slot s.sbk.current).seq := by
    rw [(boundaryStart_book s).2]
  rw [boundaryDone_slot_other hlength (by omega), (boundaryOpened_slot hlength).2, if_neg (by omega),
    if_pos (by omega), hseq]

theorem boundaryOpened_slot_begun : ∃ short seen, (boundaryOpened s).slot (s.sbk.current + 1) =
    { (s.slot (s.sbk.current + 1)).begun (s.sbk.current + 1) with short := short, shortSeen := seen } := by
  rw [(boundaryOpened_slot hlength).2, if_pos rfl, (boundaryStart_book s).2, begun_short]
  exact ⟨_, _, rfl⟩

theorem boundaryDone_slot_begun : (boundaryDone s).slot (s.sbk.current + 1) =
    { (s.slot (s.sbk.current + 1)).begun (s.sbk.current + 1) with
      short := ((boundaryDone s).slot (s.sbk.current + 1)).short
      shortSeen := ((boundaryDone s).slot (s.sbk.current + 1)).shortSeen } := by
  obtain ⟨short, seen, hopened⟩ := boundaryOpened_slot_begun hlength
  have hkept := (boundaryDone_kept s).book.2 (s.sbk.current + 1)
  rw [slot_congr (handed_frame (boundaryOpened s)).2.1, hopened] at hkept
  exact hkept

theorem boundaryDone_slot_kept {n : Nat} (hended : n % 96 ≠ s.sbk.current % 96)
    (hbegun : n % 96 ≠ (s.sbk.current + 1) % 96) : (boundaryDone s).slot n = { s.slot n with
      short := ((boundaryDone s).slot n).short, shortSeen := ((boundaryDone s).slot n).shortSeen } := by
  rw [boundaryDone_slot_other hlength hbegun, (boundaryOpened_slot hlength).2, if_neg hbegun, if_neg hended]
  exact (boundaryStart_book s).2 n

/-- The count of a boundary in the generation number: the boundary itself, a changed rate budget, the slot that ends and
the slot that begins (log 20). -/
theorem boundaryDone_generation : (boundaryDone s).pen.generation = s.pen.generation + 1 +
    oneIf (BudgetChanged s (boundaryDone s)) + oneIf ((s.slot s.sbk.current).state ≠ .empty) +
    oneIf ((s.slot (s.sbk.current + 1)).state = .committed ∨ (s.slot (s.sbk.current + 1)).state = .offered) := by
  have hcurrent : (boundaryStart s).sbk.current = s.sbk.current := by rw [(boundaryStart_book s).1]
  have hstate (n : Nat) : ((boundaryStart s).slot n).state = (s.slot n).state := by rw [(boundaryStart_book s).2]
  have hbegun : ((closeSlot (boundaryStart s)).slot (s.sbk.current + 1)).state =
      (s.slot (s.sbk.current + 1)).state := by
    rw [(closeSlot_slot ((boundaryStart_length s).trans hlength)).2, hcurrent, if_neg (by omega), hstate]
  have hbudget : BudgetChanged s (boundaryStart s) ↔ BudgetChanged s (boundaryDone s) := by
    rw [BudgetChanged, BudgetChanged, (boundaryDone_cavern s .cv1).2.2, (boundaryDone_cavern s .cv2).2.2]
  have hfirst : oneIf (BudgetChanged s (boundaryStart s)) = oneIf (BudgetChanged s (boundaryDone s)) :=
    if_congr hbudget rfl rfl
  have hdone : (boundaryDone s).pen.generation = (boundaryOpened s).pen.generation + 1 := by
    rw [boundaryDone, boundaryEnd_generation, (handOver_rest _).1]
  have hopened : (boundaryOpened s).pen = _ := (openSlot_opened (closeSlot (boundaryStart s))).pen
  rw [hdone, hopened, closeSlot_pen, boundaryStart_generation, hfirst]
  simp only [(closeSlot_book _).1, hcurrent, hbegun, hstate]
  generalize oneIf (BudgetChanged s (boundaryDone s)) = budget
  generalize oneIf ((s.slot s.sbk.current).state ≠ .empty) = ended
  ring

end Length

end Slots

end Sys2Proof.Machine
end

section
/-! PROOFS. The settlement record that a boundary leaves, and the staging-lead event and the boundary (O40). -/

namespace Sys2Proof.Machine

/-! ## The settlement record of a boundary (R85 to R88) -/

/-- The record that joins the ring at a boundary outside CONFIG. -/
def boundaryRecord (s : State) : Settlement :=
  { (endingRecord (boundaryStart s)).1 with overrun := decide (32 ≤ s.sbk.ring.length) }

theorem endingRecord_overrun (s : State) : (endingRecord s).1.overrun = false := settlementOf_overrun ..

theorem boundaryDone_ring (s : State) : (boundaryDone s).sbk.ring = if s.svc.part = .config then s.sbk.ring
    else (if s.sbk.ring.length < 32 then s.sbk.ring else s.sbk.ring.drop 1) ++ [boundaryRecord s] := by
  have hring : (boundaryStart s).sbk.ring = s.sbk.ring := by rw [(boundaryStart_book s).1]
  have hsvc : (boundaryStart s).svc = s.svc := by simp [boundaryStart, boundaryNoted]
  rw [(boundaryDone_book s).2.2, closeSlot_ring, hsvc, hring, ringWith_eq _ (endingRecord_overrun _)]
  rfl

section Record
variable {s : State} (hindexed : BookIndexed s)

/-- The slot that ends, as the boundary finds it: the record of interval k but for SHORT marks. -/
theorem boundaryStart_slot_ended : ∃ seen short, (boundaryStart s).slot (boundaryStart s).sbk.current =
      { s.slot s.sbk.current with short := short, shortSeen := seen } ∧
    (boundaryStart s).sbk.current = s.sbk.current ∧ (boundaryStart s).sbk.unscheduled = s.sbk.unscheduled := by
  have hcurrent : (boundaryStart s).sbk.current = s.sbk.current := by rw [(boundaryStart_book s).1]
  have hslot := (boundaryStart_book s).2 s.sbk.current
  exact ⟨_, _, by rw [hcurrent]; exact hslot, hcurrent, by rw [(boundaryStart_book s).1]⟩

include hindexed

theorem slot_current_interval : (s.slot s.sbk.current).interval = s.sbk.current := hindexed.2 0 (by decide)

theorem boundaryRecord_active {v : Activity} (hstate : (s.slot s.sbk.current).state = .active)
    (hv : (s.slot s.sbk.current).activity = some v) :
    let k := s.sbk.current
    let x := s.slot k
    let e := (saturateEnergy (v.energy + reserveEnergy v.reserve ((k + 1) * 900 - v.mark))).val
    let r := boundaryRecord s
    r = ⟨k, x.ref, x.power, ⟨x.up, x.down⟩, x.power * 250, e, v.delivered,
      (saturateEnergy (v.delivered - x.power * 250 - e)).val, false, false, x.atRiskSeen, r.shortSeen, r.overrun,
      x.seq⟩ := by
  obtain ⟨seen, short, hslot, hcurrent, -⟩ := boundaryStart_slot_ended (s := s)
  have hrecord := endingRecord_active (s := boundaryStart s) (v := v)
    ((boundaryStart_length s).trans hindexed.1) (by rw [hslot]; exact hstate) (by rw [hslot]; exact hv)
  rw [hslot, hcurrent] at hrecord
  simp only [boundaryRecord, hrecord, slot_current_interval hindexed]
  rfl

theorem boundaryRecord_voided (hstate : (s.slot s.sbk.current).state = .voided) :
    let x := s.slot s.sbk.current
    let d := s.sbk.unscheduled
    let r := boundaryRecord s
    r = ⟨s.sbk.current, x.ref, x.power, ⟨x.up, x.down⟩, 0, 0, d, d, false, true, x.atRiskSeen, r.shortSeen, r.overrun,
      x.seq⟩ := by
  obtain ⟨seen, short, hslot, -, hunscheduled⟩ := boundaryStart_slot_ended (s := s)
  have hrecord := endingRecord_voided (s := boundaryStart s) (by rw [hslot]; exact hstate)
  rw [hslot, hunscheduled] at hrecord
  simp only [boundaryRecord, hrecord, slot_current_interval hindexed]
  rfl

theorem boundaryRecord_none (hactive : (s.slot s.sbk.current).state ≠ .active)
    (hvoided : (s.slot s.sbk.current).state ≠ .voided) :
    let d := s.sbk.unscheduled
    let r := boundaryRecord s
    r = ⟨s.sbk.current, 0, 0, ⟨0, 0⟩, 0, 0, d, d, true, false, false, false, r.overrun,
      (s.slot s.sbk.current).seq⟩ := by
  obtain ⟨seen, short, hslot, -, hunscheduled⟩ := boundaryStart_slot_ended (s := s)
  have hrecord := endingRecord_none (s := boundaryStart s) (by rw [hslot]; exact hactive)
    (by rw [hslot]; exact hvoided)
  rw [hslot, hunscheduled] at hrecord
  simp only [boundaryRecord, hrecord, slot_current_interval hindexed]

end Record

/-! ## The slot that begins (R82) -/

theorem Slot.begun_committed {x : Slot} (h : x.state = .committed) (k : Nat) : x.begun k =
    { x with state := .active, seq := x.seq + 1, activity := some ⟨0, 0, 0, k * 900⟩ } := by
  rw [Slot.begun, h]

theorem Slot.begun_offered {x : Slot} (h : x.state = .offered) (k : Nat) : x.begun k = x.emptied := by
  rw [Slot.begun, h]

theorem Slot.begun_other {x : Slot} (hcommitted : x.state ≠ .committed) (hoffered : x.state ≠ .offered) (k : Nat) :
    x.begun k = x := by
  rw [Slot.begun]
  split
  case h_1 h => exact absurd h hcommitted
  case h_2 h => exact absurd h hoffered
  case h_3 => rfl

/-- A COMMITTED slot that begins is the active one of the view. -/
theorem boundaryDone_active {s : State} (hlength : s.sbk.slots.length = 96)
    (h : (s.slot (s.sbk.current + 1)).state = .committed) :
    (boundaryDone s).dsu.view.active = some (s.slot (s.sbk.current + 1)).power := by
  obtain ⟨short, seen, hopened⟩ := boundaryOpened_slot_begun hlength
  rw [Slot.begun_committed h] at hopened
  rw [boundaryDone_viewIs, viewBegun, boundaryOpened_current, hopened]
  rfl

/-! ## The whole event (R76, R77, R81, R82) -/

theorem boundaryDone_due {s : State} (h : s.pck.boundaryDue = true) : takeBoundary s = boundaryDone s :=
  takeBoundary_due h

theorem boundaryDone_pck (s : State) : (boundaryDone s).pck = (boundaryNoted s).pck := by
  simp [boundaryDone, boundaryEnd, bumpGeneration, boundaryOpened, boundaryStart]

theorem boundaryDone_lapsed {s : State} {r : Request} (hr : s.pen.request = some r)
    (hinterval : r.interval = s.sbk.current + 1) : Answers .t (.bare .lapsed) (boundaryDone s) ∧
      (boundaryDone s).pen.waiting = none ∧ ((boundaryDone s).pen.flight.bind Flight.request) = none := by
  have hrequest := (handOver_walk s).request.trans hr
  have hcurrent := hinterval.trans (handOver_current s).symm
  rw [boundaryDone]
  exact boundaryEnd_lapsed hrequest hcurrent

theorem boundaryDone_posted {s : State} (hnone : s.pen.request = none) (hpart : s.svc.part ≠ .config) :
    RecheckPosted s (boundaryDone s) := by
  have hrequest := (handOver_walk s).request.trans hnone
  have hsvc : (handOver (boundaryOpened s)).svc = s.svc := by
    obtain ⟨-, -, hopened, -⟩ := boundaryOpened_frame s
    rw [(handOver_rest _).2.2, hopened]
  have hflight := (handOver_walk s).flight
  rw [boundaryDone]
  generalize handOver (boundaryOpened s) = u at *
  have hposted := boundaryEnd_posted hrequest (by rw [hsvc]; exact hpart)
  rwa [RecheckPosted, hflight] at hposted

/-- A slot that begins shows its change of state, and else what it was but for SHORT marks. -/
theorem boundaryDone_begun {s : State} (hlength : s.sbk.slots.length = 96) :
    let x := s.slot (s.sbk.current + 1)
    let y := (boundaryDone s).slot (s.sbk.current + 1)
    (x.state = .committed → y = { x with
      state := .active, seq := x.seq + 1, activity := some ⟨0, 0, 0, (s.sbk.current + 1) * 900⟩, short := y.short
      shortSeen := y.shortSeen } ∧ (boundaryDone s).dsu.view.active = some x.power) ∧
    (x.state = .offered → y = { x with
      state := .empty, seq := x.seq + 1, power := 0, band := none, ref := 0, offer := none, short := y.short
      shortSeen := y.shortSeen }) ∧
    (x.state ≠ .committed → x.state ≠ .offered → y = { x with short := y.short, shortSeen := y.shortSeen }) := by
  have hbegun := boundaryDone_slot_begun hlength
  refine ⟨fun h => ⟨?_, boundaryDone_active hlength h⟩, fun h => ?_, fun hcommitted hoffered => ?_⟩
  · rw [Slot.begun_committed h] at hbegun
    exact hbegun
  · rw [Slot.begun_offered h] at hbegun
    exact hbegun
  · rw [Slot.begun_other hcommitted hoffered] at hbegun
    exact hbegun

theorem boundaryDone_frame {s : State} (hdue : s.pck.boundaryDue = true) : (boundaryDone s).svc = s.svc ∧
    (boundaryDone s).ilr = s.ilr ∧ (boundaryDone s).pins = s.pins ∧
    (boundaryDone s).pck.seconds = s.pck.seconds := by
  obtain ⟨hpins, hilr, hsvc, -⟩ := takeBoundary_frame s
  have htime := takeBoundary_sameTime s
  rw [boundaryDone_due hdue] at hpins hilr hsvc htime
  exact ⟨hsvc, hilr, hpins, by rw [htime]⟩

theorem boundaryDone_view_eq (s : State) : (boundaryDone s).dsu.view.current = s.sbk.current + 1 ∧
    (boundaryDone s).dsu.view.next = none := by
  rw [boundaryDone_viewIs]
  exact ⟨boundaryOpened_current s, rfl⟩

theorem boundaryDone_orders (s : State) (tr : Train) : ((boundaryDone s).train tr).order.held = false ∧
    ((boundaryDone s).train tr).nextOrder = none ∧
    ((boundaryDone s).train tr).order.target = (boundaryDone s).splitPlan.target tr := by
  obtain ⟨hnext, hheld, htarget⟩ := (boundaryDone_stands s).orders tr
  exact ⟨hheld, hnext, htarget⟩

/-- What the staging-lead event leaves (R76, R119, R136). -/
theorem takeStaging_effect {s : State} {j : Nat} (hdue : s.pck.stagingDue = some j) :
    (takeStaging s).pck.stagingMark = some j ∧ (takeStaging s).pck.stagingDue = none ∧
      (takeStaging s).pck.seconds = s.pck.seconds ∧ (takeStaging s).sbk.current = s.sbk.current ∧
      (takeStaging s).dsu.view.next.map NextSlot.interval = some (s.sbk.current + 1) ∧
      (takeStaging s).dsu.view.next.map NextSlot.state = some (s.slot (s.sbk.current + 1)).state ∧
      (takeStaging s).dsu.view.next.map NextSlot.power = some (s.slot (s.sbk.current + 1)).power := by
  have hcurrent : (takeStaging s).sbk.current = s.sbk.current := by rw [(takeStaging_kept s).book.1]
  rw [takeStaging_pck hdue, takeStaging_view hdue]
  exact ⟨rfl, rfl, rfl, hcurrent, rfl, rfl, rfl⟩

/-- Settles O40: the staging-lead event is a staged split and an examination over the view that has taken the next
slot; the boundary renews the budgets, closes and opens a slot, and hands over, and each of these is followed through to
the part that it leaves. -/
theorem stagingAndBoundary : Obligations.StagingAndBoundary := by
  intro s hreset
  refine ⟨fun j hdue => ?staging, fun hdue => ?boundary⟩
  case staging =>
    have hkept := takeStaging_kept s
    obtain ⟨hmark, hnone, hseconds, hcurrent, hinterval, hstate, hpower⟩ := takeStaging_effect hdue
    exact ⟨takeStaging s, exec_stagingLeadEvent hreset, hmark, hnone, hseconds, hcurrent, hinterval, hstate, hpower,
      hkept.caverns, hkept.stores, hkept.book, hkept.trains, hkept.joins, takeStaging_state s⟩
  case boundary =>
    obtain ⟨hcurrent, hunscheduled, -⟩ := boundaryDone_book s
    obtain ⟨hviewCurrent, hnext⟩ := boundaryDone_view_eq s
    obtain ⟨hsvc, hilr, hpins, hseconds⟩ := boundaryDone_frame hdue
    have hexec : exec .boundary s = .next (boundaryDone s) := by rw [exec_boundary hreset, boundaryDone_due hdue]
    have hnoted : (boundaryDone s).pck.boundaryDue = false := by rw [boundaryDone_pck]; rfl
    refine ⟨boundaryDone s, hexec, hnoted, hseconds, hcurrent, hviewCurrent, hnext, hunscheduled,
      fun tr => ⟨(boundaryDone_orders s tr).1, boundaryDone_train s tr⟩, fun c => ?caverns, fun hpart hlength => ?ring,
      fun hindexed => ?slots, fun tr => (boundaryDone_orders s tr).2, fun r => boundaryDone_lapsed, boundaryDone_posted,
      hsvc, hilr, hpins, boundaryDone_otherPorts s, boundaryDone_joins s, boundaryDone_stack s,
      fun hpart => (boundaryDone_ring s).trans (if_pos hpart)⟩
    case caverns =>
      obtain ⟨hmass, hspent, -⟩ := boundaryDone_cavern s c
      exact ⟨hmass, hspent⟩
    case ring =>
      exact ⟨boundaryRecord s, (boundaryDone_ring s).trans (if_neg hpart), rfl, fun hindexed =>
        ⟨fun _ => boundaryRecord_active hindexed, boundaryRecord_voided hindexed, boundaryRecord_none hindexed⟩⟩
    case slots =>
      have hlength := hindexed.1
      obtain ⟨hcommitted, hoffered, hother⟩ := boundaryDone_begun hlength
      exact ⟨boundaryDone_slot_ended hlength, hcommitted, hoffered, hother, boundaryDone_generation hlength,
        fun n => boundaryDone_slot_kept hlength⟩

end Sys2Proof.Machine
end

section
/-! PROOFS. Which slots are COMMITTED: the operations that leave them as they are, those that only take one away, and
every row but CONFIRM_WALK_COMPLETION (O59). -/

namespace Sys2Proof.Machine

/-! ## The COMMITTED slots of a book (R78, R79) -/

/-- Which intervals a book shows as COMMITTED. -/
def Sbk.commits (x : Sbk) (n : Nat) : Bool :=
  (x.slots.getD (n % Config.slotCount) (Slot.blank n 0)).state == .committed

theorem commits_iff (s : State) (n : Nat) : s.sbk.commits n = true ↔ (s.slot n).state = .committed := by
  simp [Sbk.commits, State.slot]

/-- No slot has become COMMITTED: the order of the sets of COMMITTED slots. -/
theorem commits_le_iff {s t : State} : t.sbk.commits ≤ s.sbk.commits ↔
    ∀ n, (t.slot n).state = .committed → (s.slot n).state = .committed := by
  simp only [Pi.le_def, Bool.le_iff_imp, commits_iff]

theorem commits_eq_of_state {s t : State} (h : ∀ n, (t.slot n).state = (s.slot n).state) :
    t.sbk.commits = s.sbk.commits := by
  funext n
  rw [Bool.eq_iff_iff, commits_iff, commits_iff, h]

/-- A slot after a change of a slot: as it was, or, where the two share a record, changed. -/
theorem modSlot_slot_cases (s : State) (n m : Nat) (f : Slot → Slot) : (s.modSlot n f).slot m = s.slot m ∨
    (s.modSlot n f).slot m = f (s.slot n) ∧ s.slot m = s.slot n := by
  simp only [State.modSlot, State.slot, List.getD_eq_getElem?_getD, List.getElem?_set]
  by_cases hshared : n % Config.slotCount = m % Config.slotCount
  · by_cases hin : m % Config.slotCount < s.sbk.slots.length <;> simp [hshared, hin]
  · simp [hshared]

theorem modSlot_commits_le {s : State} {n : Nat} {f : Slot → Slot}
    (h : (f (s.slot n)).state = .committed → (s.slot n).state = .committed) :
    (s.modSlot n f).sbk.commits ≤ s.sbk.commits := by
  refine commits_le_iff.2 fun m hm => ?_
  obtain hkept | ⟨hchanged, hshared⟩ := modSlot_slot_cases s n m f
  · rwa [hkept] at hm
  · rw [hshared]
    exact h (hchanged ▸ hm)

@[simp] theorem modSlot_commits {s : State} {n : Nat} {f : Slot → Slot} (h : (f (s.slot n)).state = (s.slot n).state) :
    (s.modSlot n f).sbk.commits = s.sbk.commits := by
  refine commits_eq_of_state fun m => ?_
  obtain hkept | ⟨hchanged, hshared⟩ := modSlot_slot_cases s n m f
  · rw [hkept]
  · rw [hchanged, hshared, h]

theorem foldl_commits_le {α : Type} {f : State → α → State} (hf : ∀ s x, (f s x).sbk.commits ≤ s.sbk.commits)
    (l : List α) (s : State) : (l.foldl f s).sbk.commits ≤ s.sbk.commits := by
  induction l generalizing s with
  | nil => exact le_rfl
  | cons x l ih => exact (ih (f s x)).trans (hf s x)

theorem foldl_commits {α : Type} {f : State → α → State} (hf : ∀ s x, (f s x).sbk.commits = s.sbk.commits)
    (l : List α) (s : State) : (l.foldl f s).sbk.commits = s.sbk.commits :=
  foldl_keeps (fun u : State => u.sbk.commits) f hf l s

/-! ## The Dispatch Unit and the hand-offs of an event (R92, R119 to R137, R45, R70) -/

/-- Where a book differs in SHORT marks only, the same slots are COMMITTED. -/
theorem DispatchKept.commits {s t : State} (h : DispatchKept s t) : t.sbk.commits = s.sbk.commits :=
  commits_eq_of_state fun n => by rw [h.book.2 n]

@[simp] theorem runSplit_commits (before : Dsu) (s : State) : (runSplit before s).sbk.commits = s.sbk.commits :=
  (DispatchKept.runSplit before s).commits

@[simp] theorem examineQueue_commits (s : State) : (examineQueue s).sbk.commits = s.sbk.commits :=
  (DispatchKept.examineIf true s).commits

@[simp] theorem grant_commits (t : Train) (a : Attachment) (s : State) : (grant t a s).sbk.commits = s.sbk.commits := by
  simp [grant]

@[simp] theorem stopTrains_commits (ts : List Train) (s : State) : (stopTrains ts s).sbk.commits = s.sbk.commits := by
  simp only [stopTrains]
  split <;> simp

theorem trip_commits (t : Train) (cause : TripCause) {event : State → State} (h : ∀ s, (event s).sbk = s.sbk)
    (s : State) : (trip t cause event s).sbk.commits = s.sbk.commits := by
  simp [trip, h]

@[simp] theorem trip_emitTripped_commits (t : Train) (cause c : TripCause) (target : Nat) (s : State) :
    (trip t cause (emitTripped t c target) s).sbk.commits = s.sbk.commits := trip_commits t cause (by simp) s

@[simp] theorem endPermit_commits (t : Train) (s : State) : (endPermit t s).sbk.commits = s.sbk.commits := by
  simp [endPermit]

@[simp] theorem releaseGranted_commits (t : Train) (s : State) :
    (releaseGranted t s).sbk.commits = s.sbk.commits := by
  simp [releaseGranted]

@[simp] theorem examineIfAdmitted_commits (before : View) (s : State) :
    (examineIfAdmitted before s).sbk.commits = s.sbk.commits := by
  rw [examineIfAdmitted]
  split <;> simp

@[simp] theorem slotChanged_commits (j : Nat) (s : State) : (slotChanged j s).sbk.commits = s.sbk.commits := by
  simp only [slotChanged, handSlotChange]
  repeat' split
  all_goals simp

@[simp] theorem stageNext_commits (s : State) : (stageNext s).sbk.commits = s.sbk.commits := by
  simp [stageNext]

@[simp] theorem handOver_commits (s : State) : (handOver s).sbk.commits = s.sbk.commits := by
  rw [(handOver_kept s).commits, (handed_frame s).2.1]

@[simp] theorem handOn_commits (before : State) (atBoundary always : Bool) (s : State) :
    (handOn before atBoundary always s).sbk.commits = s.sbk.commits :=
  (handOn_kept before atBoundary always s).commits

@[simp] theorem plantEvent_commits (f : State → State) (s : State) :
    (plantEvent f s).sbk.commits = (f s).sbk.commits := handOn_commits ..

@[simp] theorem loadEvent_commits (f : State → State) (s : State) :
    (loadEvent f s).sbk.commits = (f s).sbk.commits := handOn_commits ..

@[simp] theorem boundaryCaverns_commits (s : State) : (boundaryCaverns s).sbk.commits = s.sbk.commits := by
  simp [boundaryCaverns]

@[simp] theorem takePinChange_commits (code : BitVec 3) (side : BandSide) (s : State) :
    (takePinChange code side s).sbk.commits = s.sbk.commits := by
  simp [takePinChange]

@[simp] theorem agePass_commits (s : State) : (agePass s).sbk.commits = s.sbk.commits := by
  simp [agePass]

/-! ## The Report Intake (R85, R86, R126, R138, R148, R150) -/

@[simp] theorem addDelivered_commits (x : Int) (s : State) : (addDelivered x s).sbk.commits = s.sbk.commits := by
  simp only [addDelivered]
  split
  · simp
  · simp only [raise_frame]; rfl

@[simp] theorem closeIntegration_commits (second : Nat) (s : State) :
    (closeIntegration second s).sbk.commits = s.sbk.commits := by
  simp only [closeIntegration]
  split <;> simp

@[simp] theorem settleCheck_commits (t : Train) (power : Nat) (s : State) :
    (settleCheck t power s).sbk.commits = s.sbk.commits := by
  simp only [settleCheck, derate]
  repeat' split
  all_goals simp

@[simp] theorem reportDispatch_commits (t : Train) (x : Report) (s : State) :
    (reportDispatch t x s).sbk.commits = s.sbk.commits := by
  simp only [reportDispatch, movePermit]
  repeat' split
  all_goals simp

@[simp] theorem reportCavern_commits (c : Cavern) (fill : Bool) (air : Nat) (s : State) :
    (reportCavern c fill air s).sbk.commits = s.sbk.commits := by
  have hestimate (u : State) (p : Prop) [Decidable p] : (if p then u else recomputeEstimate c u).sbk = u.sbk := by
    split <;> simp
  rw [reportCavern]
  split <;> simp [hestimate]

@[simp] theorem reportStore_commits (st : Store) (t : Train) (x : Report) (s : State) :
    (reportStore st t x s).sbk.commits = s.sbk.commits := by
  rw [reportStore]
  repeat' split
  all_goals simp

@[simp] theorem examineReport_commits (t : Train) (x : ReportFields) (s : State) :
    (examineReport t x s).1.sbk.commits = s.sbk.commits := by
  simp only [examineReport]
  repeat' split
  · rfl
  · simp only [applyReport, applyClamped, reportSchedule]
    split <;> simp
  · simp only [refuseReport]
    split <;> simp

@[simp] theorem takeOverdue_commits (t : Train) (s : State) : (takeOverdue t s).sbk.commits = s.sbk.commits := by
  simp only [takeOverdue]
  split <;> simp

@[simp] theorem takeLost_commits (t : Train) (s : State) : (takeLost t s).sbk.commits = s.sbk.commits := by
  simp only [takeLost]
  split
  · exact trip_commits t _ (by simp) s
  · rfl

@[simp] theorem takeRungs_commits (s : State) (t : Train) : (takeRungs s t).sbk.commits = s.sbk.commits := by
  simp [takeRungs]

/-! ## The Position Engine (R105, R113) -/

/-- A slot that becomes OFFERED is not COMMITTED. -/
theorem settleOffer_commits_le (j up down : Nat) (n : Int) (ref : BitVec 32) (a : Ability) (stale : Bool) (s : State) :
    (settleOffer j up down n ref a stale s).sbk.commits ≤ s.sbk.commits := by
  simp only [settleOffer]
  split
  · simp
  · simp only [endWalk_frame, slotChanged_commits]
    exact modSlot_commits_le (s := writeLimit a.limit s) nofun

theorem completeOffer_commits_le (s : State) : (completeOffer s).sbk.commits ≤ s.sbk.commits := by
  rw [completeOffer]
  split
  case h_1 j n up down ref b restart _ =>
    simp only [completeRequest]
    split
    · simp
    · simp only [settleRequest]
      refine (settleOffer_commits_le _ _ _ _ _ _ _ _).trans ?_
      split <;> simp
  case h_2 => exact le_rfl

/-- The marks of a recheck are no part of a slot's state. -/
@[simp] theorem markSlot_commits (s : State) (p : Slot × WalkStep) : (markSlot s p).sbk.commits = s.sbk.commits := by
  simp only [markSlot]
  repeat' split
  all_goals simp

@[simp] theorem completeFlownRecheck_commits (s : State) :
    (completeFlownRecheck s).sbk.commits = s.sbk.commits := by
  rw [completeFlownRecheck]
  split
  · simp [completeRecheck, foldl_commits markSlot_commits]
  · rfl

/-! ## The book and the Plant Clock (R77, R79, R81 to R83, R109) -/

theorem modSlot_emptied_commits_le (s : State) (n : Nat) : (s.modSlot n Slot.emptied).sbk.commits ≤ s.sbk.commits :=
  modSlot_commits_le nofun

theorem lapseOffer_commits_le (s : State) (j : Nat) : (lapseOffer s j).sbk.commits ≤ s.sbk.commits := by
  simp only [lapseOffer]
  split
  · simpa using modSlot_emptied_commits_le s j
  · exact le_rfl

theorem takeExpiry_commits_le (s : State) (j : Nat) : (takeExpiry s j).sbk.commits ≤ s.sbk.commits := by
  rw [takeExpiry]
  split
  exacts [lapseOffer_commits_le s j, le_rfl]

theorem emptyOffers_commits_le (s : State) : (emptyOffers s).sbk.commits ≤ s.sbk.commits :=
  foldl_commits_le lapseOffer_commits_le _ s

@[simp] theorem takeStaging_commits (s : State) : (takeStaging s).sbk.commits = s.sbk.commits := by
  rw [takeStaging]
  split <;> simp

/-- A slot that begins becomes ACTIVE or EMPTY, or stays (R82). -/
theorem openSlot_commits_le (s : State) : (openSlot s).sbk.commits ≤ s.sbk.commits := by
  simp only [openSlot]
  split
  · simp only [emit_frame, bumpGeneration_frame]
    exact modSlot_commits_le nofun
  · simp only [emit_frame, bumpGeneration_frame]
    exact modSlot_commits_le nofun
  · exact le_rfl

theorem slotEnded_commits (s : State) : (slotEnded s).sbk.commits = s.sbk.commits := by
  rw [slotEnded]
  split
  · rfl
  · simp only [slotSettled, emit_frame, raise_frame]
    exact closeIntegration_commits _ s

/-- The storage of a slot that ends is reused for an EMPTY one (R81). -/
theorem closeSlot_commits_le (s : State) : (closeSlot s).sbk.commits ≤ s.sbk.commits := by
  have hreused (u : State) (k : Nat) : (storageReused k u).sbk.commits ≤ u.sbk.commits :=
    modSlot_commits_le (f := fun x => x.reinitialised (k + 96)) nofun
  rw [closeSlot_eq]
  refine (hreused _ _).trans ?_
  split <;> simp [slotEnded_commits]

theorem takeBoundary_commits_le (s : State) : (takeBoundary s).sbk.commits ≤ s.sbk.commits := by
  simp only [takeBoundary]
  split
  · simp only [directionTest_frame, boundaryBook, postRecheck_frame, lapseWalk_frame, bumpGeneration_frame,
      handOver_commits]
    refine ((openSlot_commits_le _).trans (closeSlot_commits_le _)).trans ?_
    simp
  · exact le_rfl

theorem rebuildWindow_commits_le (k : Nat) (x : Sbk) : (rebuildWindow k x).commits ≤ x.commits := by
  intro n
  have hempty : (rebuildWindow k x).commits n = false := by
    rw [Sbk.commits, List.getD_eq_getElem?_getD]
    cases hget : (rebuildWindow k x).slots[n % Config.slotCount]? with
    | none => rfl
    | some y => rw [Option.getD_some, rebuildWindow_empty k x y (List.mem_of_getElem? hget)]; rfl
  rw [hempty]
  exact Bool.false_le _

@[simp] theorem takeAging_commits (s : State) : (takeAging s).sbk.commits = s.sbk.commits := by
  rw [takeAging]
  split <;> simp

/-- The work that an advance has left due (log 6). -/
theorem drain_commits_le (s : State) : (drain s).sbk.commits ≤ s.sbk.commits := by
  simp only [drain, startWalk_frame]
  refine (takeBoundary_commits_le _).trans ?_
  rw [takeStaging_commits]
  refine (foldl_commits_le takeExpiry_commits_le _ _).trans ?_
  simp only [foldl_commits takeRungs_commits, foldl_takeStale_frame, takeAging_commits, le_refl]

theorem advance_commits_le (s : State) : (advance s).sbk.commits ≤ s.sbk.commits := by
  have hdrain := drain_commits_le s
  simp only [advance]
  split <;> simpa using hdrain

theorem takeEdge_commits_le (now : Nat) (s : State) : (takeEdge now s).sbk.commits ≤ s.sbk.commits := by
  simp only [takeEdge, endHoldover_frame]
  split
  exacts [advance_commits_le (noteMoment now s), le_rfl]

theorem takeHoldover_commits_le (now : Nat) (s : State) : (takeHoldover now s).sbk.commits ≤ s.sbk.commits := by
  simp only [takeHoldover]
  split
  · exact (advance_commits_le _).trans (le_of_eq (by simp))
  · exact le_rfl

theorem takeHoldoverSecond_commits_le (now : Nat) (s : State) :
    (takeHoldoverSecond now s).sbk.commits ≤ s.sbk.commits := by
  simp only [takeHoldoverSecond]
  split
  · have hadvance := advance_commits_le (noteMoment now s)
    simpa using hadvance
  · simp

end Sys2Proof.Machine
end

section
/-! PROOFS. No command but a completed CONFIRM walk commits a slot: the Service Controller, the taking of commands, the
bytes of a frame, and every row of the table (O59). -/

namespace Sys2Proof.Machine

/-! ## The Service Controller (R132, R178, R188 to R190) -/

@[simp] theorem dispatchLeaves_commits (p : Port) (absent : Bool) (s : State) :
    (dispatchLeaves p absent s).sbk.commits = s.sbk.commits := by
  have htrip (u : State) (t : Train) : (tripPort u t).sbk.commits = u.sbk.commits := by
    rw [tripPort]
    split <;> simp
  simp only [dispatchLeaves]
  split <;> simp [foldl_commits htrip]

theorem tradeLeaves_commits_le (absent : Bool) (s : State) : (tradeLeaves absent s).sbk.commits ≤ s.sbk.commits := by
  rw [tradeLeaves]
  split
  · exact emptyOffers_commits_le (dropWalk s)
  · exact (emptyOffers_commits_le _).trans (le_of_eq (by simp))

theorem lowerPresence_commits_le (p : Port) (new : Presence) (s : State) :
    (lowerPresence p new s).sbk.commits ≤ s.sbk.commits := by
  have htrade (q : Prop) [Decidable q] (u : State) :
      (if q then tradeLeaves (new == .absent) u else u).sbk.commits ≤ u.sbk.commits := by
    split
    exacts [tradeLeaves_commits_le _ u, le_rfl]
  have hfirst (u : State) : (if u.svc.part = .service ∧ noneDeclared u then setPart .parked u else u).sbk = u.sbk := by
    split <;> simp
  simp only [lowerPresence]
  split
  · rw [hfirst]
    simp only [evalHold_frame]
    exact (htrade _ _).trans (le_of_eq (by simp))
  · exact (htrade _ _).trans (le_of_eq (by simp))

theorem parkPart_commits_le (s : State) : (parkPart s).sbk.commits ≤ s.sbk.commits := by
  have hparked (u : State) : (allTrains.foldl (fun v t => v.modTrain t TrainRec.parked) u).sbk.commits =
      u.sbk.commits := foldl_commits (fun v t => by rw [State.modTrain_sbk]) _ u
  simp only [parkPart, emit_frame, evalHold_frame]
  refine (emptyOffers_commits_le _).trans (le_of_eq ?_)
  simp [dispatchParks, hparked]

theorem takePresentFall_commits_le (p : Port) (s : State) : (takePresentFall p s).sbk.commits ≤ s.sbk.commits := by
  simp only [takePresentFall]
  have hdropped : (if p = .t then dropWalk (s.modPort p PortIface.dropped)
      else s.modPort p PortIface.dropped).sbk = s.sbk := by
    split <;> simp
  have hlower := lowerPresence_commits_le p .absent (if p = .t then dropWalk (s.modPort p PortIface.dropped)
      else s.modPort p PortIface.dropped)
  rwa [hdropped] at hlower

/-! ## What each command takes -/

theorem takeSetCavern_commits (b : Byte) (g : BitVec 24) (f c r rt tol : BitVec 16) (s : State) :
    (takeSetCavern b g f c r rt tol s).1.sbk.commits = s.sbk.commits := by
  simp only [takeSetCavern]
  repeat' split
  all_goals simp [recomputeAll, configureCavern]

theorem takeSetStore_commits (b : Byte) (cap : BitVec 32) (tb ts tu tol : BitVec 16) (mg : Byte) (s : State) :
    (takeSetStore b cap tb ts tu tol mg s).1.sbk.commits = s.sbk.commits := by
  simp only [takeSetStore]
  repeat' split
  all_goals simp

theorem takeSetTrain_commits (p : Port) (b : Byte) (r m ra ba : BitVec 32) (f : BitVec 16) (s : State) :
    (takeSetTrain p b r m ra ba f s).1.sbk.commits = s.sbk.commits := by
  simp only [takeSetTrain, configureTrain]
  repeat' split
  all_goals simp

theorem takeSetFigures_commits (a b c d : BitVec 16) (e : BitVec 32) (f g : BitVec 16) (h i j k : BitVec 32)
    (s : State) : (takeSetFigures a b c d e f g h i j k s).1.sbk.commits = s.sbk.commits := by
  simp only [takeSetFigures]
  split <;> simp

theorem takeSetTiming_commits (a b : BitVec 16) (c : BitVec 32) (d e : BitVec 16) (f g : Byte) (s : State) :
    (takeSetTiming a b c d e f g s).1.sbk.commits = s.sbk.commits := by
  simp only [takeSetTiming]
  split <;> rfl

theorem takeSetArithMode_commits (b k : Byte) (s : State) :
    (takeSetArithMode b k s).1.sbk.commits = s.sbk.commits := by
  have hwork (changed off : Bool) (u : State) : (arithWork changed off u).sbk = u.sbk := by
    simp only [arithWork]
    repeat' split
    all_goals simp [recomputeMode, recomputeTrapOff]
  simp only [takeSetArithMode]
  repeat' split
  all_goals simp [hwork]

theorem takeSetLockEnable_commits (b : Byte) (s : State) : (takeSetLockEnable b s).1.sbk.commits = s.sbk.commits := by
  simp only [takeSetLockEnable]
  split <;> rfl

/-- A load empties the ring and leaves the window (R88). -/
theorem emptyRing_commits (s : State) : (emptyRing s).sbk.commits = s.sbk.commits := rfl

theorem takeLoadCavern_commits (b m : Byte) (a : BitVec 32) (s : State) :
    (takeLoadCavern b m a s).1.sbk.commits = s.sbk.commits := by
  simp only [takeLoadCavern, doLoadCavern]
  repeat' split
  all_goals simp [emptyRing_commits, loadCavern]

theorem takeLoadStore_commits (b m : Byte) (a : BitVec 32) (x : BitVec 16) (s : State) :
    (takeLoadStore b m a x s).1.sbk.commits = s.sbk.commits := by
  simp only [takeLoadStore, doLoadStore]
  repeat' split
  all_goals simp [emptyRing_commits, loadStore]

theorem takeSetTime_commits_le (v : BitVec 32) (now : Nat) (s : State) :
    (takeSetTime v now s).1.sbk.commits ≤ s.sbk.commits := by
  have hdrain := drain_commits_le (noteMoment now s)
  simp only [takeSetTime]
  repeat' split
  · exact (rebuildWindow_commits_le _ _).trans hdrain
  · simpa using hdrain
  · simp

theorem takeDeclareReady_commits (p : Port) (s : State) : (takeDeclareReady p s).1.sbk.commits = s.sbk.commits := by
  simp only [takeDeclareReady]
  repeat' split
  all_goals simp

theorem takeWithdraw_commits_le (p : Port) (s : State) : (takeWithdraw p s).1.sbk.commits ≤ s.sbk.commits := by
  simp only [takeWithdraw]
  split
  exacts [lowerPresence_commits_le p .joined s, le_rfl]

theorem takePark_commits_le (p : Port) (s : State) : (takePark p s).1.sbk.commits ≤ s.sbk.commits := by
  simp only [takePark]
  split
  exacts [parkPart_commits_le s, le_rfl]

theorem takeSetReserveBand_commits (b k d : Byte) (s : State) :
    (takeSetReserveBand b k d s).1.sbk.commits = s.sbk.commits := by
  simp only [takeSetReserveBand]
  repeat' split
  all_goals simp

theorem takeRequestRun_commits (p : Port) (t c d : Byte) (s : State) :
    (takeRequestRun p t c d s).1.sbk.commits = s.sbk.commits := by
  simp only [takeRequestRun]
  repeat' split
  all_goals simp [enqueue]

theorem takeRelease_commits (p : Port) (b : Byte) (s : State) : (takeRelease p b s).1.sbk.commits = s.sbk.commits := by
  simp only [takeRelease, releaseTrain]
  repeat' split
  all_goals simp [releaseQueued]

theorem takeRunReport_commits (p : Port) (b : Byte) (x : ReportFields) (s : State) :
    (takeRunReport p b x s).1.sbk.commits = s.sbk.commits := by
  simp only [takeRunReport]
  repeat' split
  all_goals simp

theorem takeStreamed_commits (p : Port) (b : Byte) (x : ReportFields) (s : State) :
    (takeStreamed p b x s).1.sbk.commits = s.sbk.commits := by
  simp only [takeStreamed]
  repeat' split
  all_goals simp

theorem takeReadTrain_commits (b : Byte) (s : State) : (takeReadTrain b s).1.sbk.commits = s.sbk.commits := by
  simp only [takeReadTrain]
  split <;> rfl

theorem takeClearTrip_commits (p : Port) (b : Byte) (s : State) :
    (takeClearTrip p b s).1.sbk.commits = s.sbk.commits := by
  simp only [takeClearTrip, clearTripOf]
  repeat' split
  all_goals simp

theorem takeClearDerate_commits (p : Port) (b : Byte) (s : State) :
    (takeClearDerate p b s).1.sbk.commits = s.sbk.commits := by
  simp only [takeClearDerate, clearDerateOf]
  repeat' split
  all_goals simp

theorem takeDiscardTop_commits (b : Byte) (s : State) : (takeDiscardTop b s).1.sbk.commits = s.sbk.commits := by
  simp only [takeDiscardTop]
  repeat' split
  all_goals simp

theorem takeOffer_commits (i pw up down ref : BitVec 32) (s : State) :
    (takeOffer i pw up down ref s).1.sbk.commits = s.sbk.commits := by
  simp only [takeOffer]
  repeat' split
  all_goals rfl

/-- A command that names a slot only answers where the slot is not the one it names (R80). -/
theorem identified_commits_le {j : Nat} {seq : Byte} {f : State → Taken} {s : State}
    (h : (f s).1.sbk.commits ≤ s.sbk.commits) : (identified j seq f s).1.sbk.commits ≤ s.sbk.commits := by
  rw [identified]
  split
  exacts [le_rfl, le_rfl, h]

theorem takeConfirm_commits_le (i : BitVec 32) (seq : Byte) (v : BitVec 32) (s : State) :
    (takeConfirm i seq v s).1.sbk.commits ≤ s.sbk.commits := by
  refine identified_commits_le (le_of_eq ?_)
  dsimp only
  repeat' split
  all_goals rfl

theorem takeWithdrawOffer_commits_le (i : BitVec 32) (seq : Byte) (s : State) :
    (takeWithdrawOffer i seq s).1.sbk.commits ≤ s.sbk.commits := by
  refine identified_commits_le ?_
  dsimp only
  split
  · simpa using modSlot_emptied_commits_le s i.toNat
  · exact le_rfl

/-- A voided slot is no longer COMMITTED (R84). -/
theorem takeVoidSlot_commits_le (i : BitVec 32) (seq : Byte) (s : State) :
    (takeVoidSlot i seq s).1.sbk.commits ≤ s.sbk.commits := by
  have hvoid : (s.modSlot i.toNat Slot.voidedOut).sbk.commits ≤ s.sbk.commits := modSlot_commits_le nofun
  refine identified_commits_le ?_
  dsimp only
  split
  · simpa using hvoid
  · exact le_rfl

theorem takeActivateReserve_commits_le (i : BitVec 32) (seq : Byte) (a : BitVec 32) (s : State) :
    (takeActivateReserve i seq a s).1.sbk.commits ≤ s.sbk.commits := by
  have hstore (n : Nat) (x : Int) (u : State) : (storeReserve n x u).sbk.commits = u.sbk.commits :=
    modSlot_commits rfl
  refine identified_commits_le (le_of_eq ?_)
  dsimp only
  split <;> simp [handReserve, hstore]

theorem takeReadSlots_commits (i : BitVec 32) (c k : Byte) (s : State) :
    (takeReadSlots i c k s).1.sbk.commits = s.sbk.commits := by
  simp only [takeReadSlots]
  repeat' split
  all_goals rfl

theorem takeScanSlots_commits (i j : BitVec 32) (f c : Byte) (v : BitVec 32) (d : Byte) (s : State) :
    (takeScanSlots i j f c v d s).1.sbk.commits = s.sbk.commits := by
  simp only [takeScanSlots]
  repeat' split
  all_goals rfl

theorem takeFetchSettlement_commits (s : State) : (takeFetchSettlement s).1.sbk.commits = s.sbk.commits := by
  rw [takeFetchSettlement]
  split <;> rfl

theorem takeReadCavern_sbk (p : Port) (b : Byte) (s : State) : (takeReadCavern p b s).1.sbk = s.sbk := by
  rw [takeReadCavern]
  split <;> rfl

theorem takeReadStore_sbk (b : Byte) (s : State) : (takeReadStore b s).1.sbk = s.sbk := by
  rw [takeReadStore]
  split <;> rfl

theorem takeReadPosition_sbk (s : State) : (takeReadPosition s).1.sbk = s.sbk := by
  simp only [takeReadPosition]
  split <;> simp

theorem takeFetchEvent_sbk (p : Port) (s : State) : (takeFetchEvent p s).1.sbk = s.sbk := by
  simp only [takeFetchEvent]
  split <;> rfl

theorem takeSetEventMask_sbk (p : Port) (b : Byte) (s : State) : (takeSetEventMask p b s).1.sbk = s.sbk := by
  rw [takeSetEventMask]
  split <;> rfl

theorem takeReadBytes_sbk (p : Port) (code : Nat) (bs : List Byte) (s : State) :
    (takeReadBytes p code bs s).1.sbk = s.sbk := by
  unfold takeReadBytes
  split
  case h_1 => exact takeReadCavern_sbk ..
  case h_2 => exact takeReadStore_sbk ..
  case h_3 => exact takeReadPosition_sbk s
  case h_7 => exact takeFetchEvent_sbk ..
  case h_8 => exact takeSetEventMask_sbk ..
  all_goals rfl

/-! ## Commands in bytes (R155, R175 to R177, R180) -/

theorem takeLoadInventory_commits (o b m : Byte) (a : BitVec 32) (x : BitVec 16) (s : State) :
    (takeLoadInventory o b m a x s).1.sbk.commits = s.sbk.commits := by
  rw [takeLoadInventory]
  repeat' split
  exacts [takeLoadCavern_commits .., takeLoadStore_commits .., rfl]

theorem takeConfigBytes_commits_le (p : Port) (code : Nat) (bs : List Byte) (s : State) :
    (takeConfigBytes p code bs s).1.sbk.commits ≤ s.sbk.commits := by
  unfold takeConfigBytes
  split
  case h_1 => exact le_rfl
  case h_2 => split; exacts [(takeSetCavern_commits ..).le, le_rfl]
  case h_3 => split; exacts [(takeSetStore_commits ..).le, le_rfl]
  case h_4 => split; exacts [(takeSetTrain_commits ..).le, le_rfl]
  case h_5 => split; exacts [(takeSetFigures_commits ..).le, le_rfl]
  case h_6 => split; exacts [(takeSetTiming_commits ..).le, le_rfl]
  case h_7 => split; exacts [(takeSetArithMode_commits ..).le, le_rfl]
  case h_8 => exact (takeSetLockEnable_commits ..).le
  case h_9 => split; exacts [(takeLoadInventory_commits ..).le, le_rfl]
  case h_10 => exact takeSetTime_commits_le _ _ s
  case h_11 => exact (takeDeclareReady_commits ..).le
  case h_12 => exact takeWithdraw_commits_le p s
  case h_13 => exact takePark_commits_le p s
  case h_14 => split; exacts [(takeSetReserveBand_commits ..).le, le_rfl]

theorem takeTrainBytes_commits (p : Port) (code : Nat) (bs : List Byte) (s : State) :
    (takeTrainBytes p code bs s).1.sbk.commits = s.sbk.commits := by
  unfold takeTrainBytes
  split
  case h_1 => split; exacts [takeRequestRun_commits .., rfl]
  case h_2 => exact takeRelease_commits ..
  case h_3 => exact takeRunReport_commits ..
  case h_4 => exact takeReadTrain_commits ..
  case h_5 => exact takeClearTrip_commits ..
  case h_6 => exact takeClearDerate_commits ..
  case h_7 => exact takeDiscardTop_commits ..

theorem takeTradeBytes_commits_le (code : Nat) (bs : List Byte) (s : State) :
    (takeTradeBytes code bs s).1.sbk.commits ≤ s.sbk.commits := by
  unfold takeTradeBytes
  split
  case h_1 => split; exacts [(takeOffer_commits ..).le, le_rfl]
  case h_2 => split; exacts [takeConfirm_commits_le _ _ _ s, le_rfl]
  case h_3 => split; exacts [takeWithdrawOffer_commits_le _ _ s, le_rfl]
  case h_4 => split; exacts [takeVoidSlot_commits_le _ _ s, le_rfl]
  case h_5 => split; exacts [takeActivateReserve_commits_le _ _ _ s, le_rfl]
  case h_6 => split; exacts [(takeReadSlots_commits ..).le, le_rfl]
  case h_7 => split; exacts [(takeScanSlots_commits ..).le, le_rfl]
  case h_8 => exact (takeFetchSettlement_commits s).le

theorem takeBytes_commits_le (p : Port) (code : Nat) (bs : List Byte) (s : State) :
    (takeBytes p code bs s).1.sbk.commits ≤ s.sbk.commits := by
  rw [takeBytes]
  repeat' split
  · exact takeConfigBytes_commits_le p code bs s
  · exact (takeTrainBytes_commits p code bs s).le
  · exact takeTradeBytes_commits_le code bs s
  · rw [takeReadBytes_sbk]

/-- A placed answer, or none yet, is no work of a block. -/
theorem placeTaken_sbk (p : Port) (form : Answer → List Byte) (t : Taken) : (placeTaken p form t).sbk = t.1.sbk := by
  rw [placeTaken]
  split <;> rfl

theorem takeAt_commits_le {p : Port} {code : Nat} {take : State → Taken} (s : State)
    (h : ∀ u : State, (take u).1.sbk.commits ≤ u.sbk.commits) : (takeAt p code take s).sbk.commits ≤ s.sbk.commits := by
  rw [takeAt]
  split
  · rw [placeTaken_sbk]
    exact h (uncollect p s)
  · exact le_rfl

theorem takeSoFar_commits_le (p : Port) (streamed : Bool) (bytes : List Byte) (s : State) :
    (takeSoFar p streamed bytes s).sbk.commits ≤ s.sbk.commits := by
  unfold takeSoFar
  split
  case h_1 => exact le_rfl
  case h_2 b rest =>
    split
    · rw [takeStreamCollected]
      split
      · rw [placeTaken_sbk]
        exact (takeStreamed_commits p b _ (uncollect p s)).le
      · exact le_rfl
    · rw [takeCollected]
      split
      · exact takeAt_commits_le s (takeBytes_commits_le p b.toNat rest)
      · exact le_rfl

theorem firstByte_commits_le (p : Port) (b : Byte) (s : State) : (firstByte p b s).sbk.commits ≤ s.sbk.commits := by
  rw [firstByte]
  repeat' split
  exacts [takeSoFar_commits_le p _ _ s, le_rfl, le_rfl, takeSoFar_commits_le p _ _ s, le_rfl]

theorem resultByte_commits_le (p : Port) (slot : Nat) (b : Byte) (s : State) :
    (resultByte p slot b s).sbk.commits ≤ s.sbk.commits := by
  rw [resultByte]
  repeat' split
  exacts [takeAt_commits_le s fun _ => le_rfl, le_rfl, le_rfl]

theorem clockByte_commits_le (p : Port) (s : State) (b : Byte) : (clockByte p s b).sbk.commits ≤ s.sbk.commits := by
  rw [clockByte]
  split
  · change _ ≤ (addSlots p 1 s).sbk.commits
    simp only [receiveByte]
    split
    exacts [firstByte_commits_le p b _, takeSoFar_commits_le p _ _ _, le_rfl, resultByte_commits_le p _ b _]
  · exact le_rfl

theorem clockBytes_commits_le (p : Port) (bytes : List Byte) (s : State) :
    (clockBytes p bytes s).sbk.commits ≤ s.sbk.commits := foldl_commits_le (clockByte_commits_le p) bytes s

/-! ## The instrument line (R41, R63, R157, R161) -/

@[simp] theorem handMeasurement_commits (src : Source) (v : Nat) (valid : Validity) (s : State) :
    (handMeasurement src v valid s).sbk.commits = s.sbk.commits := by
  have hpressure (c : Cavern) : (takePressure c v valid s).sbk.commits = s.sbk.commits := by
    rw [takePressure, plantEvent_commits]
    dsimp only
    split <;> simp
  have htemperature (c : Cavern) : (takeTemperature c v valid s).sbk.commits = s.sbk.commits := by
    rw [takeTemperature, plantEvent_commits]
    dsimp only
    split <;> simp
  have htop (st : Store) : (takeTop st v valid s).sbk.commits = s.sbk.commits := by
    rw [takeTop, plantEvent_commits]
    dsimp only
    split <;> simp
  cases src
  exacts [hpressure _, htemperature _, hpressure _, htemperature _, htop _, htop _]

theorem takeChar_commits (s : State) (c : Byte) : (takeChar s c).sbk.commits = s.sbk.commits := by
  have haccept (src : Source) (raw : Nat) (status seq : Byte) (u : State) :
      (acceptFrame src raw status seq u).sbk.commits = u.sbk.commits := by
    simp only [acceptFrame]
    split <;> simp
  simp only [takeChar, takeFrame]
  repeat' split
  all_goals simp [haccept]

/-! ## Every row -/

theorem live_commits_le {f : State → State} (s : State) (h : ∀ u : State, (f u).sbk.commits ≤ u.sbk.commits) :
    (live f s).sbk.commits ≤ s.sbk.commits := by
  rw [live]
  split
  exacts [le_rfl, h s]

theorem live_commits_of_eq {f : State → State} (s : State) (h : ∀ u : State, (f u).sbk.commits = u.sbk.commits) :
    (live f s).sbk.commits ≤ s.sbk.commits := live_commits_le s fun u => (h u).le

theorem command_commits_le {p : Port} {code : Byte} {params : List Byte} {take : State → Taken} (s : State)
    (h : ∀ u : State, (take u).1.sbk.commits ≤ u.sbk.commits) :
    (command p code params take s).sbk.commits ≤ s.sbk.commits := by
  rw [command]
  refine live_commits_le s fun u => ?_
  split
  · exact takeAt_commits_le (addSlots p (1 + params.length) u) h
  · exact clockBytes_commits_le p _ u

theorem command_commits_of_eq {p : Port} {code : Byte} {params : List Byte} {take : State → Taken} (s : State)
    (h : ∀ u : State, (take u).1.sbk.commits = u.sbk.commits) :
    (command p code params take s).sbk.commits ≤ s.sbk.commits := command_commits_le s fun u => (h u).le

theorem command_commits_of_sbk {p : Port} {code : Byte} {params : List Byte} {take : State → Taken} (s : State)
    (h : ∀ u : State, (take u).1.sbk = u.sbk) : (command p code params take s).sbk.commits ≤ s.sbk.commits :=
  command_commits_of_eq s fun u => congrArg Sbk.commits (h u)

theorem streamedCommand_commits_le (p : Port) (b : Byte) (x : ReportFields) (s : State) :
    (streamedCommand p b x s).sbk.commits ≤ s.sbk.commits := by
  rw [streamedCommand]
  refine live_commits_le s fun u => ?_
  split
  · rw [placeTaken_sbk]
    exact (takeStreamed_commits p b x (uncollect p (addSlots p 22 u))).le
  · exact clockBytes_commits_le p _ u

theorem afterReset_commits_le (pins : Pins) (now : Nat) (waiting : List Instr) (s : State) :
    (State.afterReset pins now waiting).sbk.commits ≤ s.sbk.commits := by
  refine commits_le_iff.2 fun n hn => ?_
  rw [slot_of_mod_eq (m := n % 96) rfl (by simp), afterReset_slot pins now waiting (Nat.mod_lt n (by decide))] at hn
  cases hn

/-- Of all rows the completion of a CONFIRM walk alone can commit a slot. -/
theorem exec_commits_le {c : Instr} (hc : c ≠ .confirmWalkCompletion) (s : State) :
    ∃ t, exec c s = .next t ∧ t.sbk.commits ≤ s.sbk.commits := by
  cases c
  case readIdentity => exact ⟨_, rfl, command_commits_of_eq s fun _ => rfl⟩
  case setCavern => exact ⟨_, rfl, command_commits_of_eq s (takeSetCavern_commits _ _ _ _ _ _ _)⟩
  case setStore => exact ⟨_, rfl, command_commits_of_eq s (takeSetStore_commits _ _ _ _ _ _ _)⟩
  case setTrain => exact ⟨_, rfl, command_commits_of_eq s (takeSetTrain_commits _ _ _ _ _ _ _)⟩
  case setFigures => exact ⟨_, rfl, command_commits_of_eq s (takeSetFigures_commits _ _ _ _ _ _ _ _ _ _ _)⟩
  case setTiming => exact ⟨_, rfl, command_commits_of_eq s (takeSetTiming_commits _ _ _ _ _ _ _)⟩
  case setArithMode => exact ⟨_, rfl, command_commits_of_eq s (takeSetArithMode_commits _ _)⟩
  case setLockEnable => exact ⟨_, rfl, command_commits_of_eq s (takeSetLockEnable_commits _)⟩
  case loadInventoryCavern => exact ⟨_, rfl, command_commits_of_eq s (takeLoadCavern_commits _ _ _)⟩
  case loadInventoryStore => exact ⟨_, rfl, command_commits_of_eq s (takeLoadStore_commits _ _ _ _)⟩
  case setTime => exact ⟨_, rfl, command_commits_le s (takeSetTime_commits_le _ _)⟩
  case declareReady => exact ⟨_, rfl, command_commits_of_eq s (takeDeclareReady_commits _)⟩
  case withdraw => exact ⟨_, rfl, command_commits_le s (takeWithdraw_commits_le _)⟩
  case park => exact ⟨_, rfl, command_commits_le s (takePark_commits_le _)⟩
  case setReserveBand => exact ⟨_, rfl, command_commits_of_eq s (takeSetReserveBand_commits _ _ _)⟩
  case requestRun => exact ⟨_, rfl, command_commits_of_eq s (takeRequestRun_commits _ _ _ _)⟩
  case release => exact ⟨_, rfl, command_commits_of_eq s (takeRelease_commits _ _)⟩
  case runReport => exact ⟨_, rfl, command_commits_of_eq s (takeRunReport_commits _ _ _)⟩
  case readTrain => exact ⟨_, rfl, command_commits_of_eq s (takeReadTrain_commits _)⟩
  case clearTrip => exact ⟨_, rfl, command_commits_of_eq s (takeClearTrip_commits _ _)⟩
  case clearDerate => exact ⟨_, rfl, command_commits_of_eq s (takeClearDerate_commits _ _)⟩
  case discardTop => exact ⟨_, rfl, command_commits_of_eq s (takeDiscardTop_commits _)⟩
  case offer => exact ⟨_, rfl, command_commits_of_eq s (takeOffer_commits _ _ _ _ _)⟩
  case confirm => exact ⟨_, rfl, command_commits_le s (takeConfirm_commits_le _ _ _)⟩
  case withdrawOffer => exact ⟨_, rfl, command_commits_le s (takeWithdrawOffer_commits_le _ _)⟩
  case voidSlot => exact ⟨_, rfl, command_commits_le s (takeVoidSlot_commits_le _ _)⟩
  case activateReserve => exact ⟨_, rfl, command_commits_le s (takeActivateReserve_commits_le _ _ _)⟩
  case readSlots => exact ⟨_, rfl, command_commits_of_eq s (takeReadSlots_commits _ _ _)⟩
  case scanSlots => exact ⟨_, rfl, command_commits_of_eq s (takeScanSlots_commits _ _ _ _ _ _)⟩
  case fetchSettlement => exact ⟨_, rfl, command_commits_of_eq s takeFetchSettlement_commits⟩
  case readCavern => exact ⟨_, rfl, command_commits_of_sbk s (takeReadCavern_sbk _ _)⟩
  case readStore => exact ⟨_, rfl, command_commits_of_sbk s (takeReadStore_sbk _)⟩
  case readPosition => exact ⟨_, rfl, command_commits_of_sbk s takeReadPosition_sbk⟩
  case readArith => exact ⟨_, rfl, command_commits_of_sbk s fun _ => rfl⟩
  case clearArith => exact ⟨_, rfl, command_commits_of_sbk s fun _ => rfl⟩
  case readTime => exact ⟨_, rfl, command_commits_of_sbk s fun _ => rfl⟩
  case fetchEvent => exact ⟨_, rfl, command_commits_of_sbk s (takeFetchEvent_sbk _)⟩
  case setEventMask => exact ⟨_, rfl, command_commits_of_sbk s (takeSetEventMask_sbk _ _)⟩
  case portReset => exact ⟨_, rfl, command_commits_of_sbk s fun _ => rfl⟩
  case unknownCommandCode => exact ⟨_, rfl, live_commits_le s (clockBytes_commits_le _ _)⟩
  case streamedReport => exact ⟨_, rfl, streamedCommand_commits_le _ _ _ s⟩
  case escapeByte => exact ⟨_, rfl, live_commits_le s (clockBytes_commits_le _ _)⟩
  case frameEnd => exact ⟨_, rfl, live_commits_le s (clockBytes_commits_le _ _)⟩
  case selectFall => exact ⟨_, rfl, live_commits_of_eq s fun _ => rfl⟩
  case presentFall p =>
    refine ⟨_, rfl, ?_⟩
    split
    exacts [live_commits_le (setPresentPin p false s) (takePresentFall_commits_le p), le_rfl]
  case presentRise p =>
    refine ⟨_, rfl, ?_⟩
    split
    exacts [le_rfl, live_commits_of_eq (setPresentPin p true s) fun u => by simp]
  case resetFall => refine ⟨_, rfl, ?_⟩; split <;> exact le_rfl
  case resetRise =>
    refine ⟨_, rfl, ?_⟩
    split
    exacts [afterReset_commits_le _ _ _ s, le_rfl]
  case pinChange code rsvtb =>
    refine ⟨_, rfl, live_commits_of_eq { s with pins := { s.pins with rsv := code, rsvtb := rsvtb } } fun u => ?_⟩
    split
    exacts [rfl, takePinChange_commits ..]
  case envlockChange => exact ⟨_, rfl, le_rfl⟩
  case tpulseEdge now => exact ⟨_, rfl, live_commits_le s (takeEdge_commits_le now)⟩
  case holdoverEntry now => exact ⟨_, rfl, live_commits_le s (takeHoldover_commits_le now)⟩
  case holdoverAdvance now => exact ⟨_, rfl, live_commits_le s (takeHoldoverSecond_commits_le now)⟩
  case stagingLeadEvent => exact ⟨_, rfl, live_commits_of_eq s takeStaging_commits⟩
  case boundary => exact ⟨_, rfl, live_commits_le s takeBoundary_commits_le⟩
  case instrumentFrame chars => exact ⟨_, rfl, live_commits_of_eq s (foldl_commits takeChar_commits chars)⟩
  case lineIdleGap => exact ⟨_, rfl, live_commits_of_eq s fun _ => rfl⟩
  case framingError => exact ⟨_, rfl, live_commits_of_eq s fun _ => rfl⟩
  case sourceStale src => exact ⟨_, rfl, live_commits_of_eq s fun u => by simp⟩
  case agingPass => exact ⟨_, rfl, live_commits_of_eq s takeAging_commits⟩
  case offerExpiry j => exact ⟨_, rfl, live_commits_le s fun u => takeExpiry_commits_le u j⟩
  case lateRung tr => exact ⟨_, rfl, live_commits_of_eq s fun u => by simp⟩
  case overdueRung tr => exact ⟨_, rfl, live_commits_of_eq s (takeOverdue_commits tr)⟩
  case lostRung tr => exact ⟨_, rfl, live_commits_of_eq s (takeLost_commits tr)⟩
  case walkStart => exact ⟨_, rfl, live_commits_of_eq s fun u => by simp⟩
  case offerWalkCompletion => exact ⟨_, rfl, live_commits_le s completeOffer_commits_le⟩
  case confirmWalkCompletion => exact absurd rfl hc
  case recheckWalkCompletion => exact ⟨_, rfl, live_commits_of_eq s completeFlownRecheck_commits⟩

/-- Settles O59: every other row leads to a part whose COMMITTED slots are among those that were COMMITTED. -/
theorem onlyConfirmCommits : Obligations.OnlyConfirmCommits := by
  intro c s t h ⟨n, hcommitted, hbefore⟩
  by_contra hc
  obtain ⟨u, hu, hle⟩ := exec_commits_le hc s
  obtain rfl : u = t := Host.Outcome.next.inj (hu.symm.trans h)
  exact hbefore (commits_le_iff.1 hle n hcommitted)

end Sys2Proof.Machine
end

section
/-! PROOFS. Captures alone, and what a free engine takes up and WALK_START captures (O44). -/

namespace Sys2Proof.Machine

/-! ## Captures alone (R20 to R22) -/

/-- Nothing but captures: records that join the queues, the sticky flag and the capture record. -/
structure CapturesOnly (s u : State) : Prop where
  joins : EventsOnlyJoin s u
  arith : ArithKept s u
  frame : u = { s with evr := u.evr, arith := u.arith }

namespace CapturesOnly

theorem refl (s : State) : CapturesOnly s s := ⟨.of_eq rfl, rfl, rfl⟩

theorem trans {a b c : State} (h : CapturesOnly a b) (k : CapturesOnly b c) : CapturesOnly a c :=
  ⟨h.joins.trans k.joins, h.arith.trans k.arith, k.frame.trans (by rw [h.frame])⟩

theorem foldl {α : Type} {f : State → α → State} (hf : ∀ s x, CapturesOnly s (f s x)) (l : List α) (s : State) :
    CapturesOnly s (l.foldl f s) := by
  induction l generalizing s with
  | nil => exact refl s
  | cons x l ih => exact (hf s x).trans (ih (f s x))

theorem capture (code : ExcCode) (source : ExcSource) (subject : Subject) (slot : Option Nat) (s : State) :
    CapturesOnly s (capture code source subject slot s) where
  joins := capture_joins code source subject slot s
  arith := by
    simp only [Machine.capture, ArithKept]
    split <;> simp
  frame := by
    simp only [Machine.capture]
    split <;> rfl

theorem raise (exc : Option ExcCode) (source : ExcSource) (subject : Subject) (s : State) :
    CapturesOnly s (raise exc source subject s) := by
  simp only [Machine.raise]
  repeat' split
  exacts [capture .., refl s, refl s]

theorem raiseWalk (b : Base) (candidate : Option Nat) (s : State) (x : Option ExcCode × Nat) :
    CapturesOnly s (raiseWalk b candidate s x) := by
  simp only [Machine.raiseWalk]
  repeat' split
  exacts [capture .., refl s, refl s]

variable {s u : State} (h : CapturesOnly s u)
include h

/-- A capture is no figure of a base, nor of the trap (R96). -/
theorem base : readBase u = readBase s ∧ undefinedAt u = undefinedAt s := by
  rw [h.frame, h.arith]
  exact ⟨rfl, rfl⟩

theorem blocks : u.sbk = s.sbk ∧ u.pen = s.pen ∧ u.dsu = s.dsu ∧ u.ciu = s.ciu ∧ u.hsu = s.hsu ∧ u.svc = s.svc ∧
    u.pck = s.pck ∧ u.spi = s.spi := by
  rw [h.frame]
  exact ⟨rfl, rfl, rfl, rfl, rfl, rfl, rfl, rfl⟩

end CapturesOnly

/-- The capture record after a capture (R22). -/
theorem capture_record (code : ExcCode) (source : ExcSource) (subject : Subject) (slot : Option Nat) (s : State) :
    (capture code source subject slot s).arith.sticky = true ∧
      (capture code source subject slot s).arith.capture = some ⟨code, source, subject, slot⟩ := by
  simp only [capture]
  split <;> simp

/-! ## The base capture of a walk (R94, R96, R104) -/

theorem Pen.takeUp_takeUp (x : Pen) : x.takeUp.takeUp = x.takeUp := by
  by_cases h : x.takeUp.flight.isSome
  · exact Pen.takeUp_busy _ h
  · obtain ⟨hflag, hwaiting⟩ := Pen.takeUp_settled x (by simpa using h)
    exact Pen.takeUp_nothing _ hflag hwaiting

/-- An UNDEFINED, once captured, ends a walk: a request with an answer, a recheck without one (R96, R103). -/
def undefinedEnd (request : Option Request) (restart : Bool) (u : State) : State :=
  if request.isSome then endWalk { code := .arith, stale := restart } u else freeEngine u

theorem launch_eq (request : Option Request) (restart : Bool) (s : State) : launch request restart s =
    if Request.overtaken s.sbk.current request then endWalk (.bare .lapsed) s
    else match undefinedAt s with
      | some subject =>
        undefinedEnd request restart (capture .undefined .walk subject (request.map Request.interval) s)
      | none => setFlight (some ⟨request, some (readBase s), restart⟩) s := by
  cases request with
  | none => rfl
  | some r => cases r <;> rfl

section Launch
variable {s u : State} {request : Option Request}

theorem launch_overtaken (restart : Bool) (h : Request.overtaken s.sbk.current request = true) :
    launch request restart s = endWalk (.bare .lapsed) s := by
  rw [launch_eq, if_pos h]

theorem launch_undefined (restart : Bool) (h : Request.overtaken s.sbk.current request = false) {subject : Subject}
    (hu : undefinedAt s = some subject) : launch request restart s =
      undefinedEnd request restart (capture .undefined .walk subject (request.map Request.interval) s) := by
  rw [launch_eq, h, hu]
  rfl

theorem launch_flies (restart : Bool) (h : Request.overtaken s.sbk.current request = false)
    (hu : undefinedAt s = none) : launch request restart s =
      { s with pen := { s.pen with flight := some ⟨request, some (readBase s), restart⟩ } } := by
  rw [launch_eq, h, hu]
  rfl

theorem endWalk_otherPorts (a : Answer) (s : State) : OtherPorts .t s (endWalk a s) := fun q hq =>
  (State.modPort_port (dropWalk s) .t q _).trans (if_neg hq)

/-- The walk of a request is over, and its answer placed (R94, R103). -/
theorem endWalk_freed {r : Request} {b : Option Base} {re : Bool} (hf : s.pen.flight = some ⟨some r, b, re⟩)
    (a : Answer) : EngineFreed (some r) s (endWalk a s) := by
  have hpen : (endWalk a s).pen = Pen.takeUp { s.pen with
      waiting := none
      flight := if (s.pen.flight.bind Flight.request).isSome then none else s.pen.flight } := rfl
  rw [EngineFreed, hpen, hf]
  rfl

theorem overtaken_isSome {k : Nat} (h : Request.overtaken k request = true) : ∃ r, request = some r := by
  cases request with
  | none => cases h
  | some r => exact ⟨r, rfl⟩

theorem undefinedEnd_effect {b : Option Base} {re : Bool} (hf : s.pen.flight = some ⟨request, b, re⟩)
    (restart : Bool) : EngineFreed request s (undefinedEnd request restart s) ∧
      OtherPorts .t s (undefinedEnd request restart s) ∧
      (undefinedEnd request restart s).evr = s.evr ∧ (undefinedEnd request restart s).arith = s.arith ∧
      (request.isSome = true → Answers .t { code := .arith, stale := restart } (undefinedEnd request restart s)) ∧
      (request = none → (undefinedEnd request restart s).spi = s.spi) := by
  cases request with
  | none => exact ⟨rfl, fun _ _ => rfl, rfl, rfl, nofun, fun _ => rfl⟩
  | some r => exact ⟨endWalk_freed hf _, endWalk_otherPorts _ s, rfl, rfl, fun _ => endWalk_answers _ s, nofun⟩

/-- The base capture of a walk in flight (R96, R103, R104). -/
theorem launch_captured {b : Option Base} {re : Bool} (hf : s.pen.flight = some ⟨request, b, re⟩) (restart : Bool) :
    BaseCaptured request restart s (launch request restart s) := by
  have hrest : launch request restart s = { s with
      spi := (launch request restart s).spi, evr := (launch request restart s).evr
      arith := (launch request restart s).arith, pen := (launch request restart s).pen } := by
    obtain ⟨hpins, hilr, hpck, hciu, hhsu, hsbk, hdsu, hsvc, hpending⟩ := launch_frame request restart s
    rw [← hpins, ← hilr, ← hpck, ← hciu, ← hhsu, ← hsbk, ← hdsu, ← hsvc, ← hpending]
  cases ho : Request.overtaken s.sbk.current request with
  | true =>
    obtain ⟨r, rfl⟩ := overtaken_isSome ho
    rw [launch_overtaken restart ho] at hrest ⊢
    exact ⟨hrest, endWalk_otherPorts _ s, rfl, .of_eq rfl, fun _ => ⟨endWalk_freed hf _, endWalk_answers _ s⟩,
      fun h => absurd (ho.symm.trans h) nofun, fun h => absurd (ho.symm.trans h) nofun⟩
  | false =>
    cases hu : undefinedAt s with
    | none =>
      rw [launch_flies restart ho hu] at hrest ⊢
      exact ⟨hrest, fun _ _ => rfl, rfl, .of_eq rfl, fun h => absurd (ho.symm.trans h) nofun,
        fun _ x hx => absurd (hu.symm.trans hx) nofun, fun _ _ => ⟨rfl, rfl⟩⟩
    | some subject =>
      have hcaptured := CapturesOnly.capture .undefined .walk subject (request.map Request.interval) s
      obtain ⟨hsticky, hrecord⟩ := capture_record .undefined .walk subject (request.map Request.interval) s
      rw [launch_undefined restart ho hu] at hrest ⊢
      generalize capture .undefined .walk subject (request.map Request.interval) s = u at *
      obtain ⟨-, hpen, -, -, -, -, -, hspi⟩ := hcaptured.blocks
      obtain ⟨hfreed, hports, hevr, harith, hanswer, hquiet⟩ := undefinedEnd_effect (hpen ▸ hf) restart
      rw [EngineFreed, hpen] at hfreed
      refine ⟨hrest, fun q hq => ?_, hcaptured.arith.trans (by rw [ArithKept, harith]),
        hcaptured.joins.trans (.of_eq hevr), fun h => absurd (ho.symm.trans h) nofun, fun _ x hx => ?_,
        fun _ h => absurd (hu.symm.trans h) nofun⟩
      · rw [hports q hq, State.port, hspi]
        rfl
      · obtain rfl : subject = x := Option.some.inj (hu.symm.trans hx)
        exact ⟨hfreed, harith ▸ hsticky, harith ▸ hrecord, hanswer, fun h => (hquiet h).trans hspi⟩

/-- Captures before it leave what a base capture does as it is. -/
theorem BaseCaptured.of_captures {restart : Bool} {t : State} (h : CapturesOnly s u)
    (k : BaseCaptured request restart u t) : BaseCaptured request restart s t := by
  obtain ⟨hrest, hports, harith, hjoins, hlapsed, hundefined, hflies⟩ := k
  obtain ⟨hsbk, hpen, -, -, -, -, -, hspi⟩ := h.blocks
  obtain ⟨hbase, hat⟩ := h.base
  rw [hsbk] at hlapsed hundefined hflies
  rw [hat] at hundefined hflies
  rw [EngineFreed, hpen] at hlapsed
  simp only [EngineFreed, hpen, hspi] at hundefined
  rw [hpen, hspi, hbase] at hflies
  refine ⟨hrest.trans (by rw [h.frame]), fun q hq => ?_, h.arith.trans harith, h.joins.trans hjoins, hlapsed,
    hundefined, hflies⟩
  rw [hports q hq, State.port, hspi]
  rfl

end Launch

/-! ## WALK_START (R94, R96; log 7) -/

theorem exec_walkStart {s : State} (h : s.pins.resetLow = false) : exec .walkStart s = .next (startWalk s) := by
  have hexec : exec .walkStart s = .next (live startWalk s) := rfl
  rw [hexec, live, if_neg (by simp [h])]

/-- The walk that the engine has taken up captures its base. -/
theorem startWalk_captures {s : State} {request : Option Request} {restart : Bool}
    (h : s.pen.takeUp.flight = some ⟨request, none, restart⟩) :
    startWalk s = launch request restart { s with pen := s.pen.takeUp } := by
  simp only [startWalk, h]

theorem startWalk_flying {s : State} {request : Option Request} {b : Base} {restart : Bool}
    (h : s.pen.flight = some ⟨request, some b, restart⟩) : startWalk s = s := by
  simp [startWalk, h]

theorem startWalk_takeUp (s : State) : startWalk s = startWalk { s with pen := s.pen.takeUp } := by
  simp only [startWalk, Pen.takeUp_takeUp]

theorem startWalk_nothing {s : State} (hfree : s.pen.flight = none) (hflag : s.pen.recheckFlag = false)
    (hwaiting : s.pen.waiting = none) : startWalk s = s := by
  simp [startWalk, Pen.takeUp_nothing s.pen hflag hwaiting, hfree]

/-- A walk taken up where no figure raises UNDEFINED flies on the base as it stands. -/
theorem startWalk_flies {s : State} {request : Option Request} (hu : undefinedAt s = none)
    (h : s.pen.takeUp.flight = some ⟨request, none, false⟩) (ho : Request.overtaken s.sbk.current request = false) :
    startWalk s = { s with pen := { s.pen.takeUp with flight := some ⟨request, some (readBase s), false⟩ } } := by
  have hbase : readBase { s with pen := s.pen.takeUp } = readBase s := by
    simp only [readBase, Pen.takeUp_generation]
    rfl
  rw [startWalk_captures h, launch_flies (s := { s with pen := s.pen.takeUp }) false ho hu, hbase]

/-- Settles O44: WALK_START is the base capture of the walk that `Pen.takeUp` gives the engine. -/
theorem walkStarts : Obligations.WalkStarts := by
  refine ⟨fun x => ⟨x.takeUp_busy, x.takeUp_recheck, fun r => x.takeUp_request r, fun _ => x.takeUp_nothing⟩,
    fun s hreset => ⟨fun request restart hf => ?captures, fun request b restart hf => ?flying, fun _ => ?taken,
      fun hfree hflag hwaiting => ?nothing, fun hfree hu => ⟨fun hflag => ?recheck, fun hflag r hr ho => ?request⟩⟩⟩
  case captures =>
    have hbusy : s.pen.takeUp = s.pen := s.pen.takeUp_busy (by rw [hf]; rfl)
    have hlaunch : startWalk s = launch request restart s := by
      rw [startWalk_captures (by rw [hbusy, hf]), hbusy]
    refine ⟨launch request restart s, by rw [exec_walkStart hreset, hlaunch], launch_captured hf restart, fun h => ?_⟩
    cases ho : Request.overtaken s.sbk.current request with
    | true => rw [launch_overtaken restart ho]; exact ⟨rfl, rfl⟩
    | false => rw [launch_flies restart ho (h.resolve_right (by simp [ho]))]; exact ⟨rfl, rfl⟩
  case flying => rw [exec_walkStart hreset, startWalk_flying hf]
  case taken => rw [exec_walkStart hreset, startWalk_takeUp, exec_walkStart (by exact hreset)]
  case nothing => rw [exec_walkStart hreset, startWalk_nothing hfree hflag hwaiting]
  case recheck =>
    have htaken := s.pen.takeUp_recheck hfree hflag
    rw [exec_walkStart hreset, startWalk_flies hu (by rw [htaken]) rfl, htaken]
  case request =>
    have htaken := s.pen.takeUp_request r hfree hflag hr
    rw [exec_walkStart hreset, startWalk_flies hu (by rw [htaken]) ho, htaken]

end Sys2Proof.Machine
end

section
/-! PROOFS. READ POSITION, and the taking of OFFER and CONFIRM (O7, O32). -/

namespace Sys2Proof.Machine

/-! ## Presences, and captures over another port interface (R166, R176) -/

/-- A port differs alone, and every presence stands. -/
structure PresenceKept (p : Port) (s u : State) : Prop where
  only : OnlyPort p s u
  presence : ∀ q, u.presence q = s.presence q

theorem uncollect_presenceKept (p : Port) (n : Nat) (s : State) : PresenceKept p s (uncollect p (addSlots p n s)) :=
  ⟨uncollect_onlyPort p n s, fun q => uncollect_addSlots_presence p q n s⟩

/-- What is captured depends on the ports by their presences alone. -/
theorem capture_withSpi (code : ExcCode) (source : ExcSource) (subject : Subject) (slot : Option Nat) {s : State}
    {x : Spi} (h : ∀ q, (x.get q).presence = (s.spi.get q).presence) :
    capture code source subject slot { s with spi := x } = { capture code source subject slot s with spi := x } := by
  obtain ⟨hc, he, ht⟩ : x.c.presence = s.spi.c.presence ∧ x.e.presence = s.spi.e.presence ∧
      x.t.presence = s.spi.t.presence := ⟨h .c, h .e, h .t⟩
  simp only [capture]
  split
  · rfl
  · simp only [emit, State.route, hc, he, ht]

theorem raise_withSpi (exc : Option ExcCode) (source : ExcSource) (subject : Subject) {s : State} {x : Spi}
    (h : ∀ q, (x.get q).presence = (s.spi.get q).presence) :
    raise exc source subject { s with spi := x } = { raise exc source subject s with spi := x } := by
  simp only [raise]
  repeat' split
  exacts [capture_withSpi _ _ _ _ h, rfl, rfl]

/-! ## READ POSITION (R116, R21, R22) -/

theorem exec_readPosition (p : Port) (s : State) :
    exec (.readPosition p) s = .next (command p 0x32 [] takeReadPosition s) := rfl

/-- The captures of READ POSITION: those of the two standing powers, generation first, after the first SET FIGURES. -/
def positionRaised (s : State) : State :=
  if s.svc.figuresSet then raise (standingChg s).exc .walk .nothing (raise (standingGen s).exc .walk .nothing s) else s

theorem takeReadPosition_eq (s : State) : takeReadPosition s = (positionRaised s, some (.done (positionBody s))) := rfl

theorem positionRaised_captures (s : State) : CapturesOnly s (positionRaised s) := by
  rw [positionRaised]
  split
  exacts [(CapturesOnly.raise ..).trans (.raise ..), .refl s]

/-- No figure of the position is at a port. -/
theorem position_withSpi (s : State) (x : Spi) : standingGen { s with spi := x } = standingGen s ∧
    standingChg { s with spi := x } = standingChg s ∧ positionBody { s with spi := x } = positionBody s :=
  ⟨rfl, rfl, rfl⟩

theorem positionRaised_withSpi {s : State} {x : Spi} (h : ∀ q, (x.get q).presence = (s.spi.get q).presence) :
    positionRaised { s with spi := x } = { positionRaised s with spi := x } := by
  obtain ⟨hgen, hchg, -⟩ := position_withSpi s x
  have hspi : (raise (standingGen s).exc .walk .nothing s).spi = s.spi := by simp
  simp only [positionRaised, hgen, hchg]
  split
  · rw [raise_withSpi _ _ _ h, raise_withSpi _ _ _ (by rwa [hspi])]
  · rfl

/-- The reverse form of A6 overflows or is exact (R1, R10). -/
theorem heatPower_exc (b : Base) (heat q y : Nat) :
    (heatPower b heat q y).exc = none ∨ (heatPower b heat q y).exc = some .overflow := by
  simp only [heatPower, massForHeat, saturate]
  split
  exacts [.inr rfl, .inl rfl]

theorem raise_unnoticed {exc : Option ExcCode} {s : State} (hexc : exc = none ∨ exc = some .overflow)
    (h : s.arith.overflowNotice = false) (source : ExcSource) (subject : Subject) :
    raise exc source subject s = s := by
  obtain rfl | rfl := hexc
  · rfl
  · simp [raise, Arith.enabled, h]

theorem positionRaised_unnoticed {s : State} (h : s.arith.overflowNotice = false) : positionRaised s = s := by
  have hgen := heatPower_exc (positionBase s) (positionBase s).heat s.svc.figures.qx s.svc.figures.yGen
  have hchg := heatPower_exc (positionBase s) (positionBase s).free s.svc.figures.qc s.svc.figures.yChg
  change (standingGen s).exc = none ∨ (standingGen s).exc = some .overflow at hgen
  change (standingChg s).exc = none ∨ (standingChg s).exc = some .overflow at hchg
  rw [positionRaised, raise_unnoticed hgen h, raise_unnoticed hchg h, ite_self]

/-- Settles O7: READ POSITION answers over the captures of the two standing powers, which the state of the port does
not touch. -/
theorem readPositionAnswer : Obligations.ReadPositionAnswer := by
  intro p s h
  have hport := uncollect_presenceKept p (1 + ([] : List Byte).length) s
  have htaken : takeReadPosition (uncollect p (addSlots p (1 + ([] : List Byte).length) s)) =
      ({ positionRaised s with spi := (uncollect p (addSlots p (1 + ([] : List Byte).length) s)).spi },
        some (.done (positionBody s))) := by
    rw [takeReadPosition_eq, hport.only.1, positionRaised_withSpi (fun q => hport.presence q),
      (position_withSpi s _).2.2]
  refine ⟨_, exec_readPosition p s, ?_⟩
  rw [command_answered h rfl htaken]
  have hcaptures := positionRaised_captures s
  refine ⟨placeNow_answers p _ _, ?_, fun q hq => (placeNow_otherPorts p _ _ q hq).trans (hport.only.2 q hq),
    hcaptures.arith, hcaptures.joins, fun hfigures => ?_, fun hnotice => ?_, fun hfigures => ?_⟩
  · rw [hcaptures.frame]
    rfl
  · have hunset : positionRaised s = s := if_neg (by simp [hfigures])
    rw [hunset]
    exact ⟨rfl, rfl⟩
  · rw [positionRaised_unnoticed hnotice]
    exact ⟨rfl, rfl⟩
  · have hset : positionRaised s =
        raise (standingChg s).exc .walk .nothing (raise (standingGen s).exc .walk .nothing s) := if_pos hfigures
    rw [← hset]
    exact ⟨rfl, rfl⟩

/-! ## OFFER and CONFIRM (R94, R104, R106) -/

theorem exec_offer (p : Port) (i n up down ref : BitVec 32) (s : State) : exec (.offer p i n up down ref) s =
    .next (command p 0x20 (putBE 4 i.toNat ++ putBE 4 n.toNat ++ putBE 4 up.toNat ++ putBE 4 down.toNat ++
      putBE 4 ref.toNat) (takeOffer i n up down ref) s) := rfl

theorem exec_confirm (p : Port) (i : BitVec 32) (seq : Byte) (v : BitVec 32) (s : State) :
    exec (.confirm p i seq v) s = .next (command p 0x21 (putBE 4 i.toNat ++ [seq] ++ putBE 4 v.toNat)
      (takeConfirm i seq v) s) := rfl

/-- A command that waits for the engine leaves its port EXECUTING, and touches the engine alone. -/
theorem command_requestTaken {s : State} (h : Ready .t s) {code : Byte} {params : List Byte} {take : State → Taken}
    {r : Request} (hp : admits code.toNat .t = true)
    (ht : ∀ u : State, PresenceKept .t s u → take u = awaitEngine r u) :
    RequestTaken r s (command .t code params take s) := by
  have hport := uncollect_presenceKept .t (1 + params.length) s
  rw [command_ready h, takeAt_admitted hp, ht _ hport]
  generalize uncollect .t (addSlots .t (1 + params.length) s) = u at hport
  have htaken : (placeTaken .t Answer.full (awaitEngine r u)).pen = Pen.takeUp { s.pen with waiting := some r } := by
    rw [hport.only.1]
    rfl
  refine ⟨by simp [placeTaken, awaitEngine], fun q hq => ?_, ?_, fun hbusy => ?_, fun hfree hflag => ?_,
    fun hfree hflag => ?_⟩
  · rw [← hport.only.2 q hq, placeTaken, awaitEngine, State.modPort_port, if_neg hq]
    rfl
  · rw [hport.only.1]
    rfl
  · exact htaken.trans (Pen.takeUp_busy { s.pen with waiting := some r } hbusy)
  · exact htaken.trans (Pen.takeUp_recheck { s.pen with waiting := some r } hfree hflag)
  · exact htaken.trans (Pen.takeUp_request { s.pen with waiting := some r } r hfree hflag rfl)

/-- A command that asks for the presence of its port too, and is refused, only answers. -/
theorem command_refused {s : State} (h : Ready .t s) {code : Byte} {params : List Byte} {take : State → Taken}
    {result : ResultCode} (hp : admits code.toNat .t = true)
    (ht : ∀ u : State, PresenceKept .t s u → take u = refuse result u) :
    Answers .t (.bare result) (command .t code params take s) ∧ OnlyPort .t s (command .t code params take s) := by
  have hu := uncollect_presenceKept .t (1 + params.length) s
  rw [command_answered h hp (ht _ hu)]
  exact ⟨placeNow_answers .t _ _, hu.only.trans (modPort_onlyPort .t _ _)⟩

/-- The figures of an OFFER are in range (R104). -/
def offerInRange (i n up down : BitVec 32) (s : State) : Bool :=
  s.inWindow i.toNat && decide (s.sbk.current < i.toNat) && withinPower n.toInt && decide (up.toNat ≤ 1000000) &&
    decide (down.toNat ≤ 1000000)

theorem offerInRange_iff (i n up down : BitVec 32) (s : State) : offerInRange i n up down s = true ↔
    s.inWindow i.toNat = true ∧ s.sbk.current < i.toNat ∧ -2000000 ≤ n.toInt ∧ n.toInt ≤ 2000000 ∧
      up.toNat ≤ 1000000 ∧ down.toNat ≤ 1000000 := by
  simp only [offerInRange, Bool.and_eq_true, decide_eq_true_eq, withinPower_iff, and_assoc]

/-- What OFFER judges, and in what order: figures that a port does not hold but for its presence (R104). -/
theorem takeOffer_judged {i n up down ref : BitVec 32} {s u : State} (h : PresenceKept .t s u) :
    takeOffer i n up down ref u =
      if s.svc.part ≠ .service ∨ s.presence .t ≠ .declared then refuse .state u
      else if offerInRange i n up down s = false then refuse .range u
      else if (s.slot i.toNat).state ≠ .empty then refuse .state u
      else if heldFor s n.toInt up.toNat down.toNat then refuse .held u
      else awaitEngine (.offer i.toNat n.toInt up.toNat down.toNat ref) u := by
  have hsbk : u.sbk = s.sbk := by rw [h.only.1]
  have hsvc : u.svc = s.svc := by rw [h.only.1]
  have hpen : u.pen = s.pen := by rw [h.only.1]
  have hheld : heldFor u = heldFor s := by unfold heldFor; rw [hpen]
  simp only [takeOffer, offerInRange]
  rw [inWindow_congr hsbk, slot_congr hsbk, h.presence, hsbk, hsvc, hheld]
  rfl

/-- What CONFIRM judges once its slot is identified, and in what order (R106). -/
theorem takeConfirm_judged {i v : BitVec 32} {seq : Byte} {s u : State} (hid : identify i.toNat seq s = .fits)
    (h : PresenceKept .t s u) : takeConfirm i seq v u =
      if s.svc.part ≠ .service ∨ (s.slot i.toNat).state ≠ .offered then refuse .state u
      else if (s.slot i.toNat).offer.map Offered.held ≠ some v.toInt then refuse .mismatch u
      else if heldFor s (s.slot i.toNat).power (s.slot i.toNat).up (s.slot i.toNat).down then refuse .held u
      else awaitEngine (.confirm i.toNat seq v.toInt) u := by
  have hsbk : u.sbk = s.sbk := by rw [h.only.1]
  have hsvc : u.svc = s.svc := by rw [h.only.1]
  have hpen : u.pen = s.pen := by rw [h.only.1]
  have hfits : identify i.toNat seq u = .fits := by
    rw [← hid]
    simp only [identify, inWindow_congr hsbk, slot_congr hsbk]
  have hheld : heldFor u = heldFor s := by unfold heldFor; rw [hpen]
  simp only [takeConfirm, identified, hfits]
  rw [slot_congr hsbk, hsvc, hheld]

/-- Settles O32: OFFER and CONFIRM judge figures of the state before them, in their order, and what passes is left to
the engine. -/
theorem offerAndConfirmWait : Obligations.OfferAndConfirmWait := by
  refine fun s h => ⟨fun i n up down ref => ?offer, fun i seq v hid => ?confirm⟩
  case offer =>
    intro served ranged
    have hrange : ranged ↔ offerInRange i n up down s = true := (offerInRange_iff i n up down s).symm
    have hunserved : ¬served ↔ s.svc.part ≠ .service ∨ s.presence .t ≠ .declared := not_and_or
    refine ⟨fun hs => ⟨_, exec_offer .t i n up down ref s, command_refused h rfl fun u hu => ?_⟩,
      fun hs hr => ⟨_, exec_offer .t i n up down ref s, command_refused h rfl fun u hu => ?_⟩,
      fun hs hr hx => ⟨_, exec_offer .t i n up down ref s, command_refused h rfl fun u hu => ?_⟩,
      fun hs hr hx => ⟨fun hheld => ⟨_, exec_offer .t i n up down ref s, command_refused h rfl fun u hu => ?_⟩,
        fun hheld => ⟨_, exec_offer .t i n up down ref s, command_requestTaken h rfl fun u hu => ?_⟩⟩⟩ <;>
      rw [takeOffer_judged hu]
    · rw [if_pos (hunserved.1 hs)]
    · rw [if_neg (mt hunserved.2 (not_not_intro hs)), if_pos (by simpa using mt hrange.2 hr)]
    · rw [if_neg (mt hunserved.2 (not_not_intro hs)), if_neg (by simp [hrange.1 hr]), if_pos hx]
    · rw [if_neg (mt hunserved.2 (not_not_intro hs)), if_neg (by simp [hrange.1 hr]), if_neg (not_not_intro hx),
        if_pos hheld]
    · rw [if_neg (mt hunserved.2 (not_not_intro hs)), if_neg (by simp [hrange.1 hr]), if_neg (not_not_intro hx),
        if_neg (by simp [hheld])]
  case confirm =>
    refine ⟨fun hs => ⟨_, exec_confirm .t i seq v s, command_refused h rfl fun u hu => ?_⟩, fun hpart hx =>
      ⟨fun hv => ⟨_, exec_confirm .t i seq v s, command_refused h rfl fun u hu => ?_⟩,
        fun hv => ⟨fun hheld => ⟨_, exec_confirm .t i seq v s, command_refused h rfl fun u hu => ?_⟩,
          fun hheld => ⟨_, exec_confirm .t i seq v s, command_requestTaken h rfl fun u hu => ?_⟩⟩⟩⟩ <;>
      rw [takeConfirm_judged hid hu]
    · rw [if_pos hs]
    · rw [if_neg (by simp [hpart, hx]), if_pos hv]
    · rw [if_neg (by simp [hpart, hx]), if_neg (not_not_intro hv), if_pos hheld]
    · rw [if_neg (by simp [hpart, hx]), if_neg (not_not_intro hv), if_neg (by simp [hheld])]

end Sys2Proof.Machine
end

section
/-! PROOFS. What a change of the book hands on; WITHDRAW OFFER, VOID SLOT and ACTIVATE RESERVE (O34, O35). -/

namespace Sys2Proof.Machine

/-! ## The hand-offs of a change of the book (R92, R95, R119) -/

/-- The generation number has advanced, and the Dispatch Unit has answered. -/
structure BookHanded (s t : State) : Prop where
  kept : DispatchKept s t
  pen : t.pen = { s.pen with generation := s.pen.generation + 1 }
  frame : t.pins = s.pins ∧ t.spi = s.spi ∧ t.ilr = s.ilr ∧ t.pck = s.pck ∧ t.arith = s.arith ∧ t.svc = s.svc ∧
    t.pending = s.pending

theorem examineIfAdmitted_kept (before : View) (s : State) : DispatchKept s (examineIfAdmitted before s) :=
  .examineIf ((s.dsu.view.admitsGen && !before.admitsGen) || (s.dsu.view.admitsChg && !before.admitsChg)) s

theorem withView_kept (v : View) (s : State) : DispatchKept s { s with dsu := { s.dsu with view := v } } :=
  .of_eq (.of_eq rfl) rfl (fun tr => by cases tr <;> rfl) rfl rfl

theorem handSlotChange_kept (j : Nat) (s : State) : DispatchKept s (handSlotChange j s) := by
  simp only [handSlotChange]
  repeat' split
  · exact ((withView_kept _ s).trans (.stagedSplit _)).trans (examineIfAdmitted_kept ..)
  · exact .refl s
  · exact .refl s

theorem bumpGeneration_kept (s : State) : DispatchKept s (bumpGeneration s) :=
  .of_eq (.of_eq rfl) rfl (fun _ => rfl) rfl rfl

theorem slotChanged_handed (j : Nat) (s : State) : BookHanded s (slotChanged j s) where
  kept := (bumpGeneration_kept s).trans (handSlotChange_kept j _)
  pen := by rw [slotChanged, (handSlotChange_frame j _).2.2.2.2.2.1, bumpGeneration_pen]
  frame := by simp

theorem handReserve_handed (net : Int) (s : State) : BookHanded s (handReserve net (bumpGeneration s)) where
  kept := (bumpGeneration_kept s).trans
    (((withView_kept _ (bumpGeneration s)).trans (.runSplit ..)).trans (examineIfAdmitted_kept ..))
  pen := by rw [(handReserve_frame net _).2.2.2.2.2.1, bumpGeneration_pen]
  frame := by simp [bumpGeneration]

/-- An event whose last work is handed on. -/
theorem BookHanded.event {s w t : State} (h : BookHanded w t) (hw : PlantEvent s w) : PlantEvent s t where
  joins := hw.joins.trans h.kept.joins
  trains tr := (hw.trains tr).trans (h.kept.trains tr)
  engine := by
    obtain ⟨hpen, hflight⟩ := hw.engine
    rw [EngineKept, h.pen]
    exact ⟨by simp only; rw [hpen], hflight⟩
  arith := by rw [ArithKept, h.frame.2.2.2.2.1]; exact hw.arith
  frame := by
    obtain ⟨hpins, hspi, hilr, hpck, -, hsvc, hpending⟩ := h.frame
    rw [hpins, hspi, hilr, hpck, hsvc, hpending]
    exact hw.frame

/-- The own work of an event of the book: its records, records that join the event queues, and a capture. -/
structure BookWork (s w : State) : Prop where
  event : PlantEvent s w
  sbk : w.sbk = { s.sbk with slots := w.sbk.slots }
  rest : w.pen = s.pen ∧ w.ciu = s.ciu ∧ w.hsu = s.hsu

theorem modSlot_work (j : Nat) (f : Slot → Slot) (s : State) : BookWork s (s.modSlot j f) where
  event := ⟨.of_eq rfl, fun _ => rfl, ⟨rfl, .inl rfl⟩, rfl, ⟨rfl, rfl, rfl, rfl, rfl, rfl⟩⟩
  sbk := rfl
  rest := ⟨rfl, rfl, rfl⟩

/-- The port of a command is no part of what a recheck request is. -/
theorem recheckPosted_placed {p : Port} {s u t : State} (hu : OnlyPort p s u) (bytes : List Byte)
    (h : RecheckPosted u t) : RecheckPosted s (placeNow p bytes t) := by
  have hpen : u.pen = s.pen := by rw [hu.1]
  rw [RecheckPosted, hpen] at h
  exact h

/-! ## A slot written and handed on (R79, R84) -/

/-- A slot is written, and no more than the hand-offs of a slot that is not COMMITTED follow. -/
structure SlotWritten (j : Nat) (f : Slot → Slot) (s t : State) : Prop where
  event : PlantEvent s t
  sbk : t.sbk = (s.modSlot j f).sbk
  generation : t.pen.generation = s.pen.generation + 1
  units : t.ciu = s.ciu ∧ t.hsu = s.hsu ∧ t.arith = s.arith

theorem slotChanged_written {s : State} {j : Nat} {f : Slot → Slot} (hlength : s.sbk.slots.length = 96)
    (h : (f (s.slot j)).state ≠ .committed) : SlotWritten j f s (slotChanged j (s.modSlot j f)) := by
  have hhanded := slotChanged_handed j (s.modSlot j f)
  obtain ⟨-, hciu, hhsu, hsbk, -⟩ := slotChanged_uncommitted (j := j) (s := s.modSlot j f)
    (by rwa [State.modSlot_slot s j j f hlength, if_pos rfl])
  exact ⟨hhanded.event (modSlot_work j f s).event, hsbk, by rw [hhanded.pen]; rfl, hciu, hhsu,
    hhanded.frame.2.2.2.2.1⟩

theorem SlotWritten.postRecheck {j : Nat} {f : Slot → Slot} {s t : State} (h : SlotWritten j f s t) :
    SlotWritten j f s (postRecheck t) where
  event := h.event.postRecheck
  sbk := by simpa using h.sbk
  generation := (postRecheck_rest t).1.trans h.generation
  units := by simpa using h.units

/-- What the command that asked for it leaves. -/
theorem SlotWritten.placed {j : Nat} {f : Slot → Slot} {s u t : State} (hlength : s.sbk.slots.length = 96)
    (hu : OnlyPort .t s u) (h : SlotWritten j f u t) (bytes : List Byte) :
    let t := placeNow .t bytes t
    t.slot j = f (s.slot j) ∧ (∀ n, n % 96 ≠ j % 96 → t.slot n = s.slot n) ∧
      t.pen.generation = s.pen.generation + 1 ∧ EngineKept s t ∧ EventsOnlyJoin s t ∧ (∀ tr, TrainKept tr s t) ∧
      OtherPorts .t s t ∧ t.sbk = { s.sbk with slots := t.sbk.slots } ∧
      t = { s with spi := t.spi, evr := t.evr, sbk := t.sbk, dsu := t.dsu, pen := t.pen } := by
  intro v
  have hsbk : u.sbk = s.sbk := by rw [hu.1]
  have hciu : u.ciu = s.ciu := by rw [hu.1]
  have hhsu : u.hsu = s.hsu := by rw [hu.1]
  have harith : u.arith = s.arith := by rw [hu.1]
  have hpen : u.pen = s.pen := by rw [hu.1]
  have hslot (n : Nat) : v.slot n = if n % 96 = j % 96 then f (s.slot j) else s.slot n := by
    have hv : v.slot n = (u.modSlot j f).slot n := slot_congr h.sbk n
    rw [hv, State.modSlot_slot u j n f (by rwa [hsbk]), slot_congr hsbk, slot_congr hsbk]
  have hbook : v.sbk = { s.sbk with slots := v.sbk.slots } := by
    have hv : v.sbk = (u.modSlot j f).sbk := h.sbk
    rw [hv, ← hsbk]
    rfl
  obtain ⟨hports, hjoins, htrains, hengine, -, hstate⟩ := h.event.placed hu bytes
  obtain ⟨vciu, vhsu, varith⟩ : v.ciu = s.ciu ∧ v.hsu = s.hsu ∧ v.arith = s.arith :=
    ⟨h.units.1.trans hciu, h.units.2.1.trans hhsu, h.units.2.2.trans harith⟩
  exact ⟨(hslot j).trans (if_pos rfl), fun n hn => (hslot n).trans (if_neg hn), by rw [← hpen]; exact h.generation,
    hengine, hjoins, htrains, hports, hbook, hstate.trans (by rw [vciu, vhsu, varith])⟩

/-! ## WITHDRAW OFFER and VOID SLOT (R84, R108) -/

theorem exec_withdrawOffer (p : Port) (i : BitVec 32) (seq : Byte) (s : State) : exec (.withdrawOffer p i seq) s =
    .next (command p 0x22 (putBE 4 i.toNat ++ [seq]) (takeWithdrawOffer i seq) s) := rfl

theorem exec_voidSlot (p : Port) (i : BitVec 32) (seq : Byte) (s : State) : exec (.voidSlot p i seq) s =
    .next (command p 0x23 (putBE 4 i.toNat ++ [seq]) (takeVoidSlot i seq) s) := rfl

theorem identify_congr {s u : State} (h : u.sbk = s.sbk) (j : Nat) (seq : Byte) :
    identify j seq u = identify j seq s := by
  simp only [identify, inWindow_congr h, slot_congr h]

/-- A command on an identified slot goes on to its own tests (R80). -/
theorem identified_fits {j : Nat} {seq : Byte} {f : State → Taken} {s : State} (h : identify j seq s = .fits) :
    identified j seq f s = f s := by
  rw [identified, h]

/-- An identified slot has the sequence that the command carries. -/
theorem identify_seq {j : Nat} {seq : Byte} {s : State} (h : identify j seq s = .fits) : (s.slot j).seq = seq := by
  simp only [identify] at h
  split_ifs at h
  assumption

section Identified
variable {i : BitVec 32} {seq : Byte} {s : State} (hid : identify i.toNat seq s = .fits)
include hid

/-- The sequence that the answer carries. -/
theorem writtenSlot_seq (hlength : s.sbk.slots.length = 96) {f : Slot → Slot} (hf : ∀ x, (f x).seq = x.seq + 1) :
    ((s.modSlot i.toNat f).slot i.toNat).seq = seq + 1 := by
  rw [State.modSlot_slot s _ _ f hlength, if_pos rfl, hf, identify_seq hid]

theorem takeWithdrawOffer_offered (hlength : s.sbk.slots.length = 96) (h : (s.slot i.toNat).state = .offered) :
    takeWithdrawOffer i seq s =
      (slotChanged i.toNat (s.modSlot i.toNat Slot.emptied), some (.done [seq + 1])) := by
  rw [takeWithdrawOffer, identified_fits hid, if_pos h, ← writtenSlot_seq hid hlength (f := Slot.emptied) fun _ => rfl]

theorem takeWithdrawOffer_refused (h : (s.slot i.toNat).state ≠ .offered) :
    takeWithdrawOffer i seq s = refuse .state s := by
  rw [takeWithdrawOffer, identified_fits hid, if_neg h]

theorem takeVoidSlot_committed (hlength : s.sbk.slots.length = 96) (h : (s.slot i.toNat).state = .committed) :
    takeVoidSlot i seq s =
      (postRecheck (slotChanged i.toNat (s.modSlot i.toNat Slot.voidedOut)), some (.done [seq + 1])) := by
  rw [takeVoidSlot, identified_fits hid, if_pos h, ← writtenSlot_seq hid hlength (f := Slot.voidedOut) fun _ => rfl]

theorem takeVoidSlot_refused (h : (s.slot i.toNat).state ≠ .committed) : takeVoidSlot i seq s = refuse .state s := by
  rw [takeVoidSlot, identified_fits hid, if_neg h]

end Identified

/-- Settles O34: neither an EMPTY nor a VOIDED slot is COMMITTED, so its hand-off grants no train. -/
theorem withdrawAndVoid : Obligations.WithdrawAndVoid := by
  intro s i seq h hlength hid
  have hidOf {u : State} (hu : OnlyPort .t s u) : identify i.toNat seq u = .fits :=
    (identify_congr (by rw [hu.1]) _ _).trans hid
  have hslotOf {u : State} (hu : OnlyPort .t s u) : u.slot i.toNat = s.slot i.toNat := slot_congr (by rw [hu.1]) _
  have hlengthOf {u : State} (hu : OnlyPort .t s u) : u.sbk.slots.length = 96 := by rw [hu.1]; exact hlength
  refine ⟨fun hoffered => ?withdraw, fun hne => ⟨_, exec_withdrawOffer .t i seq s, command_answersOnly h rfl fun u hu =>
      takeWithdrawOffer_refused (hidOf hu) (by rwa [hslotOf hu])⟩, fun hcommitted => ?void,
    fun hne => ⟨_, exec_voidSlot .t i seq s, command_answersOnly h rfl fun u hu =>
      takeVoidSlot_refused (hidOf hu) (by rwa [hslotOf hu])⟩⟩
  case withdraw =>
    obtain ⟨u, hu, -, hanswered⟩ := command_taken h (code := 0x22) (params := putBE 4 i.toNat ++ [seq])
      (take := takeWithdrawOffer i seq) rfl
    have hwritten := slotChanged_written (j := i.toNat) (f := Slot.emptied) (hlengthOf hu) nofun
    obtain ⟨hslot, hothers, hgeneration, hrest⟩ := hwritten.placed hlength hu (Answer.done [seq + 1]).full
    refine ⟨_, exec_withdrawOffer .t i seq s, ?_⟩
    rw [hanswered (takeWithdrawOffer_offered (hidOf hu) (hlengthOf hu) (by rwa [hslotOf hu]))]
    exact ⟨placeNow_answers .t _ _, hslot.trans (by rw [← identify_seq hid]; rfl), hothers, hgeneration, hrest⟩
  case void =>
    obtain ⟨u, hu, -, hanswered⟩ := command_taken h (code := 0x23) (params := putBE 4 i.toNat ++ [seq])
      (take := takeVoidSlot i seq) rfl
    have hwritten := slotChanged_written (j := i.toNat) (f := Slot.voidedOut) (hlengthOf hu) nofun
    obtain ⟨hslot, hothers, hgeneration, hrest⟩ := hwritten.postRecheck.placed hlength hu (Answer.done [seq + 1]).full
    refine ⟨_, exec_voidSlot .t i seq s, ?_⟩
    rw [hanswered (takeVoidSlot_committed (hidOf hu) (hlengthOf hu) (by rwa [hslotOf hu]))]
    refine ⟨placeNow_answers .t _ _, hslot.trans (by rw [← identify_seq hid]; rfl), hothers, hgeneration,
      fun hpart => ?_, hrest⟩
    exact recheckPosted_placed hu _ (hwritten.event.recheckPosted (by rw [hu.1]; exact hpart))

/-! ## ACTIVATE RESERVE (R86, R115) -/

theorem exec_activateReserve (p : Port) (i : BitVec 32) (seq : Byte) (v : BitVec 32) (s : State) :
    exec (.activateReserve p i seq v) s = .next (command p 0x24 (putBE 4 i.toNat ++ [seq] ++ putBE 4 v.toNat)
      (takeActivateReserve i seq v) s) := rfl

/-- A clamped amount stays in the band and does not turn the direction of its slot (R115). -/
theorem clampReserve_bounds (n : Int) (up down : Nat) (v : Int) :
    let a := clampReserve n up down v;
    -(down : Int) ≤ a ∧ a ≤ up ∧ (0 < n → 0 ≤ n + a) ∧ (n < 0 → n + a ≤ 0) := by
  simp only [clampReserve]
  split_ifs <;> omega

/-- The ACTIVE slot with its integration closed at the plant seconds and a new activated reserve (R86, R115). -/
def Slot.reserved (seconds : Nat) (a : Int) (y : Activity) (x : Slot) : Slot := { x with
  activity := some ⟨a, (saturateEnergy (y.energy + reserveEnergy y.reserve (seconds - y.mark))).val, y.delivered,
    seconds⟩ }

section Reserve
variable {s : State} {j : Nat} {y : Activity} (hcurrent : j = s.sbk.current) (hstate : (s.slot j).state = .active)
  (hactivity : (s.slot j).activity = some y)
include hcurrent hstate hactivity

/-- Closing an integration writes the current slot and captures what saturates (R86). -/
theorem closeIntegration_captures (second : Nat) :
    ∃ f, CapturesOnly (s.modSlot j f) (closeIntegration second s) := by
  subst hcurrent
  simp only [closeIntegration, hstate, hactivity]
  exact ⟨_, .raise ..⟩

/-- The own work of ACTIVATE RESERVE, before it is handed on. -/
theorem reserveStored_work (a : Int) : BookWork s (storeReserve j a (closeIntegration s.pck.seconds s)) := by
  obtain ⟨f, hcaptures⟩ := closeIntegration_captures hcurrent hstate hactivity s.pck.seconds
  generalize closeIntegration s.pck.seconds s = u at hcaptures
  obtain ⟨hjoins, harith, hframe⟩ := hcaptures
  rw [ArithKept] at harith
  refine ⟨⟨hjoins, fun tr => ?_, ⟨?_, .inl ?_⟩, harith, ?_⟩, ?_, ?_⟩ <;>
    rw [hframe]
  exacts [rfl, rfl, rfl, ⟨rfl, rfl, rfl, rfl, rfl, rfl⟩, rfl, ⟨rfl, rfl, rfl⟩]

theorem reserveStored_slot (hlength : s.sbk.slots.length = 96) (a : Int) (n : Nat) :
    (storeReserve j a (closeIntegration s.pck.seconds s)).slot n =
      if n % 96 = j % 96 then (s.slot j).reserved s.pck.seconds a y else s.slot n := by
  subst hcurrent
  obtain ⟨hclosed, hothers⟩ := (closeIntegration_kept s.pck.seconds s).slots hlength
  rw [storeReserve, State.modSlot_slot _ _ _ _ hclosed, closeIntegration_active hlength hstate hactivity]
  by_cases hn : n % 96 = s.sbk.current % 96
  · rw [if_pos hn, if_pos hn]; rfl
  · rw [if_neg hn, if_neg hn, hothers n hn]

end Reserve

/-- The view takes the net power, and neither the split nor a grant moves it (R115). -/
theorem handReserve_view (net : Int) (s : State) : (handReserve net s).dsu.view.active = some net := by
  have hsplit (v : View) (d : Dsu) (u : State) : (examineIfAdmitted v (runSplit d u)).dsu.view = u.dsu.view := by
    simp only [examineIfAdmitted]
    split
    · exact ((ViewKept.runSplit d u).trans (.examineQueue _)).view
    · exact (ViewKept.runSplit d u).view
  rw [handReserve, hsplit]

theorem takeActivateReserve_active {i v : BitVec 32} {seq : Byte} {s : State} (hid : identify i.toNat seq s = .fits)
    (h : (s.slot i.toNat).state = .active) : let x := s.slot i.toNat
    let a := clampReserve x.power x.up x.down v.toInt
    takeActivateReserve i seq v s = (postRecheck (handReserve (x.power + a) (bumpGeneration
      (storeReserve i.toNat a (closeIntegration s.pck.seconds s)))),
      some { code := .done, clamped := a != v.toInt, body := putSigned 4 a }) := by
  rw [takeActivateReserve, identified_fits hid]
  exact if_pos h

theorem takeActivateReserve_refused {i v : BitVec 32} {seq : Byte} {s : State} (hid : identify i.toNat seq s = .fits)
    (h : (s.slot i.toNat).state ≠ .active) : takeActivateReserve i seq v s = refuse .state s := by
  rw [takeActivateReserve, identified_fits hid]
  exact if_neg h

/-- What the hand-offs of a book that is written leave of it, and of the inventory, once the recheck is posted. -/
theorem BookHanded.placed {s u w t : State} (hu : OnlyPort .t s u) (h : BookHanded w t) (hw : BookWork u w)
    (bytes : List Byte) : let v := placeNow .t bytes (postRecheck t)
    (∀ n, v.slot n = { w.slot n with short := (v.slot n).short, shortSeen := (v.slot n).shortSeen }) ∧
      (s.svc.part ≠ .config → RecheckPosted s v) ∧ v.pen.generation = s.pen.generation + 1 ∧
      v.sbk = { s.sbk with slots := v.sbk.slots } ∧ (∀ c, CavernKept c s v) ∧ (∀ st, StoreKept st s v) ∧
      PlantFrame .t s v := by
  intro v
  have hevent := h.event hw.event
  obtain ⟨hwpen, hciu, hhsu⟩ := hw.rest
  have hkept := h.kept.trans (.postRecheck t)
  have hvciu : v.ciu = (postRecheck t).ciu := rfl
  have hbook : v.sbk = { s.sbk with slots := v.sbk.slots } := by
    have hv : v.sbk = { w.sbk with slots := v.sbk.slots } := hkept.book.1
    rw [hv, hw.sbk, hu.1]
  have hpen : u.pen = s.pen := by rw [hu.1]
  refine ⟨hkept.book.2, fun hpart => recheckPosted_placed hu _ (hevent.recheckPosted (by rw [hu.1]; exact hpart)), ?_,
    hbook, fun c => ?_, fun st => ?_, hevent.postRecheck.placed hu bytes⟩
  · rw [← hpen, ← hwpen]
    exact (postRecheck_rest t).1.trans (by rw [h.pen])
  · exact hkept.cavernAside (by rw [State.cavern, hciu, hu.1]; rfl)
  · exact hkept.storeAside (by rw [State.store, hhsu, hu.1]; rfl)

/-- Settles O35: the own work closes the integration and stores the amount, and the hand-offs write SHORT marks only. -/
theorem activateReserveEffect : Obligations.ActivateReserveEffect := by
  intro s i seq v h hid
  have hidOf {u : State} (hu : OnlyPort .t s u) : identify i.toNat seq u = .fits :=
    (identify_congr (by rw [hu.1]) _ _).trans hid
  refine ⟨fun hne => ⟨_, exec_activateReserve .t i seq v s, command_answersOnly h rfl fun u hu =>
    takeActivateReserve_refused (hidOf hu) (by rwa [slot_congr (by rw [hu.1])])⟩, ?_⟩
  intro y hlength hcurrent hstate hactivity x a
  obtain ⟨hlow, hhigh, hgen, hchg⟩ := clampReserve_bounds x.power x.up x.down v.toInt
  obtain ⟨u, hu, -, hanswered⟩ := command_taken h (code := 0x24)
    (params := putBE 4 i.toNat ++ [seq] ++ putBE 4 v.toNat) (take := takeActivateReserve i seq v) rfl
  have hsbk : u.sbk = s.sbk := by rw [hu.1]
  have hslot (n : Nat) : u.slot n = s.slot n := slot_congr hsbk n
  have hpck : u.pck = s.pck := by rw [hu.1]
  rw [← hsbk] at hlength hcurrent
  have hstateU : (u.slot i.toNat).state = .active := by rwa [hslot]
  have hactivityU : (u.slot i.toNat).activity = some y := by rwa [hslot]
  have hwork := reserveStored_work hcurrent hstateU hactivityU a
  have hstored := reserveStored_slot hcurrent hstateU hactivityU hlength a
  have htaken := takeActivateReserve_active (v := v) (hidOf hu) hstateU
  simp only [hslot, hpck] at htaken hstored hwork
  have hhanded := handReserve_handed (x.power + a) (storeReserve i.toNat a (closeIntegration s.pck.seconds u))
  obtain ⟨hslots, hposted, hgeneration, hbook, hcaverns, hstores, hframe⟩ := hhanded.placed hu hwork
    { code := .done, clamped := a != v.toInt, body := putSigned 4 a : Answer }.full
  refine ⟨hlow, hhigh, hgen, hchg, _, exec_activateReserve .t i seq v s, ?_⟩
  rw [hanswered htaken]
  refine ⟨placeNow_answers .t _ _, (hslots _).trans ?_, fun n hn => (hslots n).trans ?_, ?_, hposted, hgeneration,
    hbook, hcaverns, hstores, hframe⟩
  · rw [hstored, if_pos rfl]
    rfl
  · rw [hstored, if_neg hn]
  · exact (congrArg (fun d => d.view.active) (postRecheck_frame _).2.2.2.2.2.2.2.2.1).trans (handReserve_view _ _)

end Sys2Proof.Machine
end

section
/-! PROOFS. The completions of OFFER and CONFIRM walks (O45, O46). -/

namespace Sys2Proof.Machine

/-! ## A result that stands, or a walk that is restarted (R103) -/

/-- The captures of a request's walk (R22). -/
def walkRaised (r : Request) (b : Base) (s : State) : State :=
  (requestAbility r b).2.foldl (raiseWalk b (some r.interval)) s

/-- The part once a result stands: a STALE one has asked for a recheck (R94, R103). -/
def resultStanding (r : Request) (b : Base) (stale : Bool) (s : State) : State :=
  if stale then postRecheck (walkRaised r b s) else walkRaised r b s

/-- The recheck flag once a result stands. -/
def standingFlag (stale : Bool) (s : State) : Bool := s.pen.recheckFlag || (stale && s.svc.part != .config)

theorem walkRaised_captures (r : Request) (b : Base) (s : State) : CapturesOnly s (walkRaised r b s) :=
  .foldl (.raiseWalk b (some r.interval)) _ s

theorem walkRaised_generation (r : Request) (b : Base) (s : State) :
    (walkRaised r b s).pen.generation = s.pen.generation := by
  rw [(walkRaised_captures r b s).frame]

/-- A walk is restarted once on a moved base, and otherwise its result stands (R103). -/
theorem completeRequest_eq (r : Request) (b : Base) (restart : Bool) (s : State) :
    let stale := b.generation != s.pen.generation
    completeRequest r b restart s = if (stale && !restart) = true then launch (some r) true (walkRaised r b s)
      else settleRequest r (requestAbility r b).1 stale (walkRaised r b s) := by
  rw [← walkRaised_generation r b s]
  rfl

theorem completeRequest_settled {r : Request} {b : Base} {restart : Bool} {s : State}
    (h : (b.generation != s.pen.generation) = false ∨ restart = true) : completeRequest r b restart s =
      settleRequest r (requestAbility r b).1 (b.generation != s.pen.generation) (walkRaised r b s) := by
  rw [completeRequest_eq, if_neg]
  rcases h with h | h <;> rw [h] <;> simp

section Flown
variable {s : State} {r : Request} {b : Option Base} {restart : Bool}
  (hflight : s.pen.flight = some ⟨some r, b, restart⟩)
include hflight

/-- A restart is a base capture over the captures of the walk that was flown. -/
theorem completeRequest_restarted {x : Base} (h : (x.generation != s.pen.generation) = true) :
    BaseCaptured (some r) true s (completeRequest r x false s) := by
  have hcaptures := walkRaised_captures r x s
  obtain ⟨-, hpen, -⟩ := hcaptures.blocks
  rw [completeRequest_eq, if_pos (by rw [h]; rfl)]
  exact .of_captures hcaptures (launch_captured (by rw [hpen, hflight]) true)

/-- What stands of the part when a result does: captures, and the recheck flag. -/
theorem resultStanding_eq (x : Base) (stale : Bool) : ∃ evr arith, resultStanding r x stale s = { s with
    evr := evr, arith := arith, pen := { s.pen with recheckFlag := standingFlag stale s } } ∧
      EventsOnlyJoin s (resultStanding r x stale s) ∧ ArithKept s (resultStanding r x stale s) := by
  have hcaptures := walkRaised_captures r x s
  rw [resultStanding]
  generalize walkRaised r x s = u at hcaptures
  obtain ⟨hjoins, harith, hframe⟩ := hcaptures
  have hquiet (h : standingFlag stale s = s.pen.recheckFlag) : u = { s with
      evr := u.evr, arith := u.arith, pen := { s.pen with recheckFlag := standingFlag stale s } } := by
    rw [h]; exact hframe
  cases stale with
  | false => exact ⟨u.evr, u.arith, hquiet (by simp [standingFlag]), hjoins, harith⟩
  | true =>
    simp only [if_true]
    by_cases hpart : s.svc.part = .config
    · have hu : postRecheck u = u := if_pos (by rw [hframe]; exact hpart)
      rw [hu]
      exact ⟨u.evr, u.arith, hquiet (by simp [standingFlag, hpart]), hjoins, harith⟩
    · have hu : postRecheck u = { u with pen := u.pen.posted } := if_neg (by rw [hframe]; exact hpart)
      refine ⟨u.evr, u.arith, ?_, hjoins.trans (.of_eq (by simp)), harith.trans (by simp [ArithKept])⟩
      have hflag : standingFlag true s = true := by simp [standingFlag, hpart]
      have hposted : s.pen.posted = { s.pen with recheckFlag := true } := by
        rw [Pen.posted_eq, if_pos (by rw [hflight]; rfl)]
      rw [hu, hflag, ← hposted, hframe]

end Flown

/-! ## What a result writes, before its answer is placed (R25, R105, R107) -/

/-- What the result of an OFFER or CONFIRM walk may write. -/
structure ResultWritten (stale : Bool) (s w : State) : Prop where
  joins : EventsOnlyJoin s w
  arith : ArithKept s w
  trains : ∀ tr, TrainKept tr s w
  caverns : ∀ c, CavernKept c s w
  stores : ∀ st, StoreKept st s w
  sbk : w.sbk = { s.sbk with slots := w.sbk.slots }
  pen : w.pen = { s.pen with
    recheckFlag := standingFlag stale s, lastLimit := w.pen.lastLimit, generation := w.pen.generation }
  frame : w.pins = s.pins ∧ w.spi = s.spi ∧ w.ilr = s.ilr ∧ w.pck = s.pck ∧ w.svc = s.svc ∧ w.pending = s.pending

namespace ResultWritten
variable {stale : Bool} {s v w : State}

/-- The last limit code is written over what stands (R25). -/
theorem writeLimit (h : ResultWritten stale s w) (l : Limit) : ResultWritten stale s (writeLimit l w) where
  joins := h.joins
  arith := h.arith
  trains := h.trains
  caverns := h.caverns
  stores := h.stores
  sbk := h.sbk
  pen := by rw [Machine.writeLimit]; simp only; rw [h.pen]
  frame := h.frame

theorem handed (h : ResultWritten stale s v) {j : Nat} {f : Slot → Slot} (hw : BookHanded (v.modSlot j f) w) :
    ResultWritten stale s w where
  joins := h.joins.trans hw.kept.joins
  arith := by rw [ArithKept, hw.frame.2.2.2.2.1]; exact h.arith
  trains tr := (h.trains tr).trans (hw.kept.trains tr)
  caverns c := (h.caverns c).trans (hw.kept.caverns c)
  stores st := (h.stores st).trans (hw.kept.stores st)
  sbk := by
    have hbook := hw.kept.book.1
    rw [hbook, State.modSlot, h.sbk]
  pen := by rw [hw.pen, State.modSlot_pen]; simp only; rw [h.pen]
  frame := by
    obtain ⟨hpins, hspi, hilr, hpck, -, hsvc, hpending⟩ := hw.frame
    rw [hpins, hspi, hilr, hpck, hsvc, hpending]
    exact h.frame

end ResultWritten

/-! ## The answer placed, and the engine freed (R94, R103) -/

theorem endWalk_pen (a : Answer) (s : State) : (endWalk a s).pen.lastLimit = s.pen.lastLimit ∧
    (endWalk a s).pen.generation = s.pen.generation ∧ (endWalk a s).pen.genHold = s.pen.genHold ∧
    (endWalk a s).pen.chgHold = s.pen.chgHold := by
  simp [endWalk, placeLater, dropWalk]

theorem ResultWritten.ended {stale restart : Bool} {s w : State} {r : Request} {b : Option Base}
    (h : ResultWritten stale s w) (hflight : s.pen.flight = some ⟨some r, b, restart⟩) (a : Answer) :
    let t := endWalk a w
    Answers .t a t ∧ RequestDone stale s t ∧ OtherPorts .t s t ∧ t.pen.genHold = s.pen.genHold ∧
      t.pen.chgHold = s.pen.chgHold ∧ t = { s with
        spi := t.spi, evr := t.evr, ciu := t.ciu, hsu := t.hsu, sbk := t.sbk, dsu := t.dsu, arith := t.arith
        pen := t.pen } := by
  intro t
  obtain ⟨hpins, hspi, hilr, hpck, hsvc, hpending⟩ := h.frame
  obtain ⟨-, -, hgen, hchg⟩ := endWalk_pen a w
  have hfreed : t.pen = Pen.takeUp { w.pen with waiting := none, flight := none } := by
    have hwf : w.pen.flight = some ⟨some r, b, restart⟩ := by rw [h.pen]; exact hflight
    exact endWalk_freed hwf a
  have hflag : w.pen.recheckFlag = standingFlag stale s := by rw [h.pen]
  refine ⟨endWalk_answers a w, ?_, fun q hq => ?_, hgen.trans (by rw [h.pen]), hchg.trans (by rw [h.pen]), ?_⟩
  · have hdone : RequestDone stale s t ↔ t.pen.waiting = none ∧ t.pen.recheckFlag = false ∧
        t.pen.flight = if standingFlag stale s then some ⟨none, none, false⟩ else none := Iff.rfl
    rw [hdone, hfreed]
    cases hstanding : standingFlag stale s with
    | false =>
      rw [Pen.takeUp_nothing { w.pen with waiting := none, flight := none } (hflag.trans hstanding) rfl]
      exact ⟨rfl, hflag.trans hstanding, rfl⟩
    | true =>
      rw [Pen.takeUp_recheck { w.pen with waiting := none, flight := none } rfl (hflag.trans hstanding)]
      exact ⟨rfl, rfl, rfl⟩
  · rw [endWalk_otherPorts a w q hq, State.port, hspi]
    rfl
  · rw [← hpins, ← hilr, ← hpck, ← hsvc, ← hpending]
    rfl

/-- A result stands over captures and the recheck flag alone. -/
theorem resultStanding_written {s : State} {r : Request} {b : Option Base} {restart : Bool}
    (hflight : s.pen.flight = some ⟨some r, b, restart⟩) (x : Base) (stale : Bool) :
    ResultWritten stale s (resultStanding r x stale s) := by
  obtain ⟨evr, arith, heq, hjoins, harith⟩ := resultStanding_eq hflight x stale
  rw [heq] at hjoins harith ⊢
  exact ⟨hjoins, harith, fun _ => rfl, fun _ => rfl, fun _ => rfl, rfl, rfl, ⟨rfl, rfl, rfl, rfl, rfl, rfl⟩⟩

/-- What a result that stands has left as it was. -/
theorem resultStanding_rest {s : State} {r : Request} {b : Option Base} {restart : Bool}
    (hflight : s.pen.flight = some ⟨some r, b, restart⟩) (x : Base) (stale : Bool) :
    let v := resultStanding r x stale s
    v.sbk = s.sbk ∧ v.dsu = s.dsu ∧ v.ciu = s.ciu ∧ v.hsu = s.hsu ∧ v.pen.generation = s.pen.generation ∧
      v.pen.lastLimit = s.pen.lastLimit ∧ newExpiry v = s.pck.seconds + s.svc.times.hold := by
  intro v
  obtain ⟨evr, arith, heq, -, -⟩ := resultStanding_eq hflight x stale
  have hv : v = _ := heq
  rw [hv]
  exact ⟨rfl, rfl, rfl, rfl, rfl, rfl, rfl⟩

/-- A slot written by a result, and handed on. -/
theorem ResultWritten.slotChanged {stale : Bool} {s v : State} (h : ResultWritten stale s v) (hsbk : v.sbk = s.sbk)
    (hlength : s.sbk.slots.length = 96) (j : Nat) (f : Slot → Slot) : let w := slotChanged j (v.modSlot j f)
    ResultWritten stale s w ∧ w.pen.lastLimit = v.pen.lastLimit ∧ w.pen.generation = v.pen.generation + 1 ∧
      ∀ n, w.slot n = { (if n % 96 = j % 96 then f (s.slot j) else s.slot n) with
        short := (w.slot n).short, shortSeen := (w.slot n).shortSeen } := by
  intro w
  have hhanded := slotChanged_handed j (v.modSlot j f)
  refine ⟨h.handed hhanded, by rw [hhanded.pen]; rfl, by rw [hhanded.pen]; rfl, fun n => ?_⟩
  have hslot := State.modSlot_slot v j n f (by rw [hsbk, hlength])
  rw [slot_congr hsbk, slot_congr hsbk] at hslot
  rw [← hslot]
  exact hhanded.kept.book.2 n

/-! ## The completion of an OFFER walk (R105) -/

theorem exec_offerWalkCompletion {s : State} {j : Nat} {n : Int} {up down : Nat} {ref : BitVec 32} {b : Base}
    {restart : Bool} (h : s.pins.resetLow = false)
    (hflight : s.pen.flight = some ⟨some (.offer j n up down ref), some b, restart⟩) :
    exec .offerWalkCompletion s = .next (completeRequest (.offer j n up down ref) b restart s) := by
  have hexec : exec .offerWalkCompletion s = .next (live completeOffer s) := rfl
  rw [hexec, live, if_neg (by simp [h]), completeOffer, hflight]

theorem exec_confirmWalkCompletion {s : State} {j : Nat} {seq : Byte} {v : Int} {b : Base} {restart : Bool}
    (h : s.pins.resetLow = false) (hflight : s.pen.flight = some ⟨some (.confirm j seq v), some b, restart⟩) :
    exec .confirmWalkCompletion s = .next (completeRequest (.confirm j seq v) b restart s) := by
  have hexec : exec .confirmWalkCompletion s = .next (live completeConfirm s) := rfl
  rw [hexec, live, if_neg (by simp [h]), completeConfirm, hflight]

/-- An answer with an ability, a limit code and a sequence (R182). -/
def abilityAnswer (code : ResultCode) (stale : Bool) (ability : Int) (l : Limit) (seq : Byte) : Answer :=
  { code := code, stale := stale, body := putSigned 4 ability ++ [BitVec.ofNat 8 l.code, seq] }

theorem abilityAnswer_eq (code : ResultCode) (stale : Bool) (ability : Int) (l : Limit) (seq : Byte) :
    abilityAnswer code stale ability l seq = { code := code, stale := stale, body := abilityBody ability l seq } := by
  simp [abilityAnswer, abilityBody, putBE]

/-- The slot that an OFFER makes (R105). -/
def Slot.offeredAt (ability : Int) (up down : Nat) (ref : BitVec 32) (expiry : Nat) (x : Slot) : Slot := { x with
  state := .offered, seq := x.seq + 1, power := ability, band := bandOf up down, ref := ref
  offer := some ⟨ability, expiry⟩ }

section SettleOffer
variable {j up down : Nat} {n : Int} {ref : BitVec 32} {a : Ability} {stale : Bool} {s : State}

theorem settleOffer_unable (h : a.carried = false ∨ (a.amount = 0 ∧ n ≠ 0)) :
    settleOffer j up down n ref a stale s =
      endWalk (abilityAnswer .noAbility stale 0 a.limit (s.slot j).seq) (writeLimit a.limit s) := by
  rw [settleOffer, abilityAnswer_eq]
  exact if_pos h

theorem settleOffer_able (hlength : s.sbk.slots.length = 96) (h : ¬(a.carried = false ∨ (a.amount = 0 ∧ n ≠ 0))) :
    settleOffer j up down n ref a stale s = endWalk (abilityAnswer .done stale a.amount a.limit ((s.slot j).seq + 1))
      (slotChanged j ((writeLimit a.limit s).modSlot j (Slot.offeredAt a.amount up down ref (newExpiry s)))) := by
  have hslot := State.modSlot_slot (writeLimit a.limit s) j j (Slot.offeredAt a.amount up down ref (newExpiry s))
    hlength
  rw [if_pos rfl] at hslot
  have hseq : (((writeLimit a.limit s).modSlot j (Slot.offeredAt a.amount up down ref (newExpiry s))).slot j).seq =
      (s.slot j).seq + 1 := congrArg Slot.seq hslot
  rw [settleOffer, ← hseq, abilityAnswer_eq]
  exact if_neg h

end SettleOffer

/-- What the answer to an OFFER leaves beside the slot that it names. -/
theorem ResultWritten.endedOffer {stale restart : Bool} {s w : State} {r : Request} {b : Option Base}
    (h : ResultWritten stale s w) (hflight : s.pen.flight = some ⟨some r, b, restart⟩) (hciu : w.ciu = s.ciu)
    (hhsu : w.hsu = s.hsu) (a : Answer) : let t := endWalk a w
    OtherPorts .t s t ∧ (∀ tr, TrainKept tr s t) ∧ ArithKept s t ∧ EventsOnlyJoin s t ∧
      t.sbk = { s.sbk with slots := t.sbk.slots } ∧ t.pen.genHold = s.pen.genHold ∧ t.pen.chgHold = s.pen.chgHold ∧
      t = { s with spi := t.spi, evr := t.evr, sbk := t.sbk, dsu := t.dsu, arith := t.arith, pen := t.pen } := by
  intro t
  obtain ⟨-, -, hports, hgen, hchg, hstate⟩ := h.ended hflight a
  have htciu : t.ciu = s.ciu := hciu
  have hthsu : t.hsu = s.hsu := hhsu
  exact ⟨hports, h.trains, h.arith, h.joins, h.sbk, hgen, hchg, hstate.trans (by rw [htciu, hthsu])⟩

/-- Settles O45: a result that stands is written over `resultStanding`, and its slot, OFFERED, is not COMMITTED. -/
theorem offerCompletes : Obligations.OfferCompletes := by
  intro s j n up down ref b re hreset hlength hflight a stale
  refine ⟨fun hstale hre => ?restarted, fun hstands => ?settled⟩
  case restarted =>
    subst hre
    exact ⟨_, exec_offerWalkCompletion hreset hflight, completeRequest_restarted hflight hstale⟩
  case settled =>
    have hexec : exec .offerWalkCompletion s =
        .next (settleOffer j up down n ref a stale (resultStanding (.offer j n up down ref) b stale s)) :=
      (exec_offerWalkCompletion hreset hflight).trans (congrArg _ (completeRequest_settled hstands))
    have hwritten := (resultStanding_written hflight b stale).writeLimit a.limit
    obtain ⟨hsbk, -, hciu, hhsu, hgeneration, -, hexpiry⟩ := resultStanding_rest hflight b stale
    generalize resultStanding (.offer j n up down ref) b stale s = v at *
    have hvlength : v.sbk.slots.length = 96 := by rw [hsbk, hlength]
    by_cases hunable : a.carried = false ∨ (a.amount = 0 ∧ n ≠ 0)
    case pos =>
      rw [settleOffer_unable hunable, slot_congr hsbk] at hexec
      obtain ⟨hanswers, hdone, -⟩ := hwritten.ended hflight (abilityAnswer .noAbility stale 0 a.limit (s.slot j).seq)
      refine ⟨_, hexec, (endWalk_pen ..).1, hdone, fun hcarried hamount => ?_,
        fun _ => ⟨slot_congr hsbk j, (endWalk_pen ..).2.1.trans hgeneration, hanswers⟩, fun m _ => slot_congr hsbk m,
        hwritten.endedOffer hflight hciu hhsu _⟩
      rcases hunable with h | ⟨h, hn⟩
      · exact absurd (h.symm.trans hcarried) nofun
      · exact absurd (hamount h) hn
    case neg =>
      rw [settleOffer_able hvlength hunable, slot_congr hsbk, hexpiry] at hexec
      have hmade := slotChanged_written (s := writeLimit a.limit v) (j := j)
        (f := Slot.offeredAt a.amount up down ref (s.pck.seconds + s.svc.times.hold)) hvlength nofun
      obtain ⟨hchanged, hlimit, hmoved, -⟩ := hwritten.slotChanged hsbk hlength j
        (Slot.offeredAt a.amount up down ref (s.pck.seconds + s.svc.times.hold))
      obtain ⟨wciu, whsu, -⟩ := hmade.units
      have hslot (m : Nat) := (slot_congr hmade.sbk m).trans (State.modSlot_slot (writeLimit a.limit v) j m _ hvlength)
      obtain ⟨hanswers, hdone, -⟩ := hchanged.ended hflight
        (abilityAnswer .done stale a.amount a.limit ((s.slot j).seq + 1))
      refine ⟨_, hexec, (endWalk_pen ..).1.trans hlimit, hdone, fun _ _ => ⟨?_, ?_, hanswers⟩,
        fun h => absurd h hunable, fun m hm => ?_, hchanged.endedOffer hflight (wciu.trans hciu) (whsu.trans hhsu) _⟩
      · exact ((hslot j).trans (if_pos rfl)).trans (congrArg _ (slot_congr hsbk j))
      · exact (endWalk_pen ..).2.1.trans (hmoved.trans (congrArg (· + 1) hgeneration))
      · exact ((hslot m).trans (if_neg hm)).trans (slot_congr hsbk m)

/-! ## The completion of a CONFIRM walk (R107) -/

/-- What the result of a CONFIRM walk answers, and how it writes its slot. -/
structure ConfirmOutcome where
  code : ResultCode
  value : Int
  write : Slot → Slot

/-- COMMITTED where the power limit covers the value, at the power limit where it is above 0, EMPTY otherwise (R107). -/
def confirmOutcome (v : Int) (a : Ability) (expiry : Nat) : ConfirmOutcome :=
  if a.carried ∧ (v = 0 ∨ v.natAbs ≤ a.pMax) then
    ⟨.done, v, fun x => { x with state := .committed, seq := x.seq + 1, offer := none }⟩
  else if a.carried ∧ 0 < a.pMax then
    ⟨.shortfall, a.amount, fun x => { x with seq := x.seq + 1, power := a.amount, offer := some ⟨a.amount, expiry⟩ }⟩
  else ⟨.noAbility, 0, Slot.emptied⟩

theorem confirmOutcome_seq (v : Int) (a : Ability) (expiry : Nat) (x : Slot) :
    ((confirmOutcome v a expiry).write x).seq = x.seq + 1 := by
  rw [confirmOutcome]
  split_ifs <;> rfl

section Outcomes
variable {v : Int} {a : Ability} (expiry : Nat)

theorem confirmOutcome_committed (h : a.carried = true) (hv : v = 0 ∨ v.natAbs ≤ a.pMax) : confirmOutcome v a expiry =
    ⟨.done, v, fun x => { x with state := .committed, seq := x.seq + 1, offer := none }⟩ := if_pos ⟨h, hv⟩

theorem confirmOutcome_shortfall (h : a.carried = true) (hmax : v ≠ 0 ∧ a.pMax < v.natAbs) (hpos : 0 < a.pMax) :
    confirmOutcome v a expiry = ⟨.shortfall, a.amount,
      fun x => { x with seq := x.seq + 1, power := a.amount, offer := some ⟨a.amount, expiry⟩ }⟩ := by
  rw [confirmOutcome, if_neg (by omega), if_pos ⟨h, hpos⟩]

theorem confirmOutcome_unable (h : a.carried = false ∨ (v ≠ 0 ∧ a.pMax = 0)) :
    confirmOutcome v a expiry = ⟨.noAbility, 0, Slot.emptied⟩ := by
  rcases h with h | ⟨hv, hmax⟩
  · rw [confirmOutcome, if_neg (by simp [h]), if_neg (by simp [h])]
  · rw [confirmOutcome, if_neg (by omega), if_neg (by omega)]

end Outcomes

/-- The three results of a CONFIRM walk in one form. -/
theorem settleConfirm_eq {j : Nat} {v : Int} {a : Ability} {stale : Bool} {s : State}
    (hlength : s.sbk.slots.length = 96) : let o := confirmOutcome v a (newExpiry s)
    settleConfirm j v a stale s = endWalk (abilityAnswer o.code stale o.value a.limit ((s.slot j).seq + 1))
      (slotChanged j ((writeLimit a.limit s).modSlot j o.write)) := by
  intro o
  have hslot := State.modSlot_slot (writeLimit a.limit s) j j o.write hlength
  rw [if_pos rfl] at hslot
  have hseq : (((writeLimit a.limit s).modSlot j o.write).slot j).seq = (s.slot j).seq + 1 :=
    (congrArg Slot.seq hslot).trans (confirmOutcome_seq ..)
  rw [← hseq, abilityAnswer_eq, settleConfirm]
  simp only [o, confirmOutcome]
  split_ifs <;> rfl

theorem confirmStands_congr {s u : State} (h : u.sbk = s.sbk) (j : Nat) (seq : Byte) :
    confirmStands j seq u = confirmStands j seq s := by
  simp only [confirmStands, inWindow_congr h, slot_congr h]

theorem confirmStands_seq {j : Nat} {seq : Byte} {s : State} (h : confirmStands j seq s = true) :
    (s.slot j).seq = seq := by
  simp only [confirmStands, Bool.and_eq_true, beq_iff_eq] at h
  exact h.2

/-- A CONFIRM whose slot no longer stands lapses; another is settled by its ability (R107). -/
theorem settleRequest_confirm (j : Nat) (seq : Byte) (v : Int) (a : Ability) (b : Base) (stale : Bool) (s : State) :
    settleRequest (.confirm j seq v) a stale (walkRaised (.confirm j seq v) b s) =
      if confirmStands j seq (resultStanding (.confirm j seq v) b stale s) = true then
        settleConfirm j v a stale (resultStanding (.confirm j seq v) b stale s)
      else endWalk { code := .lapsed, stale := stale } (resultStanding (.confirm j seq v) b stale s) := rfl

/-- Settles O46: the three results of `confirmOutcome` are written and handed on alike. -/
theorem confirmCompletes : Obligations.ConfirmCompletes := by
  intro s j seq v b re hreset hlength hflight a tail stale
  have hexec (hstands : stale = false ∨ re = true) := (exec_confirmWalkCompletion hreset hflight).trans
    (congrArg _ ((completeRequest_settled hstands).trans (settleRequest_confirm j seq v a b stale s)))
  have hwritten := resultStanding_written hflight b stale
  obtain ⟨hsbk, hdsu, hciu, hhsu, hgeneration, hlimit, hexpiry⟩ := resultStanding_rest hflight b stale
  generalize resultStanding (.confirm j seq v) b stale s = u at *
  rw [confirmStands_congr hsbk] at hexec
  refine ⟨fun hstale hre => ?restarted, fun hstands hlapsed => ?lapsed, fun hstands hstill => ?settled⟩
  case restarted =>
    subst hre
    exact ⟨_, exec_confirmWalkCompletion hreset hflight, completeRequest_restarted hflight hstale⟩
  case lapsed =>
    have hlapse := (hexec hstands).trans (congrArg _ (if_neg (by simp [hlapsed])))
    obtain ⟨hanswers, hdone, hports, -, -, hstate⟩ := hwritten.ended hflight { code := .lapsed, stale := stale }
    have hblocks (t : State) (hb : t.sbk = u.sbk ∧ t.dsu = u.dsu ∧ t.ciu = u.ciu ∧ t.hsu = u.hsu)
        (ht : t = { s with
          spi := t.spi, evr := t.evr, ciu := t.ciu, hsu := t.hsu, sbk := t.sbk, dsu := t.dsu, arith := t.arith
          pen := t.pen }) : t = { s with spi := t.spi, evr := t.evr, arith := t.arith, pen := t.pen } := by
      obtain ⟨htsbk, htdsu, htciu, hthsu⟩ := hb
      rwa [htsbk, htdsu, htciu, hthsu, hsbk, hdsu, hciu, hhsu] at ht
    exact ⟨_, hlapse, hanswers, hdone, (endWalk_pen ..).1.trans hlimit, (endWalk_pen ..).2.1.trans hgeneration, hports,
      hwritten.arith, hwritten.joins, hblocks _ ⟨rfl, rfl, rfl, rfl⟩ hstate⟩
  case settled =>
    have hsettle := (hexec hstands).trans (congrArg _ ((if_pos hstill).trans
      (settleConfirm_eq (by rw [hsbk, hlength]))))
    rw [slot_congr hsbk, confirmStands_seq hstill, hexpiry] at hsettle
    generalize ho : confirmOutcome v a (s.pck.seconds + s.svc.times.hold) = o at hsettle
    obtain ⟨hchanged, hcode, hmoved, hslot⟩ := (hwritten.writeLimit a.limit).slotChanged hsbk hlength j o.write
    obtain ⟨hanswers, hdone, hports, hgen, hchg, hstate⟩ := hchanged.ended hflight
      (abilityAnswer o.code stale o.value a.limit (seq + 1))
    have hwrote := hslot j
    rw [if_pos rfl] at hwrote
    refine ⟨_, hsettle, hdone, (endWalk_pen ..).1.trans hcode,
      (endWalk_pen ..).2.1.trans (hmoved.trans (congrArg (· + 1) hgeneration)), ⟨fun hcarried hcovers => ?_,
        fun hcarried hv hmax hpos => ?_, fun hunable => ?_⟩, fun m hm => ?_, hports, hchanged.arith, hchanged.joins,
      hchanged.trains, hchanged.caverns, hchanged.stores, hchanged.sbk, hgen, hchg, hstate⟩
    · obtain rfl := ho.symm.trans (confirmOutcome_committed _ hcarried hcovers)
      exact ⟨hwrote.trans (by rw [← confirmStands_seq hstill]; rfl), hanswers⟩
    · obtain rfl := ho.symm.trans (confirmOutcome_shortfall _ hcarried ⟨hv, hmax⟩ hpos)
      exact ⟨hwrote.trans (by rw [← confirmStands_seq hstill]; rfl), hanswers⟩
    · obtain rfl := ho.symm.trans (confirmOutcome_unable _ hunable)
      exact ⟨hwrote.trans (by rw [← confirmStands_seq hstill]; rfl), hanswers⟩
    · exact (hslot m).trans (by rw [if_neg hm]; rfl)

end Sys2Proof.Machine
end

section
/-! PROOFS. The completion of a recheck (O47). -/

namespace Sys2Proof.Machine

/-! ## A slot record written more than once -/

theorem modSlot_congr {s : State} {n : Nat} {f g : Slot → Slot} (h : f (s.slot n) = g (s.slot n)) :
    s.modSlot n f = s.modSlot n g := by
  simp only [State.modSlot, h]

/-- A second change of a record reads what the first one wrote. -/
theorem modSlot_modSlot (s : State) (n : Nat) (f g : Slot → Slot) :
    (s.modSlot n f).modSlot n g = s.modSlot n (fun x => g (f x)) := by
  by_cases hin : n % Config.slotCount < s.sbk.slots.length
  · have hslot : (s.modSlot n f).slot n = f (s.slot n) := by simp [State.modSlot, State.slot, hin]
    rw [State.modSlot, hslot]
    simp [State.modSlot]
  · have hset (x : Slot) : s.sbk.slots.set (n % Config.slotCount) x = s.sbk.slots :=
      List.set_eq_of_length_le (by omega)
    simp only [State.modSlot, hset]

/-! ## What a recheck writes (R113) -/

/-- Nothing of the book but margins and risk marks differs, and records join the queues. -/
structure MarksOnly (s t : State) : Prop where
  joins : EventsOnlyJoin s t
  sbk : t.sbk = { s.sbk with slots := t.sbk.slots }
  length : t.sbk.slots.length = s.sbk.slots.length
  slots : ∀ n, t.slot n = { s.slot n with
    margin := (t.slot n).margin, atRisk := (t.slot n).atRisk, atRiskSeen := (t.slot n).atRiskSeen }

namespace MarksOnly

theorem of_eq {s t : State} (hj : EventsOnlyJoin s t) (h : t.sbk = s.sbk) : MarksOnly s t :=
  ⟨hj, by rw [h], by rw [h], fun n => by rw [slot_congr h]⟩

theorem trans {a b c : State} (h : MarksOnly a b) (k : MarksOnly b c) : MarksOnly a c :=
  ⟨h.joins.trans k.joins, k.sbk.trans (by rw [h.sbk]), k.length.trans h.length,
    fun n => (k.slots n).trans (by rw [h.slots n])⟩

theorem foldl {α : Type} {f : State → α → State} (hf : ∀ s x, MarksOnly s (f s x)) (l : List α) (s : State) :
    MarksOnly s (l.foldl f s) := by
  induction l generalizing s with
  | nil => exact of_eq (.of_eq rfl) rfl
  | cons x l ih => exact (hf s x).trans (ih (f s x))

end MarksOnly

/-- An examined slot is still in the window, with the interval and the sequence of the base. -/
def stillStands (s : State) (e : Slot × WalkStep) : Bool :=
  s.inWindow e.1.interval && (s.slot e.1.interval).interval == e.1.interval && (s.slot e.1.interval).seq == e.1.seq

/-- The marks that the checks of a recheck give a slot. -/
def Slot.marked (checks : List Check) (x : Slot) : Slot :=
  let fails := !checks.all Check.passes
  { x with
    margin := some (if fails then 0 else (checks.map Check.slack).foldl min 2000000)
    atRisk := fails, atRiskSeen := x.atRiskSeen || (fails && !x.atRisk) }

theorem MarksOnly.marked (s : State) (n : Nat) (checks : List Check) :
    MarksOnly s (s.modSlot n (Slot.marked checks)) where
  joins := .of_eq rfl
  sbk := rfl
  length := State.modSlot_length ..
  slots m := by
    obtain hkept | ⟨hchanged, hshared⟩ := modSlot_slot_cases s n m (Slot.marked checks)
    · rw [hkept]
    · rw [hchanged, hshared]; rfl

/-- No mark is what an examination reads, so a later one finds every slot standing as before. -/
theorem MarksOnly.stillStands_eq {s t : State} (h : MarksOnly s t) : stillStands t = stillStands s := by
  funext e
  have hcurrent : t.sbk.current = s.sbk.current := by rw [h.sbk]
  simp only [stillStands, State.inWindow, hcurrent]
  rw [h.slots e.1.interval]

theorem marginOf_eq (checks : List Check) : marginOf checks =
    if (!checks.all Check.passes) = true then 0 else (checks.map Check.slack).foldl min 2000000 := by
  rw [marginOf]
  cases checks.all Check.passes <;> rfl

theorem markSlot_left {s : State} {e : Slot × WalkStep} (h : stillStands s e = false) : markSlot s e = s := by
  rw [markSlot]
  refine if_neg fun hstands => absurd h ?_
  simp [stillStands, hstands]

/-- A record that joins the queues writes no slot. -/
theorem emit_modSlot (kind : EventKind) (cls : EventClass) (subject : Subject) (w1 w2 : Int) (s : State) (n : Nat)
    (f : Slot → Slot) : (emit kind cls subject w1 w2 (s.modSlot n f)).sbk = (s.modSlot n f).sbk ∧
      EventsOnlyJoin s (emit kind cls subject w1 w2 (s.modSlot n f)) :=
  ⟨by simp, .trans (b := s.modSlot n f) (.of_eq rfl) (emit_joins _ _ _ _ _ _)⟩

/-- Whatever becomes of a slot that still stands, it takes the marks of its checks. -/
theorem markSlot_marked {s : State} {e : Slot × WalkStep} (h : stillStands s e = true) :
    (markSlot s e).sbk = (s.modSlot e.1.interval (Slot.marked e.2.checks)).sbk ∧ EventsOnlyJoin s (markSlot s e) := by
  have hstands : s.inWindow e.1.interval ∧ (s.slot e.1.interval).interval = e.1.interval ∧
      (s.slot e.1.interval).seq = e.1.seq := by simpa [stillStands, and_assoc] using h
  have hmarked {f : Slot → Slot} (hf : f (s.slot e.1.interval) = (s.slot e.1.interval).marked e.2.checks) :
      s.modSlot e.1.interval f = s.modSlot e.1.interval (Slot.marked e.2.checks) := modSlot_congr hf
  rw [markSlot]
  simp only [if_pos hstands, marginOf_eq, modSlot_modSlot]
  cases hpasses : e.2.checks.all Check.passes with
  | true =>
    simp only [if_true]
    cases hrisk : (s.slot e.1.interval).atRisk with
    | true =>
      rw [if_pos rfl, hmarked (by simp [Slot.marked, hpasses])]
      exact emit_modSlot ..
    | false =>
      rw [if_neg nofun, hmarked (by simp [Slot.marked, hpasses, hrisk])]
      exact ⟨rfl, .of_eq rfl⟩
  | false =>
    rw [if_neg nofun]
    cases hrisk : (s.slot e.1.interval).atRisk with
    | true =>
      rw [if_pos rfl, hmarked (by simp [Slot.marked, hpasses, hrisk])]
      exact ⟨rfl, .of_eq rfl⟩
    | false =>
      rw [if_neg nofun, hmarked (by simp [Slot.marked, hpasses, hrisk])]
      exact emit_modSlot ..

theorem MarksOnly.markSlot (s : State) (e : Slot × WalkStep) : MarksOnly s (markSlot s e) := by
  cases h : stillStands s e with
  | false => rw [markSlot_left h]; exact .of_eq (.of_eq rfl) rfl
  | true =>
    obtain ⟨hsbk, hjoins⟩ := markSlot_marked h
    obtain ⟨-, hbook, hlength, hslots⟩ := MarksOnly.marked s e.1.interval e.2.checks
    rw [← hsbk] at hbook hlength
    exact ⟨hjoins, hbook, hlength, fun n => by rw [slot_congr hsbk]; exact hslots n⟩

/-- One examination leaves every record but that of its slot. -/
theorem markSlot_slot {s : State} {e : Slot × WalkStep} {n : Nat}
    (hn : stillStands s e = true → e.1.interval % 96 ≠ n % 96) : (markSlot s e).slot n = s.slot n := by
  cases h : stillStands s e with
  | false => rw [markSlot_left h]
  | true =>
    have hset (x : Slot) (hne : e.1.interval % 96 ≠ n % 96) :
        (s.sbk.slots.set (e.1.interval % 96) x).getD (n % 96) (Slot.blank n 0) =
          s.sbk.slots.getD (n % 96) (Slot.blank n 0) := by
      simp [List.getD_eq_getElem?_getD, List.getElem?_set_ne hne]
    rw [slot_congr (markSlot_marked h).1]
    exact hset _ (hn h)

/-! ## The marks of all examined slots (R113) -/

/-- The examined slots that still stand. -/
def stillExamined (s : State) (l : List (Slot × WalkStep)) : List (Slot × WalkStep) := l.filter (stillStands s)

theorem stillExamined_marks {s t : State} (h : MarksOnly s t) (l : List (Slot × WalkStep)) :
    stillExamined t l = stillExamined s l := by
  rw [stillExamined, h.stillStands_eq]
  rfl

/-- A slot that no standing examination names stays. -/
theorem foldl_markSlot_slot {n : Nat} (l : List (Slot × WalkStep)) (s : State)
    (h : ∀ e, e ∈ stillExamined s l → e.1.interval % 96 ≠ n % 96) : (l.foldl markSlot s).slot n = s.slot n := by
  induction l generalizing s with
  | nil => rfl
  | cons e l ih =>
    rw [List.foldl_cons, ih (markSlot s e) fun x hx => ?_, markSlot_slot fun he => ?_]
    · exact h e (by simp [stillExamined, he])
    · rw [stillExamined_marks (.markSlot s e)] at hx
      exact h x (List.mem_filter.2 ⟨.tail _ (List.mem_filter.1 hx).1, (List.mem_filter.1 hx).2⟩)

/-- A standing slot takes its marks, where no other examination names its record. -/
theorem foldl_markSlot_marked {e : Slot × WalkStep} (l : List (Slot × WalkStep)) (s : State)
    (hlength : s.sbk.slots.length = 96)
    (hdistinct : (stillExamined s l).Pairwise fun x y => x.1.interval % 96 ≠ y.1.interval % 96)
    (he : e ∈ stillExamined s l) :
    (l.foldl markSlot s).slot e.1.interval = (s.slot e.1.interval).marked e.2.checks := by
  induction l generalizing s with
  | nil => simp [stillExamined] at he
  | cons x l ih =>
    have hmarks := MarksOnly.markSlot s x
    rw [List.foldl_cons]
    cases hx : stillStands s x with
    | false =>
      have hrest : stillExamined s (x :: l) = stillExamined s l := by simp [stillExamined, hx]
      rw [hrest] at hdistinct he
      rw [markSlot_left hx]
      exact ih s hlength hdistinct he
    | true =>
      have hrest : stillExamined s (x :: l) = x :: stillExamined s l := by simp [stillExamined, hx]
      rw [hrest] at hdistinct he
      obtain ⟨hfirst, hlater⟩ := List.pairwise_cons.1 hdistinct
      obtain rfl | hlate := List.mem_cons.1 he
      · rw [foldl_markSlot_slot l _ fun y hy => ?_, slot_congr (markSlot_marked hx).1,
          State.modSlot_slot s _ _ _ hlength, if_pos rfl]
        rw [stillExamined_marks hmarks] at hy
        exact (hfirst y hy).symm
      · rw [ih _ (hmarks.length.trans hlength) (by rwa [stillExamined_marks hmarks])
            (by rwa [stillExamined_marks hmarks]),
          markSlot_slot fun _ => hfirst e hlate]

theorem zip_fst_sublist {α β : Type} (l : List α) (m : List β) : ((l.zip m).map Prod.fst).Sublist l := by
  induction l generalizing m with
  | nil => exact List.nil_sublist _
  | cons x l ih =>
    cases m with
    | nil => exact List.nil_sublist _
    | cons y m => exact (ih m).cons_cons x

/-- The examined slots are some of the base's, in its order. -/
theorem examined_sublist (b : Base) (ws : List WalkStep) :
    ((examined b ws).map fun e => e.1.interval).Sublist (b.slots.map Slot.interval) := by
  have hfiltered : (examined b ws).Sublist (b.slots.zip ws) := by
    have h := (List.filter_sublist (l := (b.slots.zip ws).zipIdx)
      (p := fun p => countsSlot none (p.2 == 0) p.1.1)).map Prod.fst
    rwa [List.zipIdx_map_fst] at h
  have hintervals := (hfiltered.map Prod.fst).trans (zip_fst_sublist b.slots ws)
  have hmap := hintervals.map Slot.interval
  rwa [List.map_map] at hmap

/-- Intervals of the window that differ name different records. -/
theorem stillExamined_distinct {s : State} {b : Base} (h : (b.slots.map Slot.interval).Nodup) (ws : List WalkStep) :
    (stillExamined s (examined b ws)).Pairwise fun x y => x.1.interval % 96 ≠ y.1.interval % 96 := by
  have hnodup := (List.pairwise_map.1 (h.sublist (examined_sublist b ws))).sublist
    (List.filter_sublist (p := stillStands s))
  refine hnodup.imp_of_mem fun {x y} hx hy hne => ?_
  have hwindow {e : Slot × WalkStep} (he : e ∈ stillExamined s (examined b ws)) :
      s.sbk.current ≤ e.1.interval ∧ e.1.interval < s.sbk.current + 96 := by
    have hstands := List.of_mem_filter he
    simp only [stillStands, Bool.and_eq_true] at hstands
    exact (inWindow_iff s _).1 hstands.1.1
  have hxw := hwindow hx
  have hyw := hwindow hy
  omega

theorem exec_recheckWalkCompletion {s : State} {b : Base} {restart : Bool} (h : s.pins.resetLow = false)
    (hflight : s.pen.flight = some ⟨none, some b, restart⟩) :
    exec .recheckWalkCompletion s = .next (completeRecheck b s) := by
  have hexec : exec .recheckWalkCompletion s = .next (live completeFlownRecheck s) := rfl
  rw [hexec, live, if_neg (by simp [h]), completeFlownRecheck, hflight]

/-- Settles O47: over its captures a recheck is a fold of marks, and no mark is what a later examination reads. -/
theorem recheckWritesMarksOnly : Obligations.RecheckWritesMarksOnly := by
  intro s b re hreset hflight
  have hcaptures := CapturesOnly.foldl (CapturesOnly.raiseWalk b none) (trackExcs (walk b none) true) s
  have hcompleted : completeRecheck b s = freeEngine ((examined b (walk b none)).foldl markSlot
    ((trackExcs (walk b none) true).foldl (raiseWalk b none) s)) := rfl
  generalize (trackExcs (walk b none) true).foldl (raiseWalk b none) s = u at hcaptures hcompleted
  obtain ⟨hsbk, hpen, -⟩ := hcaptures.blocks
  have hmarks : MarksOnly s ((examined b (walk b none)).foldl markSlot u) :=
    (MarksOnly.of_eq hcaptures.joins hsbk).trans (.foldl .markSlot _ u)
  have hstill : stillExamined u (examined b (walk b none)) = stillExamined s (examined b (walk b none)) :=
    stillExamined_marks (.of_eq hcaptures.joins hsbk) _
  obtain ⟨-, -, -, -, -, -, -, harith, hmarkedPen, -⟩ := foldl_markSlot_frame (examined b (walk b none)) u
  have hslots (n : Nat) : u.slot n = s.slot n := slot_congr hsbk n
  have hstate : completeRecheck b s = { s with
      evr := (completeRecheck b s).evr, arith := (completeRecheck b s).arith, sbk := (completeRecheck b s).sbk
      pen := (completeRecheck b s).pen } := by
    obtain ⟨hpins, hspi, hilr, hpck, hciu, hhsu, hdsu, hsvc, hpending⟩ := completeRecheck_frame b s
    rw [← hpins, ← hspi, ← hilr, ← hpck, ← hciu, ← hhsu, ← hdsu, ← hsvc, ← hpending]
  rw [hcompleted] at hstate
  refine ⟨_, (exec_recheckWalkCompletion hreset hflight).trans (congrArg _ hcompleted), ?_,
    ⟨fun hlength hnodup e he => ?_, fun n hn => ?_⟩, fun n => ?_, hmarks.sbk, ?_, hmarks.joins, hstate⟩
  · rw [freeEngine, hmarkedPen, hpen]
  · rw [← hslots]
    refine foldl_markSlot_marked _ u (by rw [hsbk, hlength]) ?_ ?_ <;> rw [hstill]
    exacts [stillExamined_distinct hnodup _, he]
  · exact (foldl_markSlot_slot _ u (by rwa [hstill])).trans (hslots n)
  · have hkept : (freeEngine ((examined b (walk b none)).foldl markSlot u)).slot n = _ := hmarks.slots n
    rw [hkept]
    exact ⟨rfl, rfl, rfl, rfl, rfl, rfl⟩
  · exact hcaptures.arith.trans (by rw [ArithKept, freeEngine]; simp only; rw [harith])

end Sys2Proof.Machine
end

section
/-! PROOFS. The steps of a split over any set of trains (O51). -/

namespace Sys2Proof.Machine

/-! ## The residual of a split (R134, step 5) -/

/-- A target lies within its train's minimum stable load and capability. -/
def TargetFits (y : Share × Nat) : Prop := y.1.min ≤ y.2 ∧ y.2 ≤ y.1.cap

theorem giveResidual_fits {l : List (Share × Nat)} (h : ∀ y ∈ l, TargetFits y) (left : Nat) :
    ∀ y ∈ giveResidual left l, y.1 ∈ l.map Prod.fst ∧ TargetFits y := by
  induction l generalizing left with
  | nil => exact nofun
  | cons z l ih =>
    obtain ⟨x, t⟩ := z
    have hhead : x.min ≤ t ∧ t ≤ x.cap := h _ List.mem_cons_self
    intro y hy
    rcases List.mem_cons.1 hy with rfl | hy
    · exact ⟨List.mem_cons_self, by simp only [TargetFits]; omega⟩
    · obtain ⟨hmem, hfits⟩ := ih (fun w hw => h w (List.mem_cons_of_mem _ hw)) _ y hy
      exact ⟨List.mem_cons_of_mem _ hmem, hfits⟩

theorem takeResidual_fits {l : List (Share × Nat)} (h : ∀ y ∈ l, TargetFits y) (left : Nat) :
    ∀ y ∈ takeResidual left l, y.1 ∈ l.map Prod.fst ∧ TargetFits y := by
  induction l generalizing left with
  | nil => exact nofun
  | cons z l ih =>
    obtain ⟨x, t⟩ := z
    have hhead : x.min ≤ t ∧ t ≤ x.cap := h _ List.mem_cons_self
    intro y hy
    rcases List.mem_cons.1 hy with rfl | hy
    · exact ⟨List.mem_cons_self, by simp only [TargetFits]; omega⟩
    · obtain ⟨hmem, hfits⟩ := ih (fun w hw => h w (List.mem_cons_of_mem _ hw)) _ y hy
      exact ⟨List.mem_cons_of_mem _ hmem, hfits⟩

/-- What the trains of a set can still take up is given away in full. -/
theorem giveResidual_sum {l : List (Share × Nat)} (h : ∀ y ∈ l, TargetFits y) {left : Nat}
    (hleft : (l.map Prod.snd).sum + left ≤ (l.map (fun y => y.1.cap)).sum) :
    ((giveResidual left l).map Prod.snd).sum = (l.map Prod.snd).sum + left := by
  induction l generalizing left with
  | nil =>
    obtain rfl : left = 0 := by simpa using hleft
    rfl
  | cons z l ih =>
    obtain ⟨x, t⟩ := z
    have hhead : x.min ≤ t ∧ t ≤ x.cap := h _ List.mem_cons_self
    have hrest : (l.map Prod.snd).sum ≤ (l.map (fun y => y.1.cap)).sum :=
      List.sum_le_sum fun y hy => (h y (List.mem_cons_of_mem _ hy)).2
    simp only [List.map_cons, List.sum_cons] at hleft
    simp only [giveResidual, List.map_cons, List.sum_cons]
    rw [ih (fun w hw => h w (List.mem_cons_of_mem _ hw)) (by omega)]
    omega

/-- What the trains of a set can still give up is taken away in full. -/
theorem takeResidual_sum {l : List (Share × Nat)} (h : ∀ y ∈ l, TargetFits y) {left : Nat}
    (hleft : (l.map (fun y => y.1.min)).sum + left ≤ (l.map Prod.snd).sum) :
    ((takeResidual left l).map Prod.snd).sum + left = (l.map Prod.snd).sum := by
  induction l generalizing left with
  | nil => simpa [takeResidual] using hleft
  | cons z l ih =>
    obtain ⟨x, t⟩ := z
    have hhead : x.min ≤ t ∧ t ≤ x.cap := h _ List.mem_cons_self
    have hrest : (l.map (fun y => y.1.min)).sum ≤ (l.map Prod.snd).sum :=
      List.sum_le_sum fun y hy => (h y (List.mem_cons_of_mem _ hy)).1
    simp only [List.map_cons, List.sum_cons] at hleft
    simp only [takeResidual, List.map_cons, List.sum_cons]
    have htail := ih (fun w hw => h w (List.mem_cons_of_mem _ hw)) (left := left - min left (t - x.min)) (by omega)
    omega

/-! ## The proportional targets (R134, step 5) -/

/-- The proportional target of a train, not below its minimum stable load. -/
def firstTarget (power : Nat) (xs : List Share) (x : Share) : Share × Nat :=
  (x, max x.min (power * x.cap / sumCap xs))

section Proportional
variable {power : Nat} {xs : List Share}

theorem proportional_eq (power : Nat) (xs : List Share) : proportional power xs =
    if ((xs.map (firstTarget power xs)).map Prod.snd).sum ≤ power then
      giveResidual (power - ((xs.map (firstTarget power xs)).map Prod.snd).sum) (xs.map (firstTarget power xs))
    else (takeResidual (((xs.map (firstTarget power xs)).map Prod.snd).sum - power)
      (xs.map (firstTarget power xs)).reverse).reverse := rfl

theorem firstTarget_fits (hmin : ∀ x ∈ xs, x.min ≤ x.cap) (hcap : power ≤ sumCap xs) :
    ∀ y ∈ xs.map (firstTarget power xs), TargetFits y := by
  intro y hy
  obtain ⟨x, hx, rfl⟩ := List.mem_map.1 hy
  have hshare : power * x.cap / sumCap xs ≤ x.cap := Nat.div_le_of_le_mul (Nat.mul_le_mul_right _ hcap)
  exact ⟨Nat.le_max_left .., Nat.max_le.2 ⟨hmin x hx, hshare⟩⟩

theorem proportional_fits (hmin : ∀ x ∈ xs, x.min ≤ x.cap) (hcap : power ≤ sumCap xs) :
    ∀ y ∈ proportional power xs, y.1 ∈ xs ∧ TargetFits y := by
  have hfits := firstTarget_fits hmin hcap
  have hfirst : (xs.map (firstTarget power xs)).map Prod.fst = xs := by
    simp [firstTarget, Function.comp_def]
  rw [proportional_eq]
  split
  · intro y hy
    simpa only [hfirst] using giveResidual_fits hfits _ y hy
  · intro y hy
    have hrev := takeResidual_fits (fun w hw => hfits w (List.mem_reverse.1 hw)) _ y (List.mem_reverse.1 hy)
    simpa only [List.map_reverse, List.mem_reverse, hfirst] using hrev

theorem proportional_sum (hmin : ∀ x ∈ xs, x.min ≤ x.cap) (hcap : power ≤ sumCap xs) (hlow : sumMin xs ≤ power) :
    ((proportional power xs).map Prod.snd).sum = power := by
  have hfits := firstTarget_fits hmin hcap
  have hcaps : ((xs.map (firstTarget power xs)).map (fun y => y.1.cap)).sum = sumCap xs := by
    simp [sumCap, firstTarget, Function.comp_def]
  have hmins : ((xs.map (firstTarget power xs)).map (fun y => y.1.min)).sum = sumMin xs := by
    simp [sumMin, firstTarget, Function.comp_def]
  rw [proportional_eq]
  split
  case isTrue hle => rw [giveResidual_sum hfits (by omega)]; omega
  case isFalse hgt =>
    have htaken := takeResidual_sum (fun w hw => hfits w (List.mem_reverse.1 hw))
      (left := ((xs.map (firstTarget power xs)).map Prod.snd).sum - power)
      (by simp only [List.map_reverse, List.sum_reverse]; omega)
    simp only [List.map_reverse, List.sum_reverse] at htaken ⊢
    omega

end Proportional

/-! ## The steps of a split (R134) -/

/-- Trains stand by from the front only. -/
theorem standBy_suffix (power : Nat) (xs : List Share) : standBy power xs <:+ xs := by
  induction xs with
  | nil => exact List.suffix_rfl
  | cons x rest ih =>
    cases rest with
    | nil => exact List.suffix_rfl
    | cons y rest =>
      rw [standBy]
      split
      exacts [ih.trans (List.suffix_cons x _), List.suffix_rfl]

/-- Trains stand by until the minima are covered or one train is left. -/
theorem standBy_covers (power : Nat) (xs : List Share) :
    sumMin (standBy power xs) ≤ power ∨ ∃ x, standBy power xs = [x] := by
  induction xs with
  | nil => exact .inl (Nat.zero_le _)
  | cons x rest ih =>
    cases rest with
    | nil => exact .inr ⟨x, rfl⟩
    | cons y rest =>
      rw [standBy]
      split
      case isTrue => exact ih
      case isFalse h => exact .inl (Nat.le_of_not_lt h)

/-- The trains of a set that stay once step 1 is done, in train order. -/
def staying (power : Nat) (xs : List Share) : List Share := (standBy power xs.reverse).reverse

theorem mem_of_mem_staying {power : Nat} {xs : List Share} {x : Share} (h : x ∈ staying power xs) : x ∈ xs :=
  List.mem_reverse.1 ((standBy_suffix power xs.reverse).subset (List.mem_reverse.1 h))

theorem staying_covers (power : Nat) (xs : List Share) :
    sumMin (staying power xs) ≤ power ∨ ∃ x, staying power xs = [x] := by
  rcases standBy_covers power xs.reverse with h | ⟨x, h⟩
  · refine .inl ?_
    simpa only [sumMin, staying, List.map_reverse, List.sum_reverse] using h
  · exact .inr ⟨x, by rw [staying, h]; rfl⟩

/-- Where the steps of a split end, and with which targets (R134). -/
inductive PlanEnds (power : Nat) (set : List Share) : Plan → Prop where
  | zero : PlanEnds power set ⟨[], .zero⟩
  | capped : PlanEnds power set ⟨set.map (fun x => (x, x.cap)), .short⟩
  | below : PlanEnds power set ⟨[], .short⟩
  | covered (hcap : power ≤ sumCap set) (hmin : sumMin set ≤ power) :
      PlanEnds power set ⟨proportional power set, .covered⟩

theorem plan_ends (power : Nat) (xs : List Share) : PlanEnds power (staying power xs) (plan power xs) := by
  have hcovers := staying_covers power xs
  have hplan : plan power xs = if power = 0 then ⟨[], .zero⟩
      else if sumCap (staying power xs) < power then ⟨(staying power xs).map (fun x => (x, x.cap)), .short⟩
      else match staying power xs with
        | [x] => if power < x.min then ⟨[], .short⟩ else ⟨proportional power [x], .covered⟩
        | _ => ⟨proportional power (staying power xs), .covered⟩ := rfl
  rw [hplan]
  generalize staying power xs = set at hcovers
  split
  case isTrue => exact .zero
  case isFalse =>
    split
    case isTrue => exact .capped
    case isFalse hcap =>
      split
      case h_1 x =>
        split
        case isTrue => exact .below
        case isFalse hmin => exact .covered (Nat.le_of_not_lt hcap) (by simpa [sumMin] using hmin)
      case h_2 hmany =>
        rcases hcovers with hmin | ⟨x, hx⟩
        · exact .covered (Nat.le_of_not_lt hcap) hmin
        · exact absurd hx (hmany x)

/-- Settles O51: a covered split is proportional over trains whose minima the power covers and whose capabilities cover
the power, so the residual is distributed in full. -/
theorem splitMeetsTarget : Obligations.SplitMeetsTarget := by
  intro power xs hxs
  have hmem (x : Share) (hx : x ∈ staying power xs) : x ∈ xs := mem_of_mem_staying hx
  have hmin (x : Share) (hx : x ∈ staying power xs) : x.min ≤ x.cap := hxs x (hmem x hx)
  have hends := plan_ends power xs
  generalize plan power xs = pl at hends ⊢
  cases hends with
  | zero => exact ⟨nofun, nofun⟩
  | below => exact ⟨nofun, nofun⟩
  | capped =>
    refine ⟨nofun, fun y hy => ?_⟩
    obtain ⟨x, hx, rfl⟩ := List.mem_map.1 hy
    exact ⟨hmem x hx, Nat.le_refl _⟩
  | covered hcap hlow =>
    refine ⟨fun _ => ⟨proportional_sum hmin hcap hlow, fun y hy => ?_⟩, fun y hy => ?_⟩
    · exact (proportional_fits hmin hcap y hy).2.1
    · obtain ⟨hy, -, hle⟩ := proportional_fits hmin hcap y hy
      exact ⟨hmem _ hy, hle⟩

end Sys2Proof.Machine
end

section
/-! PROOFS. What a split leaves of the orders, the permits and the queue. -/

namespace Sys2Proof.Machine

/-! ## Orders committed and staged (R135, R136) -/

/-- A train's order is committed and its next order staged: the target, the ramp rate and the mark stand, and so does
all of the record that no split writes. -/
def TrainRec.Followed (r x : TrainRec) : Prop := x = { r with
  order := { r.order with seq := x.order.seq }, nextOrder := x.nextOrder, stagedSeq := x.stagedSeq
  settlePending := x.settlePending, settleCount := x.settleCount }

theorem TrainRec.Followed.trans {a b c : TrainRec} (h : a.Followed b) (k : b.Followed c) : a.Followed c :=
  Eq.trans k (by rw [h])

/-- The queue and the view stand, and every train is followed. -/
structure OrdersFollowed (s t : State) : Prop where
  queue : t.dsu.queue = s.dsu.queue
  view : t.dsu.view = s.dsu.view
  trains : ∀ tr, (s.train tr).Followed (t.train tr)

namespace OrdersFollowed

theorem of_eq {s t : State} (h : t.dsu = s.dsu) : OrdersFollowed s t :=
  ⟨by rw [h], by rw [h], fun tr => by rw [State.train, State.train, h]; rfl⟩

theorem refl (s : State) : OrdersFollowed s s := of_eq rfl

theorem trans {a b c : State} (h : OrdersFollowed a b) (k : OrdersFollowed b c) : OrdersFollowed a c :=
  ⟨k.queue.trans h.queue, k.view.trans h.view, fun tr => (h.trains tr).trans (k.trains tr)⟩

theorem foldl {α : Type} {f : State → α → State} (hf : ∀ s x, OrdersFollowed s (f s x)) (l : List α) (s : State) :
    OrdersFollowed s (l.foldl f s) := by
  induction l generalizing s with
  | nil => exact refl s
  | cons x l ih => exact (hf s x).trans (ih (f s x))

theorem modTrain {f : TrainRec → TrainRec} (hf : ∀ r : TrainRec, r.Followed (f r)) (s : State) (t : Train) :
    OrdersFollowed s (s.modTrain t f) where
  queue := by simp [State.modTrain_dsu]
  view := by simp [State.modTrain_dsu]
  trains tr := by
    rw [State.modTrain_train]
    split
    case isTrue h => rw [h]; exact hf _
    case isFalse => rfl

theorem emit (kind : EventKind) (cls : EventClass) (subject : Subject) (w1 w2 : Int) (s : State) :
    OrdersFollowed s (emit kind cls subject w1 w2 s) := of_eq (by simp)

theorem commitOrder (before : Dsu) (s : State) (t : Train) : OrdersFollowed s (commitOrder before s t) := by
  simp only [Machine.commitOrder]
  split
  · exact refl s
  · exact (modTrain (by exact fun _ => rfl) s t).trans (emit ..)

theorem commitOrders (before : Dsu) (s : State) : OrdersFollowed s (commitOrders before s) :=
  foldl (commitOrder before) allTrains s

theorem stageOrder (pl : Plan) (interval : Nat) (s : State) (t : Train) :
    OrdersFollowed s (stageOrder pl interval s t) := by
  simp only [Machine.stageOrder]
  repeat' split
  · exact modTrain (by exact fun _ => rfl) s t
  · exact ((modTrain (by exact fun _ => rfl) s t).trans (modTrain (by exact fun _ => rfl) _ t)).trans (emit ..)
  · exact modTrain (by exact fun _ => rfl) s t

theorem stagedSplit (s : State) : OrdersFollowed s (stagedSplit s) := by
  simp only [Machine.stagedSplit]
  repeat' split
  exacts [foldl (stageOrder _ _) allTrains s, refl s, refl s]

end OrdersFollowed

/-- Staging gives a next order to GRANTED and RUNNING trains only (R136). -/
theorem stagedSplit_nextOrder {s : State} {tr : Train} (hpermit : (s.train tr).permit.holdsOrder = false)
    (hnext : (s.train tr).nextOrder = none) : ((stagedSplit s).train tr).nextOrder = none := by
  have hstage (pl : Plan) (interval : Nat) (l : List Train) (u : State)
      (hu : (u.train tr).permit.holdsOrder = false ∧ (u.train tr).nextOrder = none) :
      ((l.foldl (stageOrder pl interval) u).train tr).nextOrder = none := by
    induction l generalizing u with
    | nil => exact hu.2
    | cons t l ih =>
      refine ih _ ⟨?_, ?_⟩
      · rw [(OrdersFollowed.stageOrder pl interval u t).trains tr]
        exact hu.1
      · by_cases h : tr = t
        · subst h
          simp [stageOrder, hu.1]
        · simp only [stageOrder]
          repeat' split
          all_goals simp [emit_train, h, hu.2]
  simp only [stagedSplit]
  repeat' split
  exacts [hstage _ _ _ s ⟨hpermit, hnext⟩, hnext, hnext]

/-! ## A split as a whole (R133 to R136) -/

section RunSplit
variable (before : Dsu) (s : State)

theorem split_queue : (split s).dsu.queue = s.dsu.queue := by
  simp [split, setOrder, allTrains, State.modTrain_dsu]

theorem split_view : (split s).dsu.view = s.dsu.view := (ViewKept.split s).view

theorem runSplit_followed : OrdersFollowed (split s) (runSplit before s) :=
  (OrdersFollowed.commitOrders before _).trans (.stagedSplit _)

theorem runSplit_queue : (runSplit before s).dsu.queue = s.dsu.queue :=
  (runSplit_followed before s).queue.trans (split_queue s)

theorem runSplit_view : (runSplit before s).dsu.view = s.dsu.view :=
  (runSplit_followed before s).view.trans (split_view s)

/-- Every train has the split's target at its ramp limit, and keeps its mark and all that no split writes. -/
theorem runSplit_train (tr : Train) : TrainRec.Followed { s.train tr with
    order := { (s.train tr).order with target := s.splitPlan.target tr, ramp := (s.train tr).rampLimit } }
    ((runSplit before s).train tr) := by
  rw [← split_train]
  exact (runSplit_followed before s).trains tr

/-- A split run again has the same targets. -/
theorem runSplit_splitPlan : (runSplit before s).splitPlan = s.splitPlan :=
  splitPlan_congr (by simp) (runSplit_view before s) fun tr => by rw [runSplit_train before s tr]; rfl

/-- Every order has the split's target and the train's ramp limit (R133, R134). -/
theorem runSplit_order (tr : Train) :
    ((runSplit before s).train tr).order.target = (runSplit before s).splitPlan.target tr ∧
      ((runSplit before s).train tr).order.ramp = ((runSplit before s).train tr).rampLimit := by
  rw [runSplit_splitPlan, runSplit_train before s tr]
  exact ⟨rfl, rfl⟩

theorem runSplit_permit (tr : Train) : ((runSplit before s).train tr).permit = (s.train tr).permit := by
  rw [runSplit_train before s tr]

end RunSplit

/-! ## Targets and the law of an order (R135) -/

/-- The law of one order: at most the capability, and 0 where the train is not GRANTED or RUNNING, or is HELD. -/
def TrainRec.OrderLawful (r : TrainRec) : Prop :=
  r.order.target ≤ r.cap ∧ (r.permit.holdsOrder = false ∨ r.order.held = true → r.order.target = 0)

theorem ordersLawful_iff (s : State) : OrdersLawful s ↔ ∀ tr, (s.train tr).OrderLawful := Iff.rfl

theorem orderLawful_of_zero {r : TrainRec} (h : r.order.target = 0) : r.OrderLawful :=
  ⟨h ▸ Nat.zero_le _, fun _ => h⟩

theorem mem_shareSet {d : Dsu} {power : Int} {x : Share} (h : x ∈ shareSet d power false) :
    x.cap = (d.get x.train).cap ∧ x.min = (d.get x.train).minLoad ∧ sharesIn (d.get x.train) power x.train = true := by
  rw [shareSet] at h
  split at h
  case isTrue => cases h
  case isFalse =>
    obtain ⟨t, ht, rfl⟩ := List.mem_map.1 h
    refine ⟨rfl, rfl, ?_⟩
    simpa [sharesIn] using (List.mem_filter.1 ht).2

theorem shareSet_min_le_cap {d : Dsu} {power : Int} : ∀ x ∈ shareSet d power false, x.min ≤ x.cap := by
  intro x hx
  obtain ⟨hcap, hmin, hin⟩ := mem_shareSet hx
  simp only [sharesIn, TrainRec.able, Bool.and_eq_true, decide_eq_true_eq] at hin
  rw [hcap, hmin]
  exact hin.2.2

/-- A train that the split gives a target carries a share, and the target is within its capability. -/
theorem splitPlan_target_lawful (s : State) (tr : Train) : s.splitPlan.target tr = 0 ∨
    (s.splitPlan.target tr ≤ (s.train tr).cap ∧ sharesIn (s.train tr) s.splitPower tr = true) := by
  rw [Plan.target]
  split
  case h_2 => exact .inl rfl
  case h_1 y hy =>
    have htrain : y.1.train = tr := by simpa using List.find?_some hy
    obtain ⟨hin, hle⟩ := (splitMeetsTarget s.splitPower.natAbs _ shareSet_min_le_cap).2 y (List.mem_of_find?_eq_some hy)
    obtain ⟨hcap, -, hshares⟩ := mem_shareSet hin
    rw [htrain] at hcap hshares
    exact .inr ⟨hle.trans_eq hcap, hshares⟩

/-- A split leaves every order within its law, whatever the orders were. -/
theorem runSplit_ordersLawful (before : Dsu) (s : State) : OrdersLawful (runSplit before s) := by
  refine (ordersLawful_iff _).2 fun tr => ?_
  rw [runSplit_train before s tr]
  rcases splitPlan_target_lawful s tr with hzero | ⟨hcap, hshares⟩
  · exact orderLawful_of_zero hzero
  · simp only [sharesIn, Bool.and_eq_true, Bool.not_eq_true'] at hshares
    obtain ⟨⟨⟨-, hpermit⟩, hheld⟩, -⟩ := hshares
    exact ⟨hcap, fun h => by simp [hpermit, hheld] at h⟩

end Sys2Proof.Machine
end

section
/-! PROOFS. The permit queue, the orders and the engine: what keeps their laws, from one record changed to the answers
of the Dispatch Unit and the hand-offs of an event. -/

namespace Sys2Proof.Machine

/-! ## The laws that a step keeps (R94, R123, R135) -/

/-- The queue that matches the permits, and the engine with nothing waiting while it is free, stay so. -/
structure QueueKept (s t : State) : Prop where
  queue : QueueMatchesPermits s → QueueMatchesPermits t
  engine : EngineSettled s → EngineSettled t

/-- These laws are kept, and so is the law of the orders. -/
structure Orderly (s t : State) : Prop extends QueueKept s t where
  orders : OrdersLawful s → OrdersLawful t

/-- Nothing waits at an engine that is free (R94). -/
def Pen.Settled (x : Pen) : Prop := x.flight = none → x.recheckFlag = false ∧ x.waiting = none

theorem engineSettled_iff (s : State) : EngineSettled s ↔ (s.pins.resetLow = false → s.pen.Settled) := Iff.rfl

theorem queueMatches_congr {s t : State} (hqueue : t.dsu.queue = s.dsu.queue)
    (hpermit : ∀ tr, (t.train tr).permit = .queued ↔ (s.train tr).permit = .queued) :
    QueueMatchesPermits s → QueueMatchesPermits t := fun ⟨hnodup, hmem⟩ =>
  ⟨hqueue ▸ hnodup, fun tr => by rw [hqueue, hmem, hpermit]⟩

/-- A train leaves the queue and its QUEUED permit together. -/
theorem queueMatches_left {s u : State} {t : Train} (hqueue : u.dsu.queue = s.dsu.queue.filter (fun x => x ≠ t))
    (ht : (u.train t).permit ≠ .queued) (hothers : ∀ tr, tr ≠ t → (u.train tr).permit = (s.train tr).permit) :
    QueueMatchesPermits s → QueueMatchesPermits u := by
  refine fun ⟨hnodup, hmem⟩ => ⟨hqueue ▸ hnodup.filter _, fun tr => ?_⟩
  rw [hqueue, List.mem_filter, hmem]
  by_cases h : tr = t
  · subst h; simp [ht]
  · simp [h, hothers tr h]

theorem engineSettled_congr {s t : State} (hpins : t.pins = s.pins) (hpen : WalkKept s t) :
    EngineSettled s → EngineSettled t := by
  rw [engineSettled_iff, engineSettled_iff, hpins, hpen]
  exact id

namespace QueueKept

theorem refl (s : State) : QueueKept s s := ⟨id, id⟩

theorem trans {a b c : State} (h : QueueKept a b) (k : QueueKept b c) : QueueKept a c :=
  ⟨k.queue ∘ h.queue, k.engine ∘ h.engine⟩

theorem foldl {α : Type} {f : State → α → State} (hf : ∀ s x, QueueKept s (f s x)) (l : List α) (s : State) :
    QueueKept s (l.foldl f s) := by
  induction l generalizing s with
  | nil => exact refl s
  | cons x l ih => exact (hf s x).trans (ih (f s x))

theorem modTrain {s : State} {t : Train} {f : TrainRec → TrainRec}
    (h : (f (s.train t)).permit = .queued ↔ (s.train t).permit = .queued) : QueueKept s (s.modTrain t f) where
  queue := queueMatches_congr (by simp [State.modTrain_dsu]) fun tr => by
    rw [State.modTrain_train]
    split
    case isTrue hx => rw [hx, h]
    case isFalse => rfl
  engine := engineSettled_congr rfl (.of_eq rfl)

end QueueKept

namespace Orderly

theorem refl (s : State) : Orderly s s := ⟨.refl s, id⟩

theorem trans {a b c : State} (h : Orderly a b) (k : Orderly b c) : Orderly a c :=
  ⟨h.toQueueKept.trans k.toQueueKept, k.orders ∘ h.orders⟩

theorem foldl {α : Type} {f : State → α → State} (hf : ∀ s x, Orderly s (f s x)) (l : List α) (s : State) :
    Orderly s (l.foldl f s) := by
  induction l generalizing s with
  | nil => exact refl s
  | cons x l ih => exact (hf s x).trans (ih (f s x))

/-- Permits, capabilities, orders and the queue stand, and no walk starts, waits or ends. -/
theorem of_trains {s t : State} (hpins : t.pins = s.pins) (hqueue : t.dsu.queue = s.dsu.queue)
    (htrains : ∀ tr, (t.train tr).permit = (s.train tr).permit ∧ (t.train tr).cap = (s.train tr).cap ∧
      (t.train tr).order.target = (s.train tr).order.target ∧ (t.train tr).order.held = (s.train tr).order.held)
    (hpen : WalkKept s t) : Orderly s t where
  queue := queueMatches_congr hqueue fun tr => by rw [(htrains tr).1]
  engine := engineSettled_congr hpins hpen
  orders h tr := by
    obtain ⟨hpermit, hcap, htarget, hheld⟩ := htrains tr
    rw [hpermit, hcap, htarget, hheld]
    exact h tr

theorem of_walk {s t : State} (hpen : WalkKept s t) (hpins : t.pins = s.pins := by simp)
    (hdsu : t.dsu = s.dsu := by simp) : Orderly s t :=
  of_trains hpins (by rw [hdsu]) (fun tr => by simp [State.train, hdsu]) hpen

/-- Pins, Dispatch Unit and engine stand. -/
theorem of_frame {s t : State} (hpins : t.pins = s.pins := by simp) (hdsu : t.dsu = s.dsu := by simp)
    (hpen : t.pen = s.pen := by simp) : Orderly s t := of_walk (.of_eq hpen) hpins hdsu

/-- The engine has looked at what waits. -/
theorem of_settled {s t : State} (hpen : t.pen.Settled) (hdsu : t.dsu = s.dsu := by simp) : Orderly s t where
  queue := queueMatches_congr (by rw [hdsu]) fun tr => by simp [State.train, hdsu]
  engine _ _ := hpen
  orders h tr := by
    have htrain : t.train tr = s.train tr := by simp [State.train, hdsu]
    rw [htrain]
    exact h tr

theorem modTrain {s : State} {t : Train} {f : TrainRec → TrainRec}
    (hpermit : (f (s.train t)).permit = .queued ↔ (s.train t).permit = .queued)
    (horder : (s.train t).OrderLawful → (f (s.train t)).OrderLawful) : Orderly s (s.modTrain t f) where
  toQueueKept := .modTrain hpermit
  orders h := (ordersLawful_iff _).2 fun tr => by
    rw [State.modTrain_train]
    split
    · exact horder (h t)
    · exact h tr

theorem emit (kind : EventKind) (cls : EventClass) (subject : Subject) (w1 w2 : Int) (s : State) :
    Orderly s (emit kind cls subject w1 w2 s) := .of_frame

theorem followed {s t : State} (h : OrdersFollowed s t) (hpins : t.pins = s.pins := by simp)
    (hpen : t.pen = s.pen := by simp) : Orderly s t :=
  of_trains hpins h.queue (fun tr => by rw [h.trains tr]; exact ⟨rfl, rfl, rfl, rfl⟩) (.of_eq hpen)

theorem stagedSplit (s : State) : Orderly s (stagedSplit s) := .followed (.stagedSplit s)

end Orderly

/-- A split brings every order within its law, so the law of the orders may be out before it. -/
theorem QueueKept.runSplit {s u : State} (h : QueueKept s u) (before : Dsu) : Orderly s (runSplit before u) where
  queue hs := queueMatches_congr (runSplit_queue before u) (fun tr => by rw [runSplit_permit]) (h.queue hs)
  engine hs := engineSettled_congr (by simp) (.of_eq (by simp)) (h.engine hs)
  orders _ := runSplit_ordersLawful before u

/-! ## The engine (R94, R114) -/

namespace Orderly

theorem bumpGeneration (s : State) : Orderly s (bumpGeneration s) := .of_walk rfl

theorem evalHold (s : State) : Orderly s (evalHold s) := .of_walk (by rw [WalkKept, evalHold_pen])

theorem inventoryChangeIf (changed : Bool) (s : State) : Orderly s (inventoryChangeIf changed s) := by
  rw [Machine.inventoryChangeIf]
  split
  exacts [(bumpGeneration s).trans (evalHold _), refl s]

theorem postRecheck (s : State) : Orderly s (postRecheck s) := by
  rw [Machine.postRecheck]
  split
  exacts [refl s, .of_settled (Pen.takeUp_settled _) rfl]

theorem postRecheckInService (s : State) : Orderly s (postRecheckInService s) := by
  rw [Machine.postRecheckInService]
  split
  exacts [postRecheck s, refl s]

end Orderly

/-- A change of capability is handed on with a recheck request (R95, R128, R138). -/
theorem QueueKept.posted {s u : State} (h : QueueKept s u) : QueueKept s (postRecheck (bumpGeneration u)) :=
  (h.trans (Orderly.bumpGeneration u).toQueueKept).trans (Orderly.postRecheck _).toQueueKept

/-! ## Grants and lapses (R122 to R125) -/

theorem attachTrain_queue (t : Train) (a : Attachment) (s : State) : (attachTrain t a s).dsu.queue = s.dsu.queue := by
  simp [attachTrain, attachCavern, attachStore, State.modTrain_dsu]

/-- A grant takes a train out of the queue. -/
theorem grantQueued_orderly (t : Train) (a : Attachment) (s : State) : Orderly s (grantQueued t a s) := by
  have hrecord (tr : Train) : ({ s with dsu := { s.dsu with queue := s.dsu.queue.filter (fun x => x ≠ t) } } :
      State).train tr = s.train tr := by cases tr <;> rfl
  refine QueueKept.runSplit ⟨?_, engineSettled_congr (by simp) (.of_eq (by simp))⟩ _
  refine queueMatches_left (t := t) ?_ ?_ fun tr htr => ?_
  · rw [(emit_frame ..).2.2.2.2.2.2.2.1, attachTrain_queue]
  · rw [emit_train, attachTrain_train, if_pos rfl]
    nofun
  · rw [emit_train, attachTrain_train, if_neg htr, hrecord]

/-- A grant that answers REQUEST RUN finds the train outside the queue. -/
theorem grant_orderly {t : Train} {s : State} (h : (s.train t).permit ≠ .queued) (a : Attachment) :
    Orderly s (grant t a s) := by
  refine QueueKept.runSplit ⟨queueMatches_congr (attachTrain_queue t a s) fun tr => ?_,
    engineSettled_congr (by simp) (.of_eq (by simp))⟩ _
  rw [attachTrain_train]
  split
  case isTrue hx => rw [hx]; exact ⟨nofun, fun hq => absurd hq h⟩
  case isFalse => rfl

theorem examineEntry_orderly (s : State) (t : Train) : Orderly s (examineEntry s t) := by
  simp only [examineEntry]
  repeat' split
  exacts [grantQueued_orderly .., .refl s, .refl s]

theorem examineQueue_orderly (s : State) : Orderly s (examineQueue s) := .foldl examineEntry_orderly _ s

theorem examineIf_orderly (asked : Bool) (s : State) : Orderly s (examineIf asked s) := by
  rw [examineIf]
  split
  exacts [examineQueue_orderly s, .refl s]

theorem examineIfAdmitted_orderly (before : View) (s : State) : Orderly s (examineIfAdmitted before s) :=
  examineIf_orderly ((s.dsu.view.admitsGen && !before.admitsGen) || (s.dsu.view.admitsChg && !before.admitsChg)) s

theorem lapsePermit_train (cause : Nat) (s : State) (t tr : Train) : (lapsePermit cause s t).train tr =
    if tr = t then { s.train t with permit := .off, prefs := none } else s.train tr := by
  rw [lapsePermit, emit_train, State.modTrain_train]
  cases tr <;> cases t <;> rfl

theorem lapsePermit_queue (cause : Nat) (s : State) (t : Train) :
    (lapsePermit cause s t).dsu.queue = s.dsu.queue.filter (fun x => x ≠ t) := by
  simp [lapsePermit, State.modTrain_dsu]

theorem lapsePermit_queueKept (cause : Nat) (s : State) (t : Train) : QueueKept s (lapsePermit cause s t) where
  queue := queueMatches_left (lapsePermit_queue cause s t) (by rw [lapsePermit_train, if_pos rfl]; nofun)
    fun tr htr => by rw [lapsePermit_train, if_neg htr]
  engine := engineSettled_congr (by simp) (.of_eq (by simp))

/-- A train that carries no order lapses within the law. -/
theorem lapsePermit_orderly (cause : Nat) {s : State} {t : Train} (h : (s.train t).permit.holdsOrder = false) :
    Orderly s (lapsePermit cause s t) where
  toQueueKept := lapsePermit_queueKept cause s t
  orders hs := (ordersLawful_iff _).2 fun tr => by
    rw [lapsePermit_train]
    split
    · exact orderLawful_of_zero ((hs t).2 (.inl h))
    · exact hs tr

theorem lapseQueued_orderly (cause : Nat) (ts : List Train) (s : State) : Orderly s (lapseQueued cause ts s) := by
  have hlapse (l : List Train) (u : State) (hl : ∀ t ∈ l, (u.train t).permit.holdsOrder = false) :
      Orderly u (l.foldl (lapsePermit cause) u) := by
    induction l generalizing u with
    | nil => exact .refl u
    | cons t l ih =>
      refine (lapsePermit_orderly cause (hl t List.mem_cons_self)).trans (ih _ fun x hx => ?_)
      rw [lapsePermit_train]
      split
      exacts [rfl, hl x (List.mem_cons_of_mem _ hx)]
  refine hlapse _ s fun t ht => ?_
  have hqueued : (s.train t).permit = .queued := by simpa using (List.mem_filter.1 ht).2
  rw [hqueued]
  rfl

/-! ## Stops, marks, releases and trips (R126 to R132) -/

theorem stopTrain_queueKept (s : State) (t : Train) : QueueKept s (stopTrain s t) := by
  refine .modTrain ?_
  split
  case isTrue h => exact ⟨nofun, fun hq => by rw [hq] at h; cases h⟩
  case isFalse => rfl

theorem holdTrain_queueKept (s : State) (t : Train) : QueueKept s (holdTrain s t) :=
  .modTrain (by split <;> rfl)

theorem unholdTrain_queueKept (s : State) (t : Train) : QueueKept s (unholdTrain s t) := .modTrain Iff.rfl

theorem stopTrains_orderly (ts : List Train) (s : State) : Orderly s (stopTrains ts s) := by
  rw [stopTrains]
  split
  exacts [(QueueKept.foldl stopTrain_queueKept ts s).runSplit _, .refl s]

theorem releaseAttachment_walk (t : Train) (lost : Bool) (s : State) : WalkKept s (releaseAttachment t lost s) := by
  simp only [releaseAttachment, releaseStore, inventoryChangeIf]
  repeat' split
  all_goals simp [WalkKept, inventoryChange, evalHold_pen, bumpGeneration_pen]

theorem releaseAttachment_dsu (t : Train) (lost : Bool) (s : State) :
    (releaseAttachment t lost s).dsu.queue = s.dsu.queue ∧ ∀ tr, (releaseAttachment t lost s).train tr =
      if tr = t then { s.train t with attachment := none } else s.train tr := by
  simp only [releaseAttachment]
  split
  case h_1 => exact ⟨by simp [State.modTrain_dsu], fun tr => by simp [State.train, State.modTrain_dsu]⟩
  case h_2 hnone =>
    refine ⟨rfl, fun tr => ?_⟩
    split
    case isTrue h => rw [h, ← hnone]
    case isFalse => rfl

theorem releaseAttachment_queueKept (t : Train) (lost : Bool) (s : State) :
    QueueKept s (releaseAttachment t lost s) := by
  obtain ⟨hqueue, htrain⟩ := releaseAttachment_dsu t lost s
  refine ⟨queueMatches_congr hqueue fun tr => ?_, engineSettled_congr (by simp) (releaseAttachment_walk t lost s)⟩
  rw [htrain]
  split
  case isTrue h => rw [h]
  case isFalse => rfl

theorem endOrder_queueKept (t : Train) (s : State) : QueueKept s (s.modTrain t TrainRec.endOrder) := .modTrain Iff.rfl

/-- A train outside the queue trips with an event that the router alone takes. -/
theorem trip_orderly {t : Train} {s : State} (h : (s.train t).permit ≠ .queued) (cause : TripCause)
    {event : State → State} (hevent : ∀ u, Orderly u (event u)) : Orderly s (trip t cause event s) := by
  have htripped : QueueKept s (s.modTrain t fun r => { r with permit := .tripped, cause := some cause }) :=
    .modTrain ⟨nofun, fun hq => absurd hq h⟩
  have hended := (htripped.trans (releaseAttachment_queueKept t (cause = .lost) _)).trans (endOrder_queueKept t _)
  exact ((hended.trans (hevent _).toQueueKept).posted.runSplit _).trans (examineQueue_orderly _)

theorem endPermit_orderly {t : Train} {s : State} (h : (s.train t).permit ≠ .queued) : Orderly s (endPermit t s) := by
  have hoff : QueueKept s (s.modTrain t fun r => { r with permit := .off }) :=
    .modTrain ⟨nofun, fun hq => absurd hq h⟩
  have hended := (hoff.trans (releaseAttachment_queueKept t false _)).trans (endOrder_queueKept t _)
  exact ((hended.trans (Orderly.emit ..).toQueueKept).runSplit _).trans (examineQueue_orderly _)

theorem releaseGranted_orderly {t : Train} {s : State} (h : (s.train t).permit ≠ .queued) :
    Orderly s (releaseGranted t s) := by
  have hoff : QueueKept s (s.modTrain t fun r =>
      { r with permit := .off, nextOrder := none, order := { r.order with held := false } }) :=
    .modTrain ⟨nofun, fun hq => absurd hq h⟩
  exact ((hoff.trans (releaseAttachment_queueKept t false _)).runSplit _).trans (examineQueue_orderly _)

theorem releaseQueued_orderly (t : Train) (s : State) : Orderly s (releaseQueued t s) := by
  have hrecord (tr : Train) : ({ s with dsu := { s.dsu with queue := s.dsu.queue.filter (fun x => x ≠ t) } } :
      State).train tr = s.train tr := by cases tr <;> rfl
  refine QueueKept.runSplit ⟨?_, engineSettled_congr (by rfl) (.of_eq (by rfl))⟩ _
  refine queueMatches_left (t := t) ?_ ?_ fun tr htr => ?_
  · simp [State.modTrain_dsu]
  · rw [State.modTrain_train, if_pos rfl]
    nofun
  · rw [State.modTrain_train, if_neg htr, hrecord]

/-! ## The hand-offs of an event (R40, R45, R70) -/

theorem respond_orderly (before : State) (atBoundary : Bool) (s : State) :
    Orderly s (respond before atBoundary s) := by
  rw [respond]
  generalize (if atBoundary = true then [] else freeList before s) = frees
  split
  · exact (((QueueKept.foldl stopTrain_queueKept _ s).trans (.foldl holdTrain_queueKept _ _)).trans
      (.foldl unholdTrain_queueKept _ _)).runSplit _
  · exact .refl s

theorem handOn_orderly (before : State) (atBoundary always : Bool) (s : State) :
    Orderly s (handOn before atBoundary always s) :=
  (((examineIf_orderly ..).trans (respond_orderly ..)).trans (examineIf_orderly ..)).trans (.inventoryChangeIf ..)

theorem plantEvent_orderly {f : State → State} {s : State} (h : Orderly s (f s)) : Orderly s (plantEvent f s) :=
  h.trans (handOn_orderly ..)

theorem loadEvent_orderly {f : State → State} {s : State} (h : Orderly s (f s)) : Orderly s (loadEvent f s) :=
  h.trans (handOn_orderly ..)

end Sys2Proof.Machine
end

section
/-! PROOFS. The laws of the permit queue, the orders and the engine through a run report and the silence ladder. -/

namespace Sys2Proof.Machine

/-! ## Who joins the queue (R123) -/

/-- Every QUEUED train was QUEUED before. -/
structure NoneJoins (s t : State) : Prop where
  queued : ∀ tr, (t.train tr).permit = .queued → (s.train tr).permit = .queued

namespace NoneJoins

theorem of_train {s t : State} (h : ∀ tr, (t.train tr).permit = (s.train tr).permit) : NoneJoins s t :=
  ⟨fun tr hq => h tr ▸ hq⟩

theorem of_dsu {s t : State} (h : t.dsu = s.dsu := by simp) : NoneJoins s t :=
  of_train fun tr => by rw [State.train, State.train, h]

theorem refl (s : State) : NoneJoins s s := ⟨fun _ => id⟩

theorem trans {a b c : State} (h : NoneJoins a b) (k : NoneJoins b c) : NoneJoins a c :=
  ⟨fun tr => h.queued tr ∘ k.queued tr⟩

theorem foldl {α : Type} {f : State → α → State} (hf : ∀ s x, NoneJoins s (f s x)) (l : List α) (s : State) :
    NoneJoins s (l.foldl f s) := by
  induction l generalizing s with
  | nil => exact refl s
  | cons x l ih => exact (hf s x).trans (ih (f s x))

theorem modTrain {s : State} {t : Train} {f : TrainRec → TrainRec}
    (h : (f (s.train t)).permit = .queued → (s.train t).permit = .queued) : NoneJoins s (s.modTrain t f) where
  queued tr := by
    rw [State.modTrain_train]
    split
    case isTrue hx => rw [hx]; exact h
    case isFalse => exact id

theorem runSplit (before : Dsu) (s : State) : NoneJoins s (runSplit before s) := of_train (runSplit_permit before s)

theorem grantQueued (t : Train) (a : Attachment) (s : State) : NoneJoins s (grantQueued t a s) := by
  refine NoneJoins.trans ⟨fun tr => ?_⟩ (runSplit ..)
  rw [emit_train, attachTrain_train]
  split
  · nofun
  · cases tr <;> exact id

theorem examineEntry (s : State) (t : Train) : NoneJoins s (examineEntry s t) := by
  simp only [Machine.examineEntry]
  repeat' split
  exacts [grantQueued .., refl s, refl s]

theorem examineIf (asked : Bool) (s : State) : NoneJoins s (examineIf asked s) := by
  rw [Machine.examineIf]
  split
  exacts [foldl examineEntry _ s, refl s]

theorem respond (before : State) (atBoundary : Bool) (s : State) : NoneJoins s (respond before atBoundary s) := by
  have hstop (u : State) (t : Train) : NoneJoins u (stopTrain u t) := modTrain (by split <;> simp)
  have hhold (u : State) (t : Train) : NoneJoins u (holdTrain u t) := modTrain (by split <;> simp)
  have hfree (u : State) (t : Train) : NoneJoins u (unholdTrain u t) := modTrain id
  rw [Machine.respond]
  generalize (if atBoundary = true then [] else freeList before s) = frees
  split
  · exact (((foldl hstop _ s).trans (foldl hhold _ _)).trans (foldl hfree _ _)).trans (runSplit ..)
  · exact refl s

theorem plantEvent {f : State → State} {s : State} (h : (f s).dsu = s.dsu := by simp) :
    NoneJoins s (plantEvent f s) := by
  have hchange (c : Bool) (u : State) : NoneJoins u (inventoryChangeIf c u) := by
    rw [inventoryChangeIf]
    split
    exacts [of_dsu, refl u]
  exact (of_dsu h).trans ((((examineIf ..).trans (respond ..)).trans (examineIf ..)).trans (hchange ..))

end NoneJoins

/-! ## Run reports (R126, R138, R148) -/

theorem reportCavern_orderly (c : Cavern) (fill : Bool) (air : Nat) (s : State) :
    Orderly s (reportCavern c fill air s) ∧ NoneJoins s (reportCavern c fill air s) := by
  have hestimate (u : State) (p : Prop) [Decidable p] : (if p then u else recomputeEstimate c u).pins = u.pins ∧
      (if p then u else recomputeEstimate c u).dsu = u.dsu ∧ (if p then u else recomputeEstimate c u).pen = u.pen := by
    split <;> simp
  rw [reportCavern]
  split
  · exact ⟨.refl s, .refl s⟩
  · exact ⟨plantEvent_orderly (.of_frame (by simp [hestimate]) (by simp [hestimate]) (by simp [hestimate])),
      .plantEvent (by simp [hestimate])⟩

theorem reportStore_orderly (st : Store) (t : Train) (x : Report) (s : State) :
    Orderly s (reportStore st t x s) ∧ NoneJoins s (reportStore st t x s) := by
  rw [reportStore]
  repeat' split
  · exact ⟨.refl s, .refl s⟩
  · exact ⟨plantEvent_orderly .of_frame, .plantEvent⟩
  · exact ⟨.refl s, .refl s⟩
  · exact ⟨plantEvent_orderly .of_frame, .plantEvent⟩

theorem derate_orderly (t : Train) (power : Nat) (s : State) : Orderly s (derate t power s) := by
  have hderated : QueueKept s (s.modTrain t fun r => { r with cap := power, derated := true }) := .modTrain Iff.rfl
  exact hderated.posted.runSplit _

theorem settleCheck_orderly (t : Train) (power : Nat) (s : State) : Orderly s (settleCheck t power s) := by
  have hcounted : Orderly s (s.modTrain t fun r => { r with settleCount := r.settleCount + 1 }) := .modTrain Iff.rfl id
  have hsettled : Orderly s (s.modTrain t fun r => { r with settlePending := false }) := .modTrain Iff.rfl id
  have hchecked : Orderly s (s.modTrain t fun r =>
      { r with settlePending := false, settleCount := r.settleCount + 1 }) := .modTrain Iff.rfl id
  simp only [settleCheck]
  repeat' split
  · exact hsettled.trans (.emit ..)
  · exact (hchecked.trans (.emit ..)).trans (derate_orderly ..)
  · exact hchecked.trans (.emit ..)
  · exact hcounted
  · exact .refl s

theorem movePermit_orderly {t : Train} {s : State} (h : (s.train t).permit ≠ .queued) (x : Report) :
    Orderly s (movePermit t x s) := by
  simp only [movePermit]
  split
  · exact endPermit_orderly h
  · refine Orderly.trans ?_ (settleCheck_orderly ..)
    split
    case isTrue hgranted =>
      refine .modTrain ⟨nofun, fun hq => absurd hq h⟩ fun ⟨hcap, hzero⟩ => ⟨hcap, fun hx => hzero ?_⟩
      exact hx.imp nofun id
    case isFalse => exact .refl s

theorem reportDispatch_orderly {t : Train} {s : State} (h : (s.train t).permit ≠ .queued) (x : Report) :
    Orderly s (reportDispatch t x s) := by
  have hbooked : Orderly s (bookReport t x s) := .modTrain Iff.rfl id
  have hpermit : ((bookReport t x s).train t).permit ≠ .queued := by
    rw [bookReport, State.modTrain_train, if_pos rfl]
    exact h
  have hevent (cause : TripCause) (n : Nat) (u : State) : Orderly u (emitTripped t cause n u) := .of_frame
  simp only [reportDispatch]
  split
  exacts [hbooked.trans (movePermit_orderly hpermit x), hbooked.trans (trip_orderly hpermit _ (hevent _ _)),
    hbooked.trans (trip_orderly hpermit _ (hevent _ _))]

theorem applyClamped_orderly {t : Train} {s : State} (h : (s.train t).permit ≠ .queued) (x : Report) :
    Orderly s (applyClamped t x s) := by
  have htiming : Orderly s (restartTiming t s) := .modTrain Iff.rfl id
  have ktiming : NoneJoins s (restartTiming t s) := .modTrain id
  have hrest {w : State} (hw : Orderly s w) (kw : NoneJoins s w) :
      Orderly s (reportDispatch t x (reportSchedule t x.energy w)) := by
    have kbook : NoneJoins w (reportSchedule t x.energy w) := .of_dsu
    exact (hw.trans .of_frame).trans (reportDispatch_orderly (fun hq => h ((kw.trans kbook).queued t hq)) x)
  simp only [applyClamped]
  split
  case h_1 a _ =>
    obtain ⟨hcavern, kcavern⟩ := reportCavern_orderly a.cavern (!t.expands) x.air (restartTiming t s)
    obtain ⟨hstore, kstore⟩ :=
      reportStore_orderly a.store t x (reportCavern a.cavern (!t.expands) x.air (restartTiming t s))
    exact hrest ((htiming.trans hcavern).trans hstore) ((ktiming.trans kcavern).trans kstore)
  case h_2 => exact hrest htiming ktiming

theorem examineReport_orderly (t : Train) (x : ReportFields) (s : State) : Orderly s (examineReport t x s).1 := by
  simp only [examineReport]
  repeat' split
  · exact .refl s
  case isTrue hattached =>
    have hpermit : (s.train t).permit ≠ .queued := fun hq => by rw [hq] at hattached; cases hattached
    exact (Orderly.of_frame (t := emitClamped t _ _ (raiseLimits t _ s))).trans
      (applyClamped_orderly (by simpa [State.train] using hpermit) _)
  · simp only [refuseReport]
    split
    exacts [.refl s, .emit ..]

/-! ## The silence ladder (R150 to R152) -/

theorem takeLate_orderly (t : Train) (s : State) : Orderly s (takeLate t s) := by
  have hlate : Orderly s (s.modTrain t fun r => { r with timing := .late }) := .modTrain Iff.rfl id
  rw [takeLate]
  split
  exacts [hlate.trans (.emit ..), .refl s]

theorem takeOverdue_orderly (t : Train) (s : State) : Orderly s (takeOverdue t s) := by
  have hoverdue : Orderly s (s.modTrain t fun r => { r with timing := .overdue }) := .modTrain Iff.rfl id
  rw [takeOverdue]
  split
  exacts [(hoverdue.trans (.emit ..)).trans (stopTrains_orderly ..), .refl s]

theorem takeLost_orderly (t : Train) (s : State) : Orderly s (takeLost t s) := by
  simp only [takeLost]
  split
  case isTrue hwaits =>
    refine trip_orderly (fun hq => ?_) _ fun u => .emit ..
    simp [TrainRec.rungWaits, hq, Permit.attached] at hwaits
  case isFalse => exact .refl s

theorem takeRungs_orderly (s : State) (t : Train) : Orderly s (takeRungs s t) :=
  ((takeLate_orderly t s).trans (takeOverdue_orderly t _)).trans (takeLost_orderly t _)

end Sys2Proof.Machine
end

section
/-! PROOFS. The laws of the permit queue, the orders and the engine through the book, the Position Engine and the Plant
Clock. -/

namespace Sys2Proof.Machine

/-! ## Changes of the book that the Dispatch Unit hears of (R79, R92, R115) -/

/-- A change of the dispatch view leaves permits, orders and queue. -/
theorem Orderly.of_view (v : View) (s : State) : Orderly s { s with dsu := { s.dsu with view := v } } :=
  .of_trains rfl rfl (fun tr => by cases tr <;> exact ⟨rfl, rfl, rfl, rfl⟩) rfl

theorem slotChanged_orderly (j : Nat) (s : State) : Orderly s (slotChanged j s) := by
  have hbumped := Orderly.bumpGeneration s
  simp only [slotChanged, handSlotChange]
  repeat' split
  exacts [((hbumped.trans (.of_view _ _)).trans (.stagedSplit _)).trans (examineIfAdmitted_orderly ..), hbumped,
    hbumped]

theorem handReserve_orderly (net : Int) (s : State) : Orderly s (handReserve net s) :=
  ((Orderly.of_view _ s).toQueueKept.runSplit _).trans (examineIfAdmitted_orderly ..)

theorem stageNext_orderly (s : State) : Orderly s (stageNext s) :=
  ((Orderly.of_view _ s).trans (.stagedSplit _)).trans (examineQueue_orderly _)

theorem lapseOffer_orderly (s : State) (j : Nat) : Orderly s (lapseOffer s j) := by
  simp only [lapseOffer]
  split
  · refine Orderly.trans ?_ (slotChanged_orderly ..)
    exact .of_frame
  · exact .refl s

theorem emptyOffers_orderly (s : State) : Orderly s (emptyOffers s) := .foldl lapseOffer_orderly _ s

theorem takeExpiry_orderly (s : State) (j : Nat) : Orderly s (takeExpiry s j) := by
  rw [takeExpiry]
  split
  exacts [lapseOffer_orderly s j, .refl s]

/-! ## Walks (R94, R96, R103 to R113) -/

theorem freeEngine_orderly (s : State) : Orderly s (freeEngine s) := .of_settled (Pen.takeUp_settled _)

theorem dropWalk_orderly (s : State) : Orderly s (dropWalk s) := .of_settled (Pen.takeUp_settled _)

theorem endWalk_orderly (a : Answer) (s : State) : Orderly s (endWalk a s) :=
  (dropWalk_orderly s).trans (.of_frame rfl rfl rfl)

theorem setFlight_orderly (f : Flight) (s : State) : Orderly s (setFlight (some f) s) := .of_settled nofun

theorem launch_orderly (request : Option Request) (restart : Bool) (s : State) :
    Orderly s (launch request restart s) := by
  have hcapture (x : Subject) (c : Option Nat) : Orderly s (capture .undefined .walk x c s) := .of_frame
  simp only [launch_eq, undefinedEnd]
  repeat' split
  exacts [endWalk_orderly .., (hcapture ..).trans (endWalk_orderly ..), (hcapture ..).trans (freeEngine_orderly _),
    setFlight_orderly ..]

theorem startWalk_orderly (s : State) : Orderly s (startWalk s) := by
  have htaken : Orderly s { s with pen := s.pen.takeUp } := .of_settled (Pen.takeUp_settled _) rfl
  simp only [startWalk]
  split
  exacts [htaken.trans (launch_orderly ..), htaken]

theorem writeLimit_orderly (l : Limit) (s : State) : Orderly s (writeLimit l s) := ⟨⟨id, id⟩, id⟩

/-- A walk whose result writes a slot and ends. -/
theorem slotWritten_orderly (l : Limit) (j : Nat) (f : Slot → Slot) (a : Answer) (s : State) :
    Orderly s (endWalk a (slotChanged j ((writeLimit l s).modSlot j f))) := by
  have hslot : Orderly (writeLimit l s) ((writeLimit l s).modSlot j f) := .of_frame rfl rfl rfl
  exact (((writeLimit_orderly l s).trans hslot).trans (slotChanged_orderly ..)).trans (endWalk_orderly ..)

theorem settleOffer_orderly (j up down : Nat) (n : Int) (ref : BitVec 32) (a : Ability) (stale : Bool) (s : State) :
    Orderly s (settleOffer j up down n ref a stale s) := by
  simp only [settleOffer]
  split
  exacts [(writeLimit_orderly ..).trans (endWalk_orderly ..), slotWritten_orderly ..]

theorem settleConfirm_orderly (j : Nat) (value : Int) (a : Ability) (stale : Bool) (s : State) :
    Orderly s (settleConfirm j value a stale s) := by
  simp only [settleConfirm]
  repeat' split
  exacts [slotWritten_orderly .., slotWritten_orderly .., slotWritten_orderly ..]

theorem settleRequest_orderly (r : Request) (a : Ability) (stale : Bool) (s : State) :
    Orderly s (settleRequest r a stale s) := by
  have hposted : Orderly s (if stale then postRecheck s else s) := by
    split
    exacts [.postRecheck s, .refl s]
  refine hposted.trans ?_
  simp only [settleRequest]
  generalize (if stale then postRecheck s else s) = u
  repeat' split
  exacts [settleOffer_orderly .., settleConfirm_orderly .., endWalk_orderly ..]

theorem completeRequest_orderly (r : Request) (b : Base) (restart : Bool) (s : State) :
    Orderly s (completeRequest r b restart s) := by
  have hraised : Orderly s ((requestAbility r b).2.foldl (raiseWalk b (some r.interval)) s) := .of_frame
  refine hraised.trans ?_
  simp only [completeRequest]
  generalize (requestAbility r b).2.foldl (raiseWalk b (some r.interval)) s = u
  split
  exacts [launch_orderly .., settleRequest_orderly ..]

theorem completeOffer_orderly (s : State) : Orderly s (completeOffer s) := by
  rw [completeOffer]
  split
  exacts [completeRequest_orderly .., .refl s]

theorem completeConfirm_orderly (s : State) : Orderly s (completeConfirm s) := by
  rw [completeConfirm]
  split
  exacts [completeRequest_orderly .., .refl s]

theorem completeFlownRecheck_orderly (s : State) : Orderly s (completeFlownRecheck s) := by
  rw [completeFlownRecheck]
  split
  case h_1 b _ _ =>
    have hmarked (l : List (Option ExcCode × Nat)) (m : List (Slot × WalkStep)) :
        Orderly s (m.foldl markSlot (l.foldl (raiseWalk b none) s)) := .of_frame
    exact (hmarked _ _).trans (freeEngine_orderly _)
  case h_2 => exact .refl s

theorem lapseWalk_orderly (s : State) : Orderly s (lapseWalk s) := by
  simp only [lapseWalk]
  repeat' split
  exacts [endWalk_orderly .., .refl s, .refl s]

theorem refuseWalk_orderly (s : State) : Orderly s (refuseWalk s) := by
  rw [refuseWalk]
  split
  exacts [endWalk_orderly .., .refl s]

/-! ## The boundary (R77, R81, R82, R119, R125, R137) -/

/-- Where every target is the split's, every order is within its law. -/
theorem SplitStands.lawful {s : State} (h : SplitStands s) : OrdersLawful s := by
  refine (ordersLawful_iff s).2 fun tr => ?_
  obtain ⟨-, hheld, htarget⟩ := h.orders tr
  rcases splitPlan_target_lawful s tr with hzero | ⟨hcap, hshares⟩
  · exact orderLawful_of_zero (htarget.trans hzero)
  · simp only [sharesIn, Bool.and_eq_true] at hshares
    obtain ⟨⟨⟨-, hpermit⟩, -⟩, -⟩ := hshares
    refine ⟨htarget ▸ hcap, fun h => ?_⟩
    simp [hpermit, hheld] at h

theorem closeSlot_orderly (s : State) : Orderly s (closeSlot s) := .of_walk (by rw [WalkKept, closeSlot_pen])

theorem openSlot_orderly (s : State) : Orderly s (openSlot s) := .of_walk (by rw [WalkKept, (openSlot_opened _).pen])

theorem handed_queueKept (s : State) : QueueKept s (handed s) where
  queue := queueMatches_congr (by simp [handed, allTrains, State.modTrain_dsu]) fun tr => by
    rw [handed_train, TrainRec.handedOver]
  engine := by
    have hpins : (handed s).pins = s.pins := by simp [handed, allTrains]
    exact engineSettled_congr hpins (.of_eq (by simp [handed, allTrains]))

theorem split_queueKept (s : State) : QueueKept s (split s) where
  queue := queueMatches_congr (split_queue s) fun tr => by rw [split_train]
  engine := engineSettled_congr (by simp) (.of_eq (by simp))

/-- A hand-over moves no permit but by a grant; its split brings the orders within their law. -/
theorem handOver_orderly (s : State) : Orderly s (handOver s) where
  orders _ := (handOver_stands s).lawful
  toQueueKept := by
    have hcommitted (u : State) : Orderly u (commitOrders s.dsu u) := .followed (.commitOrders ..)
    have hkept := ((handed_queueKept s).trans (split_queueKept _)).trans (hcommitted _).toQueueKept
    rw [handOver_eq]
    split
    exacts [hkept.trans (examineQueue_orderly _).toQueueKept, hkept]

theorem boundaryEnd_queueKept (s : State) : QueueKept s (boundaryEnd s) := by
  have hposted := ((Orderly.bumpGeneration s).trans (lapseWalk_orderly _)).trans (.postRecheck _)
  exact hposted.toQueueKept.trans (.foldl (lapsePermit_queueKept 1) _ _)

theorem takeStaging_orderly (s : State) : Orderly s (takeStaging s) := by
  rw [takeStaging]
  split
  · refine Orderly.trans ?_ (stageNext_orderly _)
    exact .of_frame rfl rfl rfl
  · exact .refl s

theorem boundaryStart_orderly (s : State) : Orderly s (boundaryStart s) := by
  have hnoted (u : State) : Orderly u { u with pck := { u.pck with boundaryDue := false } } := .of_frame rfl rfl rfl
  have hrenewed (u : State) : Orderly u (budgetsRenewed u) := .of_frame (by simp [budgetsRenewed])
    (by simp [budgetsRenewed]) (by simp [budgetsRenewed])
  rw [boundaryStart, boundaryCaverns_eq]
  exact (((takeStaging_orderly s).trans (hnoted _)).trans (hrenewed _)).trans (handOn_orderly ..)

/-- The entries that the direction test lets lapse leave the orders as the split gave them. -/
theorem takeBoundary_orderly (s : State) : Orderly s (takeBoundary s) := by
  by_cases hdue : s.pck.boundaryDue = true
  · have hopened := ((boundaryStart_orderly s).trans (closeSlot_orderly _)).trans (openSlot_orderly _)
    rw [takeBoundary_due hdue]
    exact ⟨(hopened.trans (handOver_orderly _)).toQueueKept.trans (boundaryEnd_queueKept _),
      fun _ => (boundaryEnd_stands (handOver_stands _)).lawful⟩
  · rw [takeBoundary, if_neg hdue]
    exact .refl s

/-! ## The Plant Clock (R72 to R74, R83, R162; log 6) -/

theorem agePass_orderly (s : State) : Orderly s (agePass s) :=
  (plantEvent_orderly .of_frame).trans (.postRecheck _)

theorem takeAging_orderly (s : State) : Orderly s (takeAging s) := by
  rw [takeAging]
  split
  exacts [agePass_orderly s, .refl s]

theorem drain_orderly (s : State) : Orderly s (drain s) := by
  have hstale (u : State) : Orderly u (allSources.foldl takeStale u) := .of_frame
  have hrungs (u : State) : Orderly u (allTrains.foldl takeRungs u) := .foldl takeRungs_orderly _ u
  have hexpired (l : List Nat) (u : State) : Orderly u (l.foldl takeExpiry u) := .foldl takeExpiry_orderly l u
  have hclock (u : State) : Orderly u (startWalk (takeBoundary (takeStaging u))) :=
    ((takeStaging_orderly u).trans (takeBoundary_orderly _)).trans (startWalk_orderly _)
  have htimed := ((takeAging_orderly s).trans (hstale _)).trans (hrungs _)
  rw [drain]
  exact (htimed.trans (hexpired _ _)).trans (hclock _)

/-- An advance counts silence and moves no permit and no order (R142). -/
theorem countAdvance_orderly (s : State) : Orderly s (countAdvance s) := by
  have hsilent (r : TrainRec) (d : Nat) : (r.silent d).permit = r.permit ∧ (r.silent d).cap = r.cap ∧
      (r.silent d).order.target = r.order.target ∧ (r.silent d).order.held = r.order.held := by
    rw [TrainRec.silent]
    split <;> exact ⟨rfl, rfl, rfl, rfl⟩
  exact .of_trains rfl rfl (fun tr => by cases tr <;> exact hsilent ..) (.of_eq rfl)

theorem advance_orderly (s : State) : Orderly s (advance s) := by
  simp only [advance]
  split
  exacts [(drain_orderly s).trans (countAdvance_orderly _), drain_orderly s]

theorem noteMoment_orderly (now : Nat) (s : State) : Orderly s (noteMoment now s) := .of_frame rfl rfl rfl

theorem takeEdge_orderly (now : Nat) (s : State) : Orderly s (takeEdge now s) := by
  have hend (u : State) : Orderly u (endHoldover u) := .of_frame
  simp only [takeEdge]
  refine Orderly.trans ?_ (hend _)
  split
  exacts [(noteMoment_orderly now s).trans (advance_orderly _), noteMoment_orderly now s]

theorem takeHoldover_orderly (now : Nat) (s : State) : Orderly s (takeHoldover now s) := by
  have hbegun (u : State) : Orderly u (emit .timeHoldover .notice .nothing u.pck.seconds 0
      { u with pck := { u.pck with holdover := true, holdCount := 0 } }) := .of_frame rfl rfl rfl
  simp only [takeHoldover]
  split
  · exact ((noteMoment_orderly now s).trans (hbegun _)).trans (advance_orderly _)
  · exact noteMoment_orderly now s

theorem takeHoldoverSecond_orderly (now : Nat) (s : State) : Orderly s (takeHoldoverSecond now s) := by
  have hcounted (u : State) : Orderly u { u with pck := { u.pck with holdCount := countUp u.pck.holdCount } } :=
    .of_frame rfl rfl rfl
  simp only [takeHoldoverSecond]
  split
  · exact ((noteMoment_orderly now s).trans (advance_orderly _)).trans (hcounted _)
  · exact noteMoment_orderly now s

theorem setTimeConfig_orderly (v : Nat) (s : State) : Orderly s (setTimeConfig v s) :=
  .of_trains rfl rfl (fun tr => by cases tr <;> exact ⟨rfl, rfl, rfl, rfl⟩) rfl

end Sys2Proof.Machine
end

section
/-! PROOFS. The laws of the permit queue, the orders and the engine through the instrument line and the Service
Controller. -/

namespace Sys2Proof.Machine

/-! ## The instrument line (R41, R63, R157, R161) -/

theorem reconcileCavern_orderly (c : Cavern) (s : State) : Orderly s (reconcileCavern c s) := by
  have hcorrected (p t : Nat) : Orderly s (correctMass c p t s) := .of_frame
  simp only [reconcileCavern]
  repeat' split
  exacts [(hcorrected _ _).trans (.postRecheck _), .of_frame, .refl s, .refl s]

theorem reconcileTop_orderly (st : Store) (measured : Nat) (s : State) : Orderly s (reconcileTop st measured s) := by
  have hcorrected (p : Parcel) (rest : List Parcel) : Orderly s (correctTop st p rest measured s) := .of_frame
  simp only [reconcileTop]
  repeat' split
  exacts [(hcorrected _ _).trans (.postRecheck _), .of_frame, .refl s]

theorem takePressure_orderly (c : Cavern) (v : Nat) (valid : Validity) (s : State) :
    Orderly s (takePressure c v valid s) := by
  have hcopied : Orderly s (evalBreach c (s.modCavern c fun r => { r with pressure := some v, pressureV := valid })) :=
    .of_frame
  refine plantEvent_orderly ?_
  dsimp only
  split
  exacts [hcopied.trans (reconcileCavern_orderly ..), hcopied]

theorem takeTemperature_orderly (c : Cavern) (v : Nat) (valid : Validity) (s : State) :
    Orderly s (takeTemperature c v valid s) := by
  refine plantEvent_orderly ?_
  dsimp only
  split <;> exact .of_frame

theorem takeTop_orderly (st : Store) (v : Nat) (valid : Validity) (s : State) :
    Orderly s (takeTop st v valid s) := by
  have hcopied : Orderly s (s.modStore st fun r => { r with top := some v, topV := valid }) := .of_frame
  refine plantEvent_orderly ?_
  dsimp only
  split
  exacts [hcopied.trans (reconcileTop_orderly ..), hcopied]

theorem handMeasurement_orderly (src : Source) (v : Nat) (valid : Validity) (s : State) :
    Orderly s (handMeasurement src v valid s) := by
  cases src
  exacts [takePressure_orderly .., takeTemperature_orderly .., takePressure_orderly .., takeTemperature_orderly ..,
    takeTop_orderly .., takeTop_orderly ..]

theorem acceptFrame_orderly (src : Source) (raw : Nat) (status seq : Byte) (s : State) :
    Orderly s (acceptFrame src raw status seq s) := by
  simp only [acceptFrame]
  refine Orderly.trans ?_ (handMeasurement_orderly ..)
  split <;> exact .of_frame

theorem takeChar_orderly (s : State) (c : Byte) : Orderly s (takeChar s c) := by
  have hline (l : Line) : Orderly s (setLine l s) := .of_frame
  simp only [takeChar, takeFrame]
  repeat' split
  exacts [.refl s, hline _, hline _, (hline _).trans (acceptFrame_orderly ..), hline _, hline _, hline _]

/-! ## The Service Controller (R132, R178, R188 to R190) -/

theorem setPart_orderly (new : PartState) (s : State) : Orderly s (setPart new s) := .of_frame

theorem modPort_orderly (p : Port) (f : PortIface → PortIface) (s : State) : Orderly s (s.modPort p f) :=
  .of_frame rfl rfl rfl

theorem declare_orderly (p : Port) (s : State) : Orderly s (declare p s) := by
  have hjoined : Orderly s (evalHold (emit .portJoined .info .nothing (portCode p) Presence.declared.code
      (setPresence p .declared s))) := ((modPort_orderly p _ s).trans (.emit ..)).trans (.evalHold _)
  simp only [declare]
  split
  exacts [hjoined.trans (setPart_orderly ..), hjoined]

theorem tripPort_orderly (s : State) (t : Train) : Orderly s (tripPort s t) := by
  rw [tripPort]
  split
  case isTrue hgranted =>
    have hevent (u : State) : Orderly u (emitTripped t .port (s.train t).order.target u) := .of_frame
    exact trip_orderly (by rw [hgranted]; nofun) _ hevent
  case isFalse => exact .refl s

theorem dispatchLeaves_orderly (p : Port) (absent : Bool) (s : State) : Orderly s (dispatchLeaves p absent s) := by
  have hlapsed := lapseQueued_orderly 2 (portTrains p) s
  simp only [dispatchLeaves]
  split
  exacts [(hlapsed.trans (stopTrains_orderly ..)).trans (.foldl tripPort_orderly _ _),
    hlapsed.trans (stopTrains_orderly ..)]

theorem tradeLeaves_orderly (absent : Bool) (s : State) : Orderly s (tradeLeaves absent s) := by
  rw [tradeLeaves]
  split
  exacts [(dropWalk_orderly s).trans (emptyOffers_orderly _), (refuseWalk_orderly s).trans (emptyOffers_orderly _)]

theorem lowerPresence_orderly (p : Port) (new : Presence) (s : State) : Orderly s (lowerPresence p new s) := by
  have htrade (q : Prop) [Decidable q] (u : State) :
      Orderly u (if q then tradeLeaves (new == .absent) u else u) := by
    split
    exacts [tradeLeaves_orderly _ u, .refl u]
  have hpark (u : State) : Orderly u (if u.svc.part = .service ∧ noneDeclared u then setPart .parked u else u) := by
    split
    exacts [setPart_orderly .., .refl u]
  have hlowered := (modPort_orderly p (fun r => { r with presence := new }) s).trans
    (.emit .portWithdrawn .notice .nothing (portCode p) new.code _)
  have hleft := (hlowered.trans (dispatchLeaves_orderly p (new == .absent) _)).trans
    (modPort_orderly p (fun r => { r with stream := false }) _)
  simp only [lowerPresence]
  split
  exacts [((hleft.trans (htrade ..)).trans (.evalHold _)).trans (hpark _), hleft.trans (htrade ..)]

theorem dispatchParks_orderly (s : State) : Orderly s (dispatchParks s) := by
  have hparked (u : State) (t : Train) : QueueKept u (u.modTrain t TrainRec.parked) := .modTrain Iff.rfl
  have hstopped (u : State) : QueueKept u (allTrains.foldl stopTrain (allTrains.foldl
      (fun v t => v.modTrain t TrainRec.parked) u)) :=
    (QueueKept.foldl hparked allTrains u).trans (.foldl stopTrain_queueKept allTrains _)
  rw [dispatchParks]
  exact ((lapseQueued_orderly 3 s.dsu.queue s).toQueueKept.trans (hstopped _)).runSplit _

theorem parkPart_orderly (s : State) : Orderly s (parkPart s) := by
  have hports (u : State) : Orderly u (parkPort (parkPort (parkPort u .c) .e) .t) :=
    ((modPort_orderly ..).trans (modPort_orderly ..)).trans (modPort_orderly ..)
  have hpart : Orderly s { s with svc := { s.svc with part := .parked } } := .of_frame rfl rfl rfl
  have hparked (u : State) : Orderly u (evalHold (emptyOffers (refuseWalk (dispatchParks u)))) :=
    (((dispatchParks_orderly u).trans (refuseWalk_orderly _)).trans (emptyOffers_orderly _)).trans (.evalHold _)
  simp only [parkPart]
  exact ((hpart.trans (hports _)).trans (hparked _)).trans (.emit ..)

theorem takePresentFall_orderly (p : Port) (s : State) : Orderly s (takePresentFall p s) := by
  have hdropped := modPort_orderly p PortIface.dropped s
  simp only [takePresentFall]
  refine Orderly.trans ?_ (lowerPresence_orderly ..)
  split
  exacts [hdropped.trans (dropWalk_orderly _), hdropped]

theorem takePresentRise_orderly (p : Port) (s : State) : Orderly s (takePresentRise p s) := by
  have hjoined (v : Presence) : Orderly s (emit .portJoined .info .nothing (portCode p) v.code (setPresence p v s)) :=
    (modPort_orderly p _ s).trans (.emit ..)
  simp only [takePresentRise]
  split
  exacts [(hjoined _).trans (.evalHold _), hjoined _]

end Sys2Proof.Machine
end

section
/-! PROOFS. The laws of the permit queue, the orders and the engine through the taking of every command, the bytes of a
frame, and each row of the table (O58). -/

namespace Sys2Proof.Machine

/-! ## What each command takes -/

/-- A command leaves a lawful part. -/
def TakesOrderly (take : State → Taken) : Prop := ∀ s, Orderly s (take s).1

theorem takeSetCavern_orderly (b : Byte) (g : BitVec 24) (f c r rt tol : BitVec 16) :
    TakesOrderly (takeSetCavern b g f c r rt tol) := fun s => by
  have hset (k : Cavern) (x1 x2 x3 x4 x5 x6 : Nat) :
      Orderly s (recomputeAll k (configureCavern k x1 x2 x3 x4 x5 x6 s)) := by
    refine .of_frame ?_ ?_ ?_ <;> simp [recomputeAll, configureCavern]
  simp only [takeSetCavern]
  repeat' split
  exacts [.refl s, (plantEvent_orderly (hset ..)).trans (.postRecheckInService _), .refl s]

theorem takeSetStore_orderly (b : Byte) (cap : BitVec 32) (tb ts tu tol : BitVec 16) (mg : Byte) :
    TakesOrderly (takeSetStore b cap tb ts tu tol mg) := fun s => by
  have hset (st : Store) (f : StoreRec → StoreRec) : Orderly s (postRecheckInService (plantEvent
      (fun u => releaseFull st (evalReachable st (u.modStore st f))) s)) :=
    (plantEvent_orderly .of_frame).trans (.postRecheckInService _)
  simp only [takeSetStore]
  split
  case h_1 => exact .refl s
  case h_2 =>
    split
    · split
      exacts [.refl s, hset ..]
    · exact .refl s

/-- A train that is OFF or TRIPPED has no order that a new capability could break. -/
theorem takeSetTrain_orderly (p : Port) (b : Byte) (r m ra ba : BitVec 32) (f : BitVec 16) :
    TakesOrderly (takeSetTrain p b r m ra ba f) := fun s => by
  have hset (t : Train) (h : (s.train t).permit = .off ∨ (s.train t).permit = .tripped) (x1 x2 x3 x4 x5 : Nat) :
      Orderly s (configureTrain t x1 x2 x3 x4 x5 s) := by
    have hidle : (s.train t).permit.holdsOrder = false := by rcases h with h | h <;> rw [h] <;> rfl
    have hconfigured : Orderly s (s.modTrain t fun r => { r with
        configured := true, rated := x1, minLoad := x2, rampLimit := x3, band := x4, maxFlow := x5
        cap := x1, derated := false }) :=
      .modTrain Iff.rfl fun ⟨_, hzero⟩ => orderLawful_of_zero (hzero (.inl hidle))
    rw [configureTrain]
    split
    exacts [hconfigured, hconfigured.trans (.bumpGeneration _)]
  simp only [takeSetTrain]
  repeat' split
  case isTrue => exact hset _ ‹_› ..
  all_goals exact .refl s

theorem takeSetFigures_orderly (a b c d : BitVec 16) (e : BitVec 32) (f g : BitVec 16) (h i j k : BitVec 32) :
    TakesOrderly (takeSetFigures a b c d e f g h i j k) := fun s => by
  have hset (svc : Svc) (hsu : Hsu) : Orderly s { s with svc := svc, hsu := hsu } := .of_frame rfl rfl rfl
  simp only [takeSetFigures]
  split
  exacts [(((hset _ _).trans (.bumpGeneration _)).trans (.evalHold _)).trans (.postRecheckInService _), .refl s]

theorem takeSetTiming_orderly (a b : BitVec 16) (c : BitVec 32) (d e : BitVec 16) (f g : Byte) :
    TakesOrderly (takeSetTiming a b c d e f g) := fun s => by
  simp only [takeSetTiming]
  split
  exacts [.of_frame rfl rfl rfl, .refl s]

theorem takeSetArithMode_orderly (b k : Byte) : TakesOrderly (takeSetArithMode b k) := fun s => by
  have hwork (changed off : Bool) (u : State) : Orderly u (arithWork changed off u) := by
    simp only [arithWork]
    refine .of_frame ?_ ?_ ?_
    all_goals
      repeat' split
      all_goals simp [recomputeMode, recomputeTrapOff]
  have hset (x : Arith) : Orderly s { s with arith := x } := .of_frame rfl rfl rfl
  simp only [takeSetArithMode]
  repeat' split
  exacts [.refl s, .refl s, ((hset _).trans (plantEvent_orderly (hwork ..))).trans (.postRecheck _),
    (hset _).trans (plantEvent_orderly (hwork ..))]

theorem takeSetLockEnable_orderly (b : Byte) : TakesOrderly (takeSetLockEnable b) := fun s => by
  rw [takeSetLockEnable]
  split
  exacts [.of_frame rfl rfl rfl, .refl s]

theorem takeLoadCavern_orderly (b m : Byte) (a : BitVec 32) : TakesOrderly (takeLoadCavern b m a) := fun s => by
  have hload (c : Cavern) (x : Figure) : Orderly s (doLoadCavern c x s).1 := by
    have hloaded : Orderly s (loadCavern c x.val x.exc s) :=
      .of_frame (by simp [loadCavern]) (by simp [loadCavern]) (by simp [loadCavern])
    exact (loadEvent_orderly hloaded).trans (.of_frame rfl rfl rfl)
  simp only [takeLoadCavern]
  repeat' split
  exacts [.refl s, .refl s, .refl s, .refl s, hload .., .refl s, hload .., .refl s, .refl s]

theorem takeLoadStore_orderly (b m : Byte) (a : BitVec 32) (x : BitVec 16) :
    TakesOrderly (takeLoadStore b m a x) := fun s => by
  have hload (st : Store) (l : List Parcel) : Orderly s (doLoadStore st l s).1 := by
    have hloaded : Orderly s (loadStore st l s) :=
      .of_frame (by simp [loadStore]) (by simp [loadStore]) (by simp [loadStore])
    exact (loadEvent_orderly hloaded).trans (.of_frame rfl rfl rfl)
  simp only [takeLoadStore]
  repeat' split
  exacts [.refl s, .refl s, .refl s, hload .., hload .., .refl s, .refl s]

theorem takeSetTime_orderly (v : BitVec 32) (now : Nat) : TakesOrderly (takeSetTime v now) := fun s => by
  have hdrained := (noteMoment_orderly now s).trans (drain_orderly _)
  have hmoved (u : State) (x : Pck) : Orderly u { u with pck := x } := .of_frame rfl rfl rfl
  simp only [takeSetTime]
  repeat' split
  exacts [hdrained.trans (setTimeConfig_orderly ..), hdrained.trans (hmoved ..), noteMoment_orderly now s]

theorem takeDeclareReady_orderly (p : Port) : TakesOrderly (takeDeclareReady p) := fun s => by
  simp only [takeDeclareReady]
  repeat' split
  exacts [.refl s, .refl s, declare_orderly p s]

theorem takeWithdraw_orderly (p : Port) : TakesOrderly (takeWithdraw p) := fun s => by
  simp only [takeWithdraw]
  split
  exacts [lowerPresence_orderly .., .refl s]

theorem takePark_orderly (p : Port) : TakesOrderly (takePark p) := fun s => by
  simp only [takePark]
  split
  exacts [parkPart_orderly s, .refl s]

theorem takeSetReserveBand_orderly (b k d : Byte) : TakesOrderly (takeSetReserveBand b k d) := fun s => by
  have hset (c : Cavern) (f : CavernRec → CavernRec) : Orderly s (plantEvent
      (fun u => evalMassConds c (recomputeBands c (u.modCavern c f))) s) := plantEvent_orderly .of_frame
  simp only [takeSetReserveBand]
  repeat' split
  exacts [.refl s, (hset ..).trans (.postRecheck _), hset .., .refl s]

theorem enqueue_train (t : Train) (prefs : Prefs) (s : State) (tr : Train) : (enqueue t prefs s).1.train tr =
    if tr = t then { s.train t with permit := .queued, prefs := some prefs } else s.train tr := by
  cases tr <;> cases t <;> rfl

theorem enqueue_queue (t : Train) (prefs : Prefs) (s : State) :
    (enqueue t prefs s).1.dsu.queue = s.dsu.queue ++ [t] := by simp [enqueue, State.modTrain_dsu]

/-- A train that is OFF joins the queue with its QUEUED permit. -/
theorem enqueue_orderly {t : Train} {s : State} (h : (s.train t).permit = .off) (prefs : Prefs) :
    Orderly s (enqueue t prefs s).1 := by
  refine ⟨⟨fun ⟨hnodup, hmem⟩ => ⟨?_, fun tr => ?_⟩, engineSettled_congr rfl (.of_eq rfl)⟩, fun hs tr => ?_⟩
  · have hnot : t ∉ s.dsu.queue := fun ht => by rw [hmem, h] at ht; cases ht
    rw [enqueue_queue]
    exact List.nodup_append.2 ⟨hnodup, List.nodup_singleton t, by simpa using fun x hx => ne_of_mem_of_not_mem hx hnot⟩
  · rw [enqueue_queue, enqueue_train, List.mem_append, hmem]
    by_cases htr : tr = t <;> simp [htr]
  · rw [enqueue_train]
    split
    · exact orderLawful_of_zero ((hs t).2 (.inl (by rw [h]; rfl)))
    · exact hs tr

theorem requestRefusal_off {p : Port} {t : Train} {s : State} (h : requestRefusal p t s = none) :
    (s.train t).permit = .off := by
  by_contra hoff
  simp [requestRefusal, hoff] at h

theorem takeRequestRun_orderly (p : Port) (t c d : Byte) : TakesOrderly (takeRequestRun p t c d) := fun s => by
  simp only [takeRequestRun]
  repeat' split
  · exact .refl s
  · exact .refl s
  next hnone _ _ _ =>
    refine grant_orderly ?_ _
    rw [requestRefusal_off hnone]
    nofun
  next hnone _ _ => exact enqueue_orderly (requestRefusal_off hnone) _
  · exact .refl s

theorem takeRelease_orderly (p : Port) (b : Byte) : TakesOrderly (takeRelease p b) := fun s => by
  simp only [takeRelease, releaseTrain]
  repeat' split
  · exact .refl s
  · exact .refl s
  · exact releaseQueued_orderly ..
  next hgranted => exact releaseGranted_orderly (by rw [hgranted]; nofun)
  · exact stopTrains_orderly ..
  · exact .refl s

theorem setStream_orderly (p : Port) (v : Bool) (s : State) : Orderly s (setStream p v s) := modPort_orderly ..

theorem takeRunReport_orderly (p : Port) (b : Byte) (x : ReportFields) :
    TakesOrderly (takeRunReport p b x) := fun s => by
  simp only [takeRunReport]
  repeat' split
  exacts [.refl s, .refl s, (examineReport_orderly ..).trans (setStream_orderly ..), examineReport_orderly ..]

theorem takeStreamed_orderly (p : Port) (b : Byte) (x : ReportFields) : TakesOrderly (takeStreamed p b x) := fun s => by
  simp only [takeStreamed]
  repeat' split
  exacts [.refl s, .refl s, (examineReport_orderly ..).trans (setStream_orderly ..), examineReport_orderly ..]

theorem takeReadTrain_orderly (b : Byte) : TakesOrderly (takeReadTrain b) := fun s => by
  rw [takeReadTrain]
  split <;> exact .refl s

/-- A TRIPPED train is OFF with its order as it was. -/
theorem takeClearTrip_orderly (p : Port) (b : Byte) : TakesOrderly (takeClearTrip p b) := fun s => by
  simp only [takeClearTrip, clearTripOf]
  repeat' split
  · exact .refl s
  · exact .refl s
  case isTrue t _ htripped =>
    have hoff : Orderly s (s.modTrain t fun r => { r with permit := .off, cause := none }) := by
      refine .modTrain ⟨nofun, fun hq => ?_⟩ fun ⟨_, hzero⟩ => orderLawful_of_zero (hzero (.inl ?_))
      · rw [htripped] at hq; cases hq
      · rw [htripped]; rfl
    exact (hoff.trans (.bumpGeneration _)).trans (.postRecheck _)
  · exact .refl s

theorem takeClearDerate_orderly (p : Port) (b : Byte) : TakesOrderly (takeClearDerate p b) := fun s => by
  have hrated (t : Train) : QueueKept s (s.modTrain t fun r => { r with cap := r.rated, derated := false }) :=
    .modTrain Iff.rfl
  simp only [takeClearDerate, clearDerateOf]
  repeat' split
  · exact .refl s
  · exact .refl s
  · exact (hrated _).posted.runSplit _
  · exact .refl s

theorem takeDiscardTop_orderly (b : Byte) : TakesOrderly (takeDiscardTop b) := fun s => by
  simp only [takeDiscardTop]
  repeat' split
  exacts [.refl s, (plantEvent_orderly .of_frame).trans (.postRecheck _), .refl s, .refl s]

/-- The engine looks at a request that has come to wait. -/
theorem awaitEngine_orderly (r : Request) (s : State) : Orderly s (awaitEngine r s).1 :=
  .of_settled (Pen.takeUp_settled _) rfl

theorem takeOffer_orderly (i pw up down ref : BitVec 32) : TakesOrderly (takeOffer i pw up down ref) := fun s => by
  simp only [takeOffer]
  repeat' split
  exacts [.refl s, .refl s, .refl s, .refl s, awaitEngine_orderly ..]

/-- A command that names a slot only answers where the slot is not the one it names (R80). -/
theorem identified_orderly {j : Nat} {seq : Byte} {f : State → Taken} (h : TakesOrderly f) :
    TakesOrderly (identified j seq f) := fun s => by
  rw [identified]
  split
  exacts [.refl s, .refl s, h s]

theorem takeConfirm_orderly (i : BitVec 32) (seq : Byte) (v : BitVec 32) : TakesOrderly (takeConfirm i seq v) := by
  refine identified_orderly fun s => ?_
  dsimp only
  repeat' split
  exacts [.refl s, .refl s, .refl s, awaitEngine_orderly ..]

theorem modSlot_orderly (n : Nat) (f : Slot → Slot) (s : State) : Orderly s (s.modSlot n f) := .of_frame rfl rfl rfl

theorem takeWithdrawOffer_orderly (i : BitVec 32) (seq : Byte) : TakesOrderly (takeWithdrawOffer i seq) := by
  refine identified_orderly fun s => ?_
  dsimp only
  split
  exacts [(modSlot_orderly ..).trans (slotChanged_orderly ..), .refl s]

theorem takeVoidSlot_orderly (i : BitVec 32) (seq : Byte) : TakesOrderly (takeVoidSlot i seq) := by
  refine identified_orderly fun s => ?_
  dsimp only
  split
  exacts [((modSlot_orderly ..).trans (slotChanged_orderly ..)).trans (.postRecheck _), .refl s]

theorem takeActivateReserve_orderly (i : BitVec 32) (seq : Byte) (a : BitVec 32) :
    TakesOrderly (takeActivateReserve i seq a) := by
  refine identified_orderly fun s => ?_
  have hclosed : Orderly s (closeIntegration s.pck.seconds s) := .of_frame
  dsimp only
  split
  · exact (((hclosed.trans (modSlot_orderly ..)).trans (.bumpGeneration _)).trans (handReserve_orderly ..)).trans
      (.postRecheck _)
  · exact .refl s

theorem takeReadSlots_orderly (i : BitVec 32) (c k : Byte) : TakesOrderly (takeReadSlots i c k) := fun s => by
  simp only [takeReadSlots]
  repeat' split
  all_goals exact .refl s

theorem takeScanSlots_orderly (i j : BitVec 32) (f c : Byte) (v : BitVec 32) (d : Byte) :
    TakesOrderly (takeScanSlots i j f c v d) := fun s => by
  simp only [takeScanSlots]
  repeat' split
  all_goals exact .refl s

theorem takeFetchSettlement_orderly : TakesOrderly takeFetchSettlement := fun s => by
  rw [takeFetchSettlement]
  split
  exacts [.of_frame rfl rfl rfl, .refl s]

theorem takeReadCavern_orderly (p : Port) (b : Byte) : TakesOrderly (takeReadCavern p b) := fun s => by
  rw [takeReadCavern]
  split
  exacts [.of_frame rfl rfl rfl, .refl s]

theorem takeReadStore_orderly (b : Byte) : TakesOrderly (takeReadStore b) := fun s => by
  rw [takeReadStore]
  split <;> exact .refl s

theorem takeReadPosition_orderly : TakesOrderly takeReadPosition := fun s => by
  simp only [takeReadPosition]
  split
  exacts [.of_frame, .refl s]

theorem takeFetchEvent_orderly (p : Port) : TakesOrderly (takeFetchEvent p) := fun s => by
  simp only [takeFetchEvent]
  split <;> exact .of_frame rfl rfl rfl

theorem takeSetEventMask_orderly (p : Port) (b : Byte) : TakesOrderly (takeSetEventMask p b) := fun s => by
  rw [takeSetEventMask]
  split
  exacts [.of_frame rfl rfl rfl, .refl s]

/-! ## Commands in bytes (R155, R175 to R177, R180) -/

theorem takeLoadInventory_orderly (o b m : Byte) (a : BitVec 32) (x : BitVec 16) :
    TakesOrderly (takeLoadInventory o b m a x) := fun s => by
  rw [takeLoadInventory]
  repeat' split
  exacts [takeLoadCavern_orderly .., takeLoadStore_orderly .., .refl s]

theorem takeConfigBytes_orderly (p : Port) (code : Nat) (bs : List Byte) :
    TakesOrderly (takeConfigBytes p code bs) := fun s => by
  unfold takeConfigBytes
  split
  case h_1 => exact .refl s
  case h_2 => split; exacts [takeSetCavern_orderly .., .refl s]
  case h_3 => split; exacts [takeSetStore_orderly .., .refl s]
  case h_4 => split; exacts [takeSetTrain_orderly .., .refl s]
  case h_5 => split; exacts [takeSetFigures_orderly .., .refl s]
  case h_6 => split; exacts [takeSetTiming_orderly .., .refl s]
  case h_7 => split; exacts [takeSetArithMode_orderly .., .refl s]
  case h_8 => exact takeSetLockEnable_orderly ..
  case h_9 => split; exacts [takeLoadInventory_orderly .., .refl s]
  case h_10 => exact takeSetTime_orderly ..
  case h_11 => exact takeDeclareReady_orderly ..
  case h_12 => exact takeWithdraw_orderly ..
  case h_13 => exact takePark_orderly ..
  case h_14 => split; exacts [takeSetReserveBand_orderly .., .refl s]

theorem takeTrainBytes_orderly (p : Port) (code : Nat) (bs : List Byte) :
    TakesOrderly (takeTrainBytes p code bs) := fun s => by
  unfold takeTrainBytes
  split
  case h_1 => split; exacts [takeRequestRun_orderly .., .refl s]
  case h_2 => exact takeRelease_orderly ..
  case h_3 => exact takeRunReport_orderly ..
  case h_4 => exact takeReadTrain_orderly ..
  case h_5 => exact takeClearTrip_orderly ..
  case h_6 => exact takeClearDerate_orderly ..
  case h_7 => exact takeDiscardTop_orderly ..

theorem takeTradeBytes_orderly (code : Nat) (bs : List Byte) : TakesOrderly (takeTradeBytes code bs) := fun s => by
  unfold takeTradeBytes
  split
  case h_1 => split; exacts [takeOffer_orderly .., .refl s]
  case h_2 => split; exacts [takeConfirm_orderly .., .refl s]
  case h_3 => split; exacts [takeWithdrawOffer_orderly .., .refl s]
  case h_4 => split; exacts [takeVoidSlot_orderly .., .refl s]
  case h_5 => split; exacts [takeActivateReserve_orderly .., .refl s]
  case h_6 => split; exacts [takeReadSlots_orderly .., .refl s]
  case h_7 => split; exacts [takeScanSlots_orderly .., .refl s]
  case h_8 => exact takeFetchSettlement_orderly s

theorem takeReadBytes_orderly (p : Port) (code : Nat) (bs : List Byte) :
    TakesOrderly (takeReadBytes p code bs) := fun s => by
  unfold takeReadBytes
  split
  case h_1 => exact takeReadCavern_orderly ..
  case h_2 => exact takeReadStore_orderly ..
  case h_3 => exact takeReadPosition_orderly s
  case h_7 => exact takeFetchEvent_orderly ..
  case h_8 => exact takeSetEventMask_orderly ..
  all_goals exact .of_frame rfl rfl rfl

theorem takeBytes_orderly (p : Port) (code : Nat) (bs : List Byte) : TakesOrderly (takeBytes p code bs) := fun s => by
  rw [takeBytes]
  repeat' split
  exacts [takeConfigBytes_orderly .., takeTrainBytes_orderly .., takeTradeBytes_orderly .., takeReadBytes_orderly ..]

theorem placeTaken_orderly (p : Port) (form : Answer → List Byte) (t : Taken) :
    Orderly t.1 (placeTaken p form t) := by
  rw [placeTaken]
  split <;> exact .of_frame rfl rfl rfl

theorem uncollect_orderly (p : Port) (s : State) : Orderly s (uncollect p s) := modPort_orderly ..

theorem takeAt_orderly {p : Port} {code : Nat} {take : State → Taken} (s : State) (h : TakesOrderly take) :
    Orderly s (takeAt p code take s) := by
  rw [takeAt]
  split
  · exact ((uncollect_orderly p s).trans (h _)).trans (placeTaken_orderly ..)
  · exact .of_frame rfl rfl rfl

theorem takeSoFar_orderly (p : Port) (streamed : Bool) (bytes : List Byte) (s : State) :
    Orderly s (takeSoFar p streamed bytes s) := by
  unfold takeSoFar
  split
  case h_1 => exact .refl s
  case h_2 b rest =>
    split
    · rw [takeStreamCollected]
      split
      · exact ((uncollect_orderly p s).trans (takeStreamed_orderly p b _ _)).trans (placeTaken_orderly ..)
      · exact .of_frame rfl rfl rfl
    · rw [takeCollected]
      split
      · exact takeAt_orderly s (takeBytes_orderly p b.toNat rest)
      · exact .of_frame rfl rfl rfl

theorem firstByte_orderly (p : Port) (b : Byte) (s : State) : Orderly s (firstByte p b s) := by
  rw [firstByte]
  repeat' split
  exacts [takeSoFar_orderly .., setStream_orderly .., .of_frame rfl rfl rfl, takeSoFar_orderly ..,
    .of_frame rfl rfl rfl]

theorem resultByte_orderly (p : Port) (slot : Nat) (b : Byte) (s : State) : Orderly s (resultByte p slot b s) := by
  rw [resultByte]
  repeat' split
  exacts [takeAt_orderly s fun _ => .of_frame rfl rfl rfl, .refl s, modPort_orderly ..]

theorem clockByte_orderly (p : Port) (s : State) (b : Byte) : Orderly s (clockByte p s b) := by
  have hslot : Orderly s (addSlots p 1 s) := modPort_orderly ..
  rw [clockByte]
  split
  · refine hslot.trans ?_
    simp only [receiveByte]
    split
    exacts [firstByte_orderly .., takeSoFar_orderly .., .refl _, resultByte_orderly ..]
  · exact .refl s

theorem clockBytes_orderly (p : Port) (bytes : List Byte) (s : State) : Orderly s (clockBytes p bytes s) :=
  .foldl (clockByte_orderly p) bytes s

/-! ## Every row and every step (O58) -/

theorem live_orderly {f : State → State} (s : State) (h : ∀ u, Orderly u (f u)) : Orderly s (live f s) := by
  rw [live]
  split
  exacts [.refl s, h s]

theorem command_orderly {p : Port} {code : Byte} {params : List Byte} {take : State → Taken} (s : State)
    (h : TakesOrderly take) : Orderly s (command p code params take s) := by
  rw [command]
  refine live_orderly s fun u => ?_
  split
  · exact (modPort_orderly ..).trans (takeAt_orderly (addSlots p (1 + params.length) u) h)
  · exact clockBytes_orderly ..

theorem streamedCommand_orderly (p : Port) (b : Byte) (x : ReportFields) (s : State) :
    Orderly s (streamedCommand p b x s) := by
  rw [streamedCommand]
  refine live_orderly s fun u => ?_
  split
  · have hready : Orderly u (uncollect p (addSlots p 22 u)) := (modPort_orderly ..).trans (uncollect_orderly ..)
    exact (hready.trans (takeStreamed_orderly p b x _)).trans (placeTaken_orderly ..)
  · exact clockBytes_orderly ..

theorem afterReset_orderly (pins : Pins) (now : Nat) (waiting : List Instr) (s : State) :
    Orderly s (State.afterReset pins now waiting) := by
  obtain ⟨-, -, -, -, hqueue, horders, -, hengine⟩ := boundsHoldAtReset pins now waiting
  exact ⟨⟨fun _ => hqueue, fun _ => hengine⟩, fun _ => horders⟩

/-- The pins that are shown, but for RESET, are no part of the laws. -/
theorem Orderly.of_pins {s : State} {pins : Pins} (h : pins.resetLow = s.pins.resetLow) :
    Orderly s { s with pins := pins } where
  queue := id
  orders := id
  engine hs := by rw [EngineSettled, h]; exact hs

/-- Under a low RESET nothing is said of the engine (R191). -/
theorem takeResetFall_orderly (s : State) : Orderly s (takeResetFall s) := ⟨⟨id, fun _ => nofun⟩, id⟩

theorem takePinChange_orderly (code : BitVec 3) (side : BandSide) (s : State) :
    Orderly s (takePinChange code side s) := (plantEvent_orderly .of_frame).trans (.postRecheck _)

/-- Every row keeps the laws of the queue, the orders and the engine. -/
theorem exec_orderly (c : Instr) (s : State) : ∃ t, exec c s = .next t ∧ Orderly s t := by
  cases c
  case readIdentity => exact ⟨_, rfl, command_orderly s fun _ => .of_frame rfl rfl rfl⟩
  case setCavern => exact ⟨_, rfl, command_orderly s fun _ => takeSetCavern_orderly ..⟩
  case setStore => exact ⟨_, rfl, command_orderly s fun _ => takeSetStore_orderly ..⟩
  case setTrain => exact ⟨_, rfl, command_orderly s fun _ => takeSetTrain_orderly ..⟩
  case setFigures => exact ⟨_, rfl, command_orderly s fun _ => takeSetFigures_orderly ..⟩
  case setTiming => exact ⟨_, rfl, command_orderly s fun _ => takeSetTiming_orderly ..⟩
  case setArithMode => exact ⟨_, rfl, command_orderly s fun _ => takeSetArithMode_orderly ..⟩
  case setLockEnable => exact ⟨_, rfl, command_orderly s fun _ => takeSetLockEnable_orderly ..⟩
  case loadInventoryCavern => exact ⟨_, rfl, command_orderly s fun _ => takeLoadCavern_orderly ..⟩
  case loadInventoryStore => exact ⟨_, rfl, command_orderly s fun _ => takeLoadStore_orderly ..⟩
  case setTime => exact ⟨_, rfl, command_orderly s fun _ => takeSetTime_orderly ..⟩
  case declareReady => exact ⟨_, rfl, command_orderly s fun _ => takeDeclareReady_orderly ..⟩
  case withdraw => exact ⟨_, rfl, command_orderly s fun _ => takeWithdraw_orderly ..⟩
  case park => exact ⟨_, rfl, command_orderly s fun _ => takePark_orderly ..⟩
  case setReserveBand => exact ⟨_, rfl, command_orderly s fun _ => takeSetReserveBand_orderly ..⟩
  case requestRun => exact ⟨_, rfl, command_orderly s fun _ => takeRequestRun_orderly ..⟩
  case release => exact ⟨_, rfl, command_orderly s fun _ => takeRelease_orderly ..⟩
  case runReport => exact ⟨_, rfl, command_orderly s fun _ => takeRunReport_orderly ..⟩
  case readTrain => exact ⟨_, rfl, command_orderly s fun _ => takeReadTrain_orderly ..⟩
  case clearTrip => exact ⟨_, rfl, command_orderly s fun _ => takeClearTrip_orderly ..⟩
  case clearDerate => exact ⟨_, rfl, command_orderly s fun _ => takeClearDerate_orderly ..⟩
  case discardTop => exact ⟨_, rfl, command_orderly s fun _ => takeDiscardTop_orderly ..⟩
  case offer => exact ⟨_, rfl, command_orderly s fun _ => takeOffer_orderly ..⟩
  case confirm => exact ⟨_, rfl, command_orderly s fun _ => takeConfirm_orderly ..⟩
  case withdrawOffer => exact ⟨_, rfl, command_orderly s fun _ => takeWithdrawOffer_orderly ..⟩
  case voidSlot => exact ⟨_, rfl, command_orderly s fun _ => takeVoidSlot_orderly ..⟩
  case activateReserve => exact ⟨_, rfl, command_orderly s fun _ => takeActivateReserve_orderly ..⟩
  case readSlots => exact ⟨_, rfl, command_orderly s fun _ => takeReadSlots_orderly ..⟩
  case scanSlots => exact ⟨_, rfl, command_orderly s fun _ => takeScanSlots_orderly ..⟩
  case fetchSettlement => exact ⟨_, rfl, command_orderly s takeFetchSettlement_orderly⟩
  case readCavern => exact ⟨_, rfl, command_orderly s fun _ => takeReadCavern_orderly ..⟩
  case readStore => exact ⟨_, rfl, command_orderly s fun _ => takeReadStore_orderly ..⟩
  case readPosition => exact ⟨_, rfl, command_orderly s takeReadPosition_orderly⟩
  case readArith => exact ⟨_, rfl, command_orderly s fun _ => .of_frame rfl rfl rfl⟩
  case clearArith => exact ⟨_, rfl, command_orderly s fun _ => .of_frame rfl rfl rfl⟩
  case readTime => exact ⟨_, rfl, command_orderly s fun _ => .of_frame rfl rfl rfl⟩
  case fetchEvent => exact ⟨_, rfl, command_orderly s fun _ => takeFetchEvent_orderly ..⟩
  case setEventMask => exact ⟨_, rfl, command_orderly s fun _ => takeSetEventMask_orderly ..⟩
  case portReset => exact ⟨_, rfl, command_orderly s fun _ => .of_frame rfl rfl rfl⟩
  case unknownCommandCode => exact ⟨_, rfl, live_orderly s (clockBytes_orderly _ _)⟩
  case streamedReport => exact ⟨_, rfl, streamedCommand_orderly _ _ _ s⟩
  case escapeByte => exact ⟨_, rfl, live_orderly s (clockBytes_orderly _ _)⟩
  case frameEnd p slots =>
    exact ⟨_, rfl, live_orderly s fun u => (clockBytes_orderly p slots u).trans (modPort_orderly ..)⟩
  case selectFall => exact ⟨_, rfl, live_orderly s fun _ => modPort_orderly ..⟩
  case presentFall p =>
    have hpin : Orderly s (setPresentPin p false s) := .of_pins (by cases p <;> rfl)
    refine ⟨_, rfl, ?_⟩
    split
    exacts [hpin.trans (live_orderly _ (takePresentFall_orderly p)), .refl s]
  case presentRise p =>
    have hpin : Orderly s (setPresentPin p true s) := .of_pins (by cases p <;> rfl)
    refine ⟨_, rfl, ?_⟩
    split
    exacts [.refl s, hpin.trans (live_orderly _ (takePresentRise_orderly p))]
  case resetFall =>
    refine ⟨_, rfl, ?_⟩
    split
    exacts [.refl s, takeResetFall_orderly s]
  case resetRise =>
    refine ⟨_, rfl, ?_⟩
    split
    exacts [afterReset_orderly _ _ _ s, .refl s]
  case pinChange code rsvtb =>
    have hpin : Orderly s { s with pins := { s.pins with rsv := code, rsvtb := rsvtb } } := .of_pins rfl
    refine ⟨_, rfl, hpin.trans (live_orderly _ fun u => ?_)⟩
    split
    exacts [.refl u, takePinChange_orderly ..]
  case envlockChange => exact ⟨_, rfl, .of_pins rfl⟩
  case tpulseEdge now => exact ⟨_, rfl, live_orderly s (takeEdge_orderly now)⟩
  case holdoverEntry now => exact ⟨_, rfl, live_orderly s (takeHoldover_orderly now)⟩
  case holdoverAdvance now => exact ⟨_, rfl, live_orderly s (takeHoldoverSecond_orderly now)⟩
  case stagingLeadEvent => exact ⟨_, rfl, live_orderly s takeStaging_orderly⟩
  case boundary => exact ⟨_, rfl, live_orderly s takeBoundary_orderly⟩
  case instrumentFrame chars => exact ⟨_, rfl, live_orderly s (.foldl takeChar_orderly chars)⟩
  case lineIdleGap => exact ⟨_, rfl, live_orderly s fun _ => .of_frame rfl rfl rfl⟩
  case framingError => exact ⟨_, rfl, live_orderly s fun _ => .of_frame rfl rfl rfl⟩
  case sourceStale src => exact ⟨_, rfl, live_orderly s fun _ => .of_frame⟩
  case agingPass => exact ⟨_, rfl, live_orderly s takeAging_orderly⟩
  case offerExpiry j => exact ⟨_, rfl, live_orderly s fun u => takeExpiry_orderly u j⟩
  case lateRung tr => exact ⟨_, rfl, live_orderly s (takeLate_orderly tr)⟩
  case overdueRung tr => exact ⟨_, rfl, live_orderly s (takeOverdue_orderly tr)⟩
  case lostRung tr => exact ⟨_, rfl, live_orderly s (takeLost_orderly tr)⟩
  case walkStart => exact ⟨_, rfl, live_orderly s startWalk_orderly⟩
  case offerWalkCompletion => exact ⟨_, rfl, live_orderly s completeOffer_orderly⟩
  case confirmWalkCompletion => exact ⟨_, rfl, live_orderly s completeConfirm_orderly⟩
  case recheckWalkCompletion => exact ⟨_, rfl, live_orderly s completeFlownRecheck_orderly⟩

theorem step_orderly {s t : State} (h : step s = .next t) : Orderly s t := by
  rw [step] at h
  split at h
  case h_1 =>
    obtain rfl : s = t := Host.Outcome.next.inj h
    exact .refl s
  case h_2 c rest _ =>
    obtain ⟨u, hu, hkept⟩ := exec_orderly c (s.withPending rest)
    obtain rfl : u = t := Host.Outcome.next.inj (hu.symm.trans h)
    have hrest : Orderly s (s.withPending rest) := .of_frame rfl rfl rfl
    exact hrest.trans hkept

/-- Settles O58: each row's work is a chain of operations that each keep the three laws; a split brings the orders
within theirs whatever they were, and every change of the engine is one that looks at what waits. -/
theorem permitsAndOrdersStayLawful : Obligations.PermitsAndOrdersStayLawful :=
  ⟨fun _ _ hs h => (step_orderly h).queue hs, fun _ _ hs h => (step_orderly h).orders hs,
    fun _ _ hs h => (step_orderly h).engine hs⟩

end Sys2Proof.Machine
end

section
/-! PROOFS. The commands of a train's owner port: how a command names its train, SET TRAIN, CLEAR TRIP and CLEAR DERATE,
and the refusals of REQUEST RUN and of a run report (O15, O26, O30). -/

namespace Sys2Proof.Machine

/-! ## A command at its owner port (R118, R176) -/

section NameTrain
variable {p : Port} {b : Byte} {tr : Train}

theorem nameTrain_range (h : trainOf b = none) : nameTrain p b = .range := by rw [nameTrain, h]

theorem nameTrain_port (h : trainOf b = some tr) (ho : tr.owner ≠ p) : nameTrain p b = .port := by
  rw [nameTrain, h]
  exact if_neg ho

theorem nameTrain_train (h : trainOf b = some tr) (ho : tr.owner = p) : nameTrain p b = .train tr := by
  rw [nameTrain, h]
  exact if_pos ho

end NameTrain

theorem exec_setTrain (p : Port) (b : Byte) (r m k d : BitVec 32) (w : BitVec 16) (s : State) :
    exec (.setTrain p b r m k d w) s = .next (command p 0x04 ([b] ++ putBE 4 r.toNat ++ putBE 4 m.toNat ++
      putBE 4 k.toNat ++ putBE 4 d.toNat ++ putBE 2 w.toNat) (takeSetTrain p b r m k d w) s) := rfl

theorem exec_clearTrip (p : Port) (b : Byte) (s : State) :
    exec (.clearTrip p b) s = .next (command p 0x14 [b] (takeClearTrip p b) s) := rfl

theorem exec_clearDerate (p : Port) (b : Byte) (s : State) :
    exec (.clearDerate p b) s = .next (command p 0x15 [b] (takeClearDerate p b) s) := rfl

theorem exec_requestRun (p : Port) (b c d : Byte) (s : State) :
    exec (.requestRun p b c d) s = .next (command p 0x10 [b, c, d] (takeRequestRun p b c d) s) := rfl

theorem exec_release (p : Port) (b : Byte) (s : State) :
    exec (.release p b) s = .next (command p 0x11 [b] (takeRelease p b) s) := rfl

/-- A ready port is not in stream mode, and the taking of a command does not change that. -/
theorem uncollect_stream {p : Port} {s : State} (h : Ready p s) (n : Nat) :
    ((uncollect p (addSlots p n s)).port p).stream = false := by
  have hready := h.2
  simp only [PortIface.ready, Bool.and_eq_true, Bool.not_eq_true'] at hready
  simp only [uncollect, addSlots, State.modPort_port, if_true]
  split <;> exact hready.2

section Served
variable {p : Port} {s : State} (h : Ready p s) {code : Byte} {params : List Byte} {take : State → Taken} {a : Answer}
  (hp : admits code.toNat p = true)
include h hp

/-- A command that its block answers at once: the answer is placed over what the block leaves of a part that differs at
the port's interface only, with every presence as it was and no stream mode. -/
theorem command_served {f : State → State} (ht : ∀ u, PresenceKept p s u → take u = (f u, some a)) :
    ∃ x : Spi, PresenceKept p s { s with spi := x } ∧ (x.get p).stream = false ∧
      command p code params take s = placeNow p a.full (f { s with spi := x }) := by
  have hport := uncollect_presenceKept p (1 + params.length) s
  have hstate := hport.only.1
  refine ⟨_, hstate ▸ hport, uncollect_stream h _, ?_⟩
  rw [← hstate, command_answered h hp (ht _ hport)]

/-- A command whose block, with every presence as it was, answers and changes nothing. -/
theorem command_bare (ht : ∀ u, PresenceKept p s u → take u = (u, some a)) :
    Answers p a (command p code params take s) ∧ OnlyPort p s (command p code params take s) := by
  obtain ⟨x, hport, -, hcommand⟩ := command_served (f := id) h hp ht
  rw [hcommand]
  exact ⟨placeNow_answers p a _, hport.only.trans (modPort_onlyPort p _ _)⟩

end Served

theorem OnlyPort.train {p : Port} {s u : State} (h : OnlyPort p s u) (tr : Train) : u.train tr = s.train tr := by
  rw [h.1]
  rfl

/-- The answer goes to the one port. -/
theorem PresenceKept.placed_otherPorts {p : Port} {s t : State} {x : Spi} (h : PresenceKept p s { s with spi := x })
    (ht : t.spi = x) (bytes : List Byte) : OtherPorts p s (placeNow p bytes t) := fun q hq => by
  have hport : t.port q = ({ s with spi := x } : State).port q := by rw [State.port, ht]; rfl
  rw [placeNow_otherPorts p bytes t q hq, hport, h.only.2 q hq]

/-! ## SET TRAIN (R118) -/

section SetTrain
variable (tr : Train) (rated minLoad ramp band maxFlow : Nat) (s : State)

/-- A train's record after SET TRAIN. -/
def TrainRec.configuredAs (r : TrainRec) (rated minLoad ramp band maxFlow : Nat) : TrainRec :=
  { r with
    configured := true, rated := rated, minLoad := minLoad, rampLimit := ramp, band := band, maxFlow := maxFlow
    cap := rated, derated := false }

/-- The generation number moves where the capability changed. -/
theorem configureTrain_eq : configureTrain tr rated minLoad ramp band maxFlow s =
    { s.modTrain tr (fun r => r.configuredAs rated minLoad ramp band maxFlow) with
      pen := { s.pen with generation :=
        if (s.train tr).cap = rated then s.pen.generation else s.pen.generation + 1 } } := by
  rw [configureTrain]
  split <;> rfl

theorem configureTrain_train (v : Train) : (configureTrain tr rated minLoad ramp band maxFlow s).train v =
    if v = tr then (s.train tr).configuredAs rated minLoad ramp band maxFlow else s.train v := by
  rw [configureTrain_eq]
  exact State.modTrain_train s tr v fun r => r.configuredAs rated minLoad ramp band maxFlow

theorem configureTrain_rest : (configureTrain tr rated minLoad ramp band maxFlow s).dsu.queue = s.dsu.queue ∧
    (configureTrain tr rated minLoad ramp band maxFlow s).dsu.view = s.dsu.view := by
  rw [configureTrain_eq]
  exact ⟨by simp [State.modTrain_dsu], by simp [State.modTrain_dsu]⟩

end SetTrain

/-- Settles O15: the record is replaced as a whole, and its refusals leave the part as it was. -/
theorem setTrainEffect : Obligations.SetTrainEffect := by
  intro p s b r m k d w h
  have hrefused {a : ResultCode} (ht : ∀ u, OnlyPort p s u → takeSetTrain p b r m k d w u = refuse a u) :
      AnswersOnly (.setTrain p b r m k d w) p (.bare a) s :=
    ⟨_, exec_setTrain p b r m k d w s, command_answersOnly h rfl ht⟩
  refine ⟨fun hb => hrefused fun u _ => by rw [takeSetTrain, nameTrain_range hb], fun tr hb =>
    ⟨fun ho => hrefused fun u _ => by rw [takeSetTrain, nameTrain_port hb ho], fun ho hfit => hrefused fun u _ => ?_,
      fun ho hfit hoff htripped => hrefused fun u hu => ?_, fun ho hfit hpermit => ?_⟩⟩
  · simp only [takeSetTrain, nameTrain_train hb ho, hfit, Bool.false_eq_true, if_false]
  · simp only [takeSetTrain, nameTrain_train hb ho, hfit, if_true, hu.train, hoff, htripped, or_self, if_false]
  · obtain ⟨x, hport, -, hcommand⟩ := command_served h (code := 0x04) (params := [b] ++ putBE 4 r.toNat ++
      putBE 4 m.toNat ++ putBE 4 k.toNat ++ putBE 4 d.toNat ++ putBE 2 w.toNat) (take := takeSetTrain p b r m k d w)
      (f := configureTrain tr r.toNat m.toNat k.toNat d.toNat w.toNat) (a := .bare .done) rfl fun u hu => by
        simp only [takeSetTrain, nameTrain_train hb ho, hfit, if_true, hu.only.train, hpermit]
        rfl
    have htrain := configureTrain_train tr r.toNat m.toNat k.toNat d.toNat w.toNat { s with spi := x }
    obtain ⟨hqueue, hview⟩ := configureTrain_rest tr r.toNat m.toNat k.toNat d.toNat w.toNat { s with spi := x }
    refine ⟨_, exec_setTrain p b r m k d w s, ?_⟩
    rw [hcommand]
    refine ⟨placeNow_answers .., (htrain tr).trans (if_pos rfl), fun u hu => (htrain u).trans (if_neg hu), hqueue,
      hview, ?_⟩
    rw [configureTrain_eq]
    exact ⟨rfl, rfl, hport.placed_otherPorts rfl _⟩

/-! ## The generation moves and a recheck is asked for (R94, R95) -/

/-- The generation number has moved by one and a recheck has been asked for; nothing else of the engine differs. -/
structure RecheckAsked (s t : State) : Prop where
  generation : t.pen.generation = s.pen.generation + 1
  engine : EngineKept s t
  posted : s.svc.part ≠ .config → RecheckPosted s t
  config : s.svc.part = .config → t.pen = { s.pen with generation := t.pen.generation }
  holds : t.pen.genHold = s.pen.genHold ∧ t.pen.chgHold = s.pen.chgHold

theorem recheckAsked {s w t : State} (hpen : w.pen = s.pen) (hsvc : w.svc = s.svc)
    (ht : t.pen = (postRecheck (bumpGeneration w)).pen) : RecheckAsked s t := by
  have hbumped : (bumpGeneration w).svc.part = s.svc.part := congrArg Svc.part hsvc
  rw [postRecheck_pen, hbumped, bumpGeneration_pen, hpen] at ht
  by_cases hconfig : s.svc.part = .config
  · rw [if_pos hconfig] at ht
    exact ⟨by rw [ht], ⟨by rw [ht], .inl (by rw [ht])⟩, fun h => absurd hconfig h, fun _ => by rw [ht],
      by rw [ht]; exact ⟨rfl, rfl⟩⟩
  · rw [if_neg hconfig, Pen.posted_eq] at ht
    cases hflight : s.pen.flight with
    | none =>
      rw [hflight] at ht
      exact ⟨by rw [ht]; rfl, ⟨by rw [ht]; rfl, .inr ⟨hflight, by rw [ht]; rfl⟩⟩,
        fun _ => by rw [RecheckPosted, hflight, ht]; rfl, fun h => absurd h hconfig, by rw [ht]; exact ⟨rfl, rfl⟩⟩
    | some f =>
      rw [hflight] at ht
      exact ⟨by rw [ht]; rfl, ⟨by rw [ht]; rfl, .inl (by rw [ht]; exact hflight.symm ▸ rfl)⟩,
        fun _ => by rw [RecheckPosted, hflight, ht]; rfl, fun h => absurd h hconfig, by rw [ht]; exact ⟨rfl, rfl⟩⟩

/-! ## CLEAR TRIP (R129) -/

/-- A TRIPPED train is OFF without a cause. -/
def tripCleared (tr : Train) (s : State) : State :=
  postRecheck (bumpGeneration (s.modTrain tr fun r => { r with permit := .off, cause := none }))

theorem tripCleared_train (tr v : Train) (s : State) : (tripCleared tr s).train v =
    if v = tr then { s.train tr with permit := .off, cause := none } else s.train v := by
  have hdsu : (tripCleared tr s).dsu = (s.modTrain tr fun r => { r with permit := .off, cause := none }).dsu := by
    simp [tripCleared]
  rw [State.train, hdsu]
  exact State.modTrain_train ..

theorem tripCleared_eq (tr : Train) (s : State) :
    tripCleared tr s = { s with dsu := (tripCleared tr s).dsu, pen := (tripCleared tr s).pen } := by
  rw [tripCleared, postRecheck]
  split <;> rfl

theorem tripCleared_asked (tr : Train) (s : State) : RecheckAsked s (tripCleared tr s) :=
  recheckAsked (w := s.modTrain tr fun r => { r with permit := .off, cause := none }) rfl rfl rfl

/-! ## CLEAR DERATE (R139) -/

/-- A train has its rated capability again, before the split. -/
def rerated (tr : Train) (s : State) : State :=
  postRecheck (bumpGeneration (s.modTrain tr fun r => { r with cap := r.rated, derated := false }))

theorem rerated_train (tr v : Train) (s : State) : (rerated tr s).train v =
    if v = tr then { s.train tr with cap := (s.train tr).rated, derated := false } else s.train v := by
  have hdsu : (rerated tr s).dsu = (s.modTrain tr fun r => { r with cap := r.rated, derated := false }).dsu := by
    simp [rerated]
  rw [State.train, hdsu]
  exact State.modTrain_train ..

/-- The part in which a derate is cleared. -/
def derateCleared (tr : Train) (s : State) : State := runSplit (rerated tr s).dsu (rerated tr s)

theorem runSplit_state_eq (before : Dsu) (s : State) : runSplit before s = { s with
    evr := (runSplit before s).evr, sbk := (runSplit before s).sbk, dsu := (runSplit before s).dsu } := by
  obtain ⟨hpins, hspi, hilr, hpck, hciu, hhsu, harith, hpen, hsvc, hpending⟩ := runSplit_frame before s
  rw [← hpins, ← hspi, ← hilr, ← hpck, ← hciu, ← hhsu, ← harith, ← hpen, ← hsvc, ← hpending]

theorem derateCleared_eq (tr : Train) (s : State) : derateCleared tr s = { s with
    evr := (derateCleared tr s).evr, sbk := (derateCleared tr s).sbk, dsu := (derateCleared tr s).dsu
    pen := (derateCleared tr s).pen } := by
  have hrerated : rerated tr s = { s with dsu := (rerated tr s).dsu, pen := (rerated tr s).pen } := by
    rw [rerated, postRecheck]
    split <;> rfl
  have hpen : (derateCleared tr s).pen = (rerated tr s).pen := by simp [derateCleared]
  rw [hpen, derateCleared, runSplit_state_eq, hrerated]

theorem derateCleared_asked (tr : Train) (s : State) : RecheckAsked s (derateCleared tr s) :=
  recheckAsked (w := s.modTrain tr fun r => { r with cap := r.rated, derated := false }) rfl rfl (by
    simp [derateCleared, rerated])

theorem derateCleared_kept (tr : Train) (s : State) : BookKept s (derateCleared tr s) ∧
    EventsOnlyJoin s (derateCleared tr s) ∧ ∀ v, v ≠ tr → TrainKept v s (derateCleared tr s) := by
  have hkept := DispatchKept.runSplit (rerated tr s).dsu (rerated tr s)
  have hsbk : (rerated tr s).sbk = s.sbk := by simp [rerated]
  have hevr : (rerated tr s).evr = s.evr := by simp [rerated]
  refine ⟨BookKept.trans (b := rerated tr s) ⟨by rw [hsbk], fun n => by rw [slot_congr hsbk]⟩ hkept.book,
    (EventsOnlyJoin.of_eq hevr).trans hkept.joins, fun v hv => TrainKept.trans (b := rerated tr s) ?_ (hkept.trains v)⟩
  rw [TrainKept, rerated_train, if_neg hv]

/-- No permit and no attachment moves, and the train has its rated capability. -/
theorem derateCleared_train (tr : Train) (s : State) :
    (∀ v, ((derateCleared tr s).train v).permit = (s.train v).permit ∧
      ((derateCleared tr s).train v).attachment = (s.train v).attachment) ∧
    ((derateCleared tr s).train tr).cap = (s.train tr).rated ∧ ((derateCleared tr s).train tr).derated = false := by
  have htrain := runSplit_train (rerated tr s).dsu (rerated tr s)
  rw [derateCleared]
  refine ⟨fun v => ?_, by rw [htrain tr, rerated_train, if_pos rfl]; exact ⟨rfl, rfl⟩⟩
  rw [htrain v, rerated_train]
  split
  case isTrue hv => rw [hv]; exact ⟨rfl, rfl⟩
  case isFalse => exact ⟨rfl, rfl⟩

/-- Settles O30: each clear asks for one recheck, and CLEAR DERATE runs the split over the rated capability. -/
theorem clearTripAndDerate : Obligations.ClearTripAndDerate := by
  intro p s b h
  have htrip {a : ResultCode} (ht : ∀ u, OnlyPort p s u → takeClearTrip p b u = refuse a u) :
      AnswersOnly (.clearTrip p b) p (.bare a) s := ⟨_, exec_clearTrip p b s, command_answersOnly h rfl ht⟩
  have hderate {a : ResultCode} (ht : ∀ u, OnlyPort p s u → takeClearDerate p b u = refuse a u) :
      AnswersOnly (.clearDerate p b) p (.bare a) s := ⟨_, exec_clearDerate p b s, command_answersOnly h rfl ht⟩
  refine ⟨fun hb => ⟨htrip fun u _ => by rw [takeClearTrip, nameTrain_range hb],
    hderate fun u _ => by rw [takeClearDerate, nameTrain_range hb]⟩, fun tr hb =>
    ⟨fun ho => ⟨htrip fun u _ => by rw [takeClearTrip, nameTrain_port hb ho],
      hderate fun u _ => by rw [takeClearDerate, nameTrain_port hb ho]⟩,
    fun ho => ⟨fun htripped => ?trip, fun htripped => htrip fun u hu => ?_, fun hderated => ?derate,
      fun hderated => hderate fun u hu => ?_⟩⟩⟩
  case trip =>
    obtain ⟨x, hport, -, hcommand⟩ := command_served h (code := 0x14) (params := [b]) (take := takeClearTrip p b)
      (f := tripCleared tr) (a := .bare .done) rfl fun u hu => by
        simp only [takeClearTrip, nameTrain_train hb ho, clearTripOf, hu.only.train, htripped, if_true]
        rfl
    have htrain := fun v => tripCleared_train tr v { s with spi := x }
    obtain ⟨hgeneration, hengine, hposted, hconfig, hgen, hchg⟩ := tripCleared_asked tr { s with spi := x }
    refine ⟨_, exec_clearTrip p b s, ?_⟩
    rw [hcommand]
    refine ⟨placeNow_answers .., (htrain tr).trans (if_pos rfl), fun u hu => (htrain u).trans (if_neg hu), hgeneration,
      hengine, hposted, hconfig, hgen, hchg, ?_⟩
    rw [tripCleared_eq]
    rfl
  · simp only [takeClearTrip, nameTrain_train hb ho, clearTripOf, hu.train, htripped, if_false]
  case derate =>
    obtain ⟨x, hport, -, hcommand⟩ := command_served h (code := 0x15) (params := [b]) (take := takeClearDerate p b)
      (f := derateCleared tr) (a := .bare .done) rfl fun u hu => by
        simp only [takeClearDerate, nameTrain_train hb ho, clearDerateOf, hu.only.train, hderated, if_true]
        rfl
    obtain ⟨hpermits, hcap, hcleared⟩ := derateCleared_train tr { s with spi := x }
    obtain ⟨hgeneration, hengine, hposted, hconfig, hgen, hchg⟩ := derateCleared_asked tr { s with spi := x }
    obtain ⟨hbook, hjoins, hothers⟩ := derateCleared_kept tr { s with spi := x }
    have hspi : (derateCleared tr { s with spi := x }).spi = x := by simp [derateCleared, rerated]
    refine ⟨_, exec_clearDerate p b s, ?_⟩
    rw [hcommand]
    refine ⟨placeNow_answers .., hcap, hcleared, hgeneration, hengine, hposted, hconfig, hgen, hchg, fun v =>
      let ⟨hpermit, hattachment⟩ := hpermits v
      ⟨hpermit, hattachment, (runSplit_order _ _ v).1⟩, hothers, hbook, hjoins,
      hport.placed_otherPorts hspi _, ?_⟩
    rw [derateCleared_eq]
    rfl
  · simp only [takeClearDerate, nameTrain_train hb ho, clearDerateOf, hu.train, hderated, Bool.false_eq_true, if_false]

end Sys2Proof.Machine
end

section
/-! PROOFS. The refusals of REQUEST RUN and of a run report (O26). -/

namespace Sys2Proof.Machine

/-! ## REQUEST RUN (R120) -/

theorem requestRefusal_congr {p : Port} {s u : State} (h : PresenceKept p s u) (tr : Train) :
    requestRefusal p tr u = requestRefusal p tr s := by
  have hsvc : u.svc = s.svc := by rw [h.only.1]
  have hdsu : u.dsu = s.dsu := by rw [h.only.1]
  simp only [requestRefusal, hsvc, hdsu, h.only.train, h.presence]

theorem takeRequestRun_unknown {p : Port} {b cb sb : Byte}
    (h : trainOf b = none ∨ cavernPref cb = none ∨ storePref sb = none) (s : State) :
    takeRequestRun p b cb sb s = refuse .range s := by
  simp only [takeRequestRun]
  split
  case h_1 hb hc hs => simp [hb, hc, hs] at h
  case h_2 => rfl

theorem putBE_one (x : Nat) : putBE 1 x = [BitVec.ofNat 8 x] := by simp [putBE]

/-- The answer to a REQUEST RUN that is granted (R182). -/
def grantedAnswer (a : Attachment) : Answer where
  code := .done
  granted := true
  body := [BitVec.ofNat 8 (cavernNumber a.cavern), BitVec.ofNat 8 (storeNumber a.store), 0]

/-- The answer to a REQUEST RUN that joins the queue as it then stands (R182). -/
def queuedAnswer (queue : List Train) (tr : Train) : Answer where
  code := .queued
  body := [0, 0, BitVec.ofNat 8 (queuePosition queue tr)]

section Named
variable {p : Port} {b cb sb : Byte} {tr : Train} {cp : Option Cavern} {sp : Option Store}
  (hb : trainOf b = some tr) (hc : cavernPref cb = some cp) (hs : storePref sb = some sp)
include hb hc hs

theorem takeRequestRun_foreign (ho : tr.owner ≠ p) (s : State) : takeRequestRun p b cb sb s = refuse .port s := by
  simp only [takeRequestRun, hb, hc, hs]
  exact if_pos ho

theorem takeRequestRun_refused (ho : tr.owner = p) {s : State} {code : ResultCode}
    (h : requestRefusal p tr s = some code) : takeRequestRun p b cb sb s = refuse code s := by
  simp only [takeRequestRun, hb, hc, hs, h]
  exact if_neg (not_not.2 ho)

theorem takeRequestRun_granted (ho : tr.owner = p) {s : State} {a : Attachment}
    (h : requestRefusal p tr s = none) (ha : chooseResources s tr ⟨cp, sp⟩ = some a) :
    takeRequestRun p b cb sb s = (grant tr a s, some (grantedAnswer a)) := by
  simp only [takeRequestRun, hb, hc, hs, h, ha, putBE_one]
  exact if_neg (not_not.2 ho)

theorem takeRequestRun_queued (ho : tr.owner = p) {s : State} (h : requestRefusal p tr s = none)
    (ha : chooseResources s tr ⟨cp, sp⟩ = none) : takeRequestRun p b cb sb s =
      ((enqueue tr ⟨cp, sp⟩ s).1, some (queuedAnswer (s.dsu.queue ++ [tr]) tr)) := by
  rw [← enqueue_queue tr ⟨cp, sp⟩ s]
  simp only [takeRequestRun, hb, hc, hs, h, ha, enqueue, putBE_one]
  exact if_neg (not_not.2 ho)

end Named

section Refusal
variable {p : Port} {tr : Train} {s : State}

theorem requestRefusal_state (h : s.svc.part ≠ .service ∨ s.presence p ≠ .declared ∨ (s.train tr).permit ≠ .off) :
    requestRefusal p tr s = some .state := by
  simp only [requestRefusal]
  rcases h with h | h | h
  · rw [if_pos (.inl h)]
  · rw [if_pos (.inr h)]
  · rw [if_pos h, ite_self]

variable (hpart : s.svc.part = .service) (hpresence : s.presence p = .declared) (hoff : (s.train tr).permit = .off)
include hpart hpresence hoff

theorem requestRefusal_direction (h : s.dsu.view.admits tr = false) :
    requestRefusal p tr s = some .wrongDirection := by
  simp [requestRefusal, hpart, hpresence, hoff, h]

theorem requestRefusal_unable (h : s.dsu.view.admits tr = true) (hable : (s.train tr).able = false) :
    requestRefusal p tr s = some .state := by
  simp [requestRefusal, hpart, hpresence, hoff, h, hable]

theorem requestRefusal_none (h : s.dsu.view.admits tr = true) (hable : (s.train tr).able = true) :
    requestRefusal p tr s = none := by
  simp [requestRefusal, hpart, hpresence, hoff, h, hable]

end Refusal

/-! ## Run reports (R144, R145, R154) -/

theorem exec_runReport (p : Port) (b : Byte) (power energy air heat : BitVec 32) (outlet : BitVec 16)
    (validity condition mode : Byte) (s : State) :
    exec (.runReport p b power energy air heat outlet validity condition mode) s = .next (command p 0x12
      (b :: ReportFields.bytes ⟨power, energy, air, heat, outlet, validity, condition, mode⟩)
      (takeRunReport p b ⟨power, energy, air, heat, outlet, validity, condition, mode⟩) s) := rfl

/-- What the router makes of an event depends on the ports by their presences alone (R166). -/
theorem emit_withSpi (kind : EventKind) (cls : EventClass) (subject : Subject) (w1 w2 : Int) {s : State} {x : Spi}
    (h : ∀ q, (x.get q).presence = (s.spi.get q).presence) :
    emit kind cls subject w1 w2 { s with spi := x } = { emit kind cls subject w1 w2 s with spi := x } := by
  obtain ⟨hc, he, ht⟩ : x.c.presence = s.spi.c.presence ∧ x.e.presence = s.spi.e.presence ∧
      x.t.presence = s.spi.t.presence := ⟨h .c, h .e, h .t⟩
  simp only [emit, State.route, hc, he, ht]

theorem report_air {x : ReportFields} {r : Report} (h : x.report = some r) : r.air = x.air.toNat := by
  simp only [ReportFields.report] at h
  split at h
  · cases h; rfl
  · cases h

theorem report_unknown {x : ReportFields} (h : conditionOf x.condition = none ∨ outletMarkOf x.validity = none) :
    x.report = none := by
  simp only [ReportFields.report]
  split
  case h_1 hc hm => simp [hc, hm] at h
  case h_2 => rfl

/-- UNPERMITTED FLOW, where a refused report states air (R145). -/
def flowTold (tr : Train) (air : Nat) (s : State) : State :=
  if air = 0 then s else emit .unpermittedFlow .alert (.train tr) air (s.train tr).permit.code s

/-- A mode byte of 0x5C sets the stream-mode flag once the train and port checks have passed (R154). -/
def streamSet (p : Port) (mode : Byte) (s : State) : State := if mode = 0x5C then setStream p true s else s

theorem streamSet_port (p q : Port) (mode : Byte) (s : State) : (streamSet p mode s).port q =
    if q = p ∧ mode = 0x5C then { s.port q with stream := true } else s.port q := by
  rw [streamSet]
  by_cases hmode : mode = 0x5C
  · by_cases hq : q = p <;> simp [hmode, hq, setStream]
  · rw [if_neg hmode, if_neg fun h => hmode h.2]

theorem streamSet_eq (p : Port) (mode : Byte) (s : State) :
    streamSet p mode s = { s with spi := (streamSet p mode s).spi } := by
  rw [streamSet]
  split <;> rfl

theorem flowTold_withSpi (tr : Train) (air : Nat) {s : State} {x : Spi}
    (h : ∀ q, (x.get q).presence = (s.spi.get q).presence) :
    flowTold tr air { s with spi := x } = { flowTold tr air s with spi := x } := by
  simp only [flowTold]
  split
  exacts [rfl, emit_withSpi _ _ _ _ _ h]

theorem flowTold_eq (tr : Train) (air : Nat) (s : State) :
    flowTold tr air s = { s with evr := (flowTold tr air s).evr } := by
  rw [flowTold]
  split <;> rfl

section RunReport
variable {p : Port} {b : Byte} {tr : Train} {x : ReportFields}

theorem takeRunReport_unknown (h : trainOf b = none) (s : State) : takeRunReport p b x s = refuse .range s := by
  rw [takeRunReport, nameTrain_range h]

theorem takeRunReport_foreign (h : trainOf b = some tr) (ho : tr.owner ≠ p) (s : State) :
    takeRunReport p b x s = refuse .port s := by
  rw [takeRunReport, nameTrain_port h ho]

variable (h : trainOf b = some tr) (ho : tr.owner = p)
include h ho

theorem takeRunReport_examined (s : State) : takeRunReport p b x s =
    (streamSet p x.mode (examineReport tr x s).1, (examineReport tr x s).2) := by
  rw [takeRunReport, nameTrain_train h ho]
  rfl

theorem takeRunReport_uncoded (hx : x.report = none) (s : State) :
    takeRunReport p b x s = (streamSet p x.mode s, some (.bare .range)) := by
  rw [takeRunReport_examined h ho, examineReport, hx]
  rfl

/-- A report of a train that is OFF, QUEUED or TRIPPED (R144, R145). -/
theorem takeRunReport_notRunning {r : Report} {s : State} (hx : x.report = some r)
    (hpermit : (s.train tr).permit.attached = false) : takeRunReport p b x s =
      (streamSet p x.mode (flowTold tr x.air.toNat s),
        some { code := .notRunning, body := [BitVec.ofNat 8 (s.train tr).permit.code,
          BitVec.ofNat 8 (((s.train tr).cause.map TripCause.code).getD 0)] }) := by
  simp only [takeRunReport_examined h ho, examineReport, hx, hpermit, refuseReport, report_air hx, putBE_one]
  rfl

end RunReport

theorem placeNow_stream (p : Port) (bytes : List Byte) (s : State) :
    ((placeNow p bytes s).port p).stream = (s.port p).stream := by simp [placeNow]

/-- The stream-mode flag after a report is the mode byte's, and no other port is touched. -/
theorem streamSet_placed {p : Port} {s w : State} {x : Spi} (hport : PresenceKept p s { s with spi := x })
    (hstream : (x.get p).stream = false) (hw : w.spi = x) (mode : Byte) (bytes : List Byte) :
    OtherPorts p s (placeNow p bytes (streamSet p mode w)) ∧
      ((placeNow p bytes (streamSet p mode w)).port p).stream = (mode == 0x5C) := by
  refine ⟨fun q hq => ?_, ?_⟩
  · have hother : w.port q = ({ s with spi := x } : State).port q := by rw [State.port, hw]; rfl
    rw [placeNow_otherPorts p bytes _ q hq, streamSet_port, if_neg fun h => hq h.1, hother, hport.only.2 q hq]
  · rw [placeNow_stream, streamSet_port]
    by_cases hmode : mode = 0x5C
    · simp [hmode]
    · rw [if_neg fun h => hmode h.2, State.port, hw]
      exact hstream.trans (beq_eq_false_iff_ne.2 hmode).symm

section Taken
variable {p : Port} {s : State} (h : Ready p s) {params : List Byte} {take : State → Taken} {a : Answer}
include h

/-- A report refused for its train or its port leaves the stream-mode flag clear. -/
theorem report_barred (ht : ∀ u, take u = (u, some a)) :
    Answers p a (command p 0x12 params take s) ∧ OnlyPort p s (command p 0x12 params take s) ∧
      ((command p 0x12 params take s).port p).stream = false := by
  obtain ⟨x, hport, hstream, hcommand⟩ := command_served (f := id) (params := params) (code := 0x12) h rfl
    fun u _ => ht u
  rw [hcommand]
  exact ⟨placeNow_answers p a _, hport.only.trans (modPort_onlyPort p _ _), (placeNow_stream ..).trans hstream⟩

/-- A report with a code unknown is refused in the mode its mode byte asks for. -/
theorem report_uncoded {mode : Byte} (ht : ∀ u, take u = (streamSet p mode u, some a)) :
    Answers p a (command p 0x12 params take s) ∧ OnlyPort p s (command p 0x12 params take s) ∧
      ((command p 0x12 params take s).port p).stream = (mode == 0x5C) := by
  obtain ⟨x, hport, hstream, hcommand⟩ := command_served (params := params) (code := 0x12) h rfl fun u _ => ht u
  obtain ⟨hothers, hflag⟩ := streamSet_placed (w := { s with spi := x }) hport hstream rfl mode a.full
  rw [hcommand]
  refine ⟨placeNow_answers p a _, ⟨?_, hothers⟩, hflag⟩
  rw [streamSet_eq]
  rfl

/-- A report of a train without an attached permit: beside the port the router alone hears of it. -/
theorem report_notRunning {mode : Byte} {tr : Train} {air : Nat}
    (ht : ∀ u, PresenceKept p s u → take u = (streamSet p mode (flowTold tr air u), some a)) :
    let t := command p 0x12 params take s
    Answers p a t ∧ t = { s with spi := t.spi, evr := t.evr } ∧ OtherPorts p s t ∧
      (t.port p).stream = (mode == 0x5C) ∧ t.evr = (flowTold tr air s).evr := by
  obtain ⟨x, hport, hstream, hcommand⟩ := command_served (params := params) (code := 0x12) h rfl ht
  rw [flowTold_withSpi tr air (fun q => hport.presence q)] at hcommand
  obtain ⟨hothers, hflag⟩ := streamSet_placed (w := { flowTold tr air s with spi := x }) hport hstream rfl mode a.full
  rw [hcommand]
  refine ⟨placeNow_answers p a _, ?_, hothers, hflag, ?_⟩
  · rw [streamSet_eq, flowTold_eq]
    rfl
  · rw [streamSet_eq]
    rfl

end Taken

/-- Settles O26: every refusal leaves the part as it was but for the port, and a report of a train without an attached
permit lets the router hear of its air. -/
theorem permitRefusals : Obligations.PermitRefusals := by
  refine ⟨fun p s b cb sb h => ?_, fun p s b power energy air heat outlet validity condition mode h => ?_⟩
  · have hrefused {a : ResultCode} (ht : ∀ u, PresenceKept p s u → takeRequestRun p b cb sb u = refuse a u) :
        AnswersOnly (.requestRun p b cb sb) p (.bare a) s :=
      ⟨_, exec_requestRun p b cb sb s, command_bare h rfl ht⟩
    refine ⟨fun hunknown => hrefused fun u _ => takeRequestRun_unknown hunknown u, fun tr cp sp hb hc hs =>
      ⟨fun ho => hrefused fun u _ => takeRequestRun_foreign hb hc hs ho u, fun ho hstate => hrefused fun u hu => ?_,
        fun ho hpart hpresence hoff => ⟨fun hdirection => hrefused fun u hu => ?_,
          fun hdirection hable => hrefused fun u hu => ?_⟩⟩⟩
    · exact takeRequestRun_refused hb hc hs ho ((requestRefusal_congr hu tr).trans (requestRefusal_state hstate))
    · exact takeRequestRun_refused hb hc hs ho
        ((requestRefusal_congr hu tr).trans (requestRefusal_direction hpart hpresence hoff hdirection))
    · exact takeRequestRun_refused hb hc hs ho
        ((requestRefusal_congr hu tr).trans (requestRefusal_unable hpart hpresence hoff hdirection hable))
  · refine ⟨fun hb => ⟨_, exec_runReport .., report_barred h (takeRunReport_unknown hb)⟩, fun tr hb =>
      ⟨fun ho => ⟨_, exec_runReport .., report_barred h (takeRunReport_foreign hb ho)⟩,
        fun ho hcodes => ⟨_, exec_runReport .., report_uncoded h (takeRunReport_uncoded hb ho (report_unknown hcodes))⟩,
        fun r ho hreport hpermit => ⟨_, exec_runReport .., ?_⟩⟩⟩
    have htaken (u : State) (hu : PresenceKept p s u) : takeRunReport p b
        ⟨power, energy, air, heat, outlet, validity, condition, mode⟩ u = (streamSet p mode (flowTold tr air.toNat u),
          some { code := .notRunning, body := [BitVec.ofNat 8 (s.train tr).permit.code,
            BitVec.ofNat 8 (((s.train tr).cause.map TripCause.code).getD 0)] }) := by
      rw [takeRunReport_notRunning hb ho hreport (by rw [hu.only.train]; exact hpermit), hu.only.train]
    obtain ⟨hanswer, hstate, hothers, hstream, hevr⟩ := report_notRunning h htaken
    refine ⟨hanswer, hstate, hothers, hstream, hevr.trans ?_⟩
    exact apply_ite State.evr ..

end Sys2Proof.Machine
end

section
/-! PROOFS. REQUEST RUN: which cavern and store a train is granted, and what a grant or an entry in the queue leaves
(O25). -/

namespace Sys2Proof.Machine

/-! ## The choice of resources (R121, R122) -/

/-- One of two objects that are each taken where they are in order, the second of both where it is preferred. -/
def pickOfTwo {α : Type} (first second : Bool) (takes : Prop) [Decidable takes] (x y : α) : Option α :=
  if first && second then some (if takes then y else x)
  else if first then some x else if second then some y else none

/-- The object picked comes before every other that fits, and where none fits none is picked. -/
theorem pickOfTwo_picked {α : Type} {x y : α} {first second : Bool} {takes : Prop} [Decidable takes]
    {fits : α → Prop} {before : α → α → Prop} (hall : ∀ z, z = x ∨ z = y) (hx : first = true ↔ fits x)
    (hy : second = true ↔ fits y) (hyx : takes → before y x) (hxy : ¬ takes → before x y) :
    (pickOfTwo first second takes x y = none ∧ ∀ z, ¬ fits z) ∨
      ∃ c, pickOfTwo first second takes x y = some c ∧ fits c ∧ ∀ d, d ≠ c → fits d → before c d := by
  have hother {c d e : α} (hd : d = c ∨ d = e) (hne : d ≠ c) : d = e := hd.resolve_left hne
  cases first <;> cases second
  case false.false =>
    refine .inl ⟨rfl, fun z hz => ?_⟩
    rcases hall z with hzx | hzy
    exacts [Bool.false_ne_true (hx.2 (hzx ▸ hz)), Bool.false_ne_true (hy.2 (hzy ▸ hz))]
  case false.true =>
    refine .inr ⟨y, rfl, hy.1 rfl, fun d hd hfits => ?_⟩
    rw [hother (hall d).symm hd] at hfits
    cases hx.2 hfits
  case true.false =>
    refine .inr ⟨x, rfl, hx.1 rfl, fun d hd hfits => ?_⟩
    rw [hother (hall d) hd] at hfits
    cases hy.2 hfits
  case true.true =>
    by_cases htakes : takes
    · refine .inr ⟨y, by simp [pickOfTwo, htakes], hy.1 rfl, fun d hd _ => ?_⟩
      rw [hother (hall d).symm hd]
      exact hyx htakes
    · refine .inr ⟨x, by simp [pickOfTwo, htakes], hx.1 rfl, fun d hd _ => ?_⟩
      rw [hother (hall d) hd]
      exact hxy htakes

section Choice
variable (s : State) (tr : Train)

theorem cavernFits_iff (pref : Option Cavern) (c : Cavern) : CavernFits s tr pref c ↔
    (s.cavern c).available tr = true ∧ (pref = none ∨ pref = some c) := by
  simp only [CavernFits, CavernRec.available, Bool.and_eq_true, Bool.not_eq_true', Option.isSome_iff_ne_none]
  split
  · simp only [Bool.and_eq_true, Bool.not_eq_true', bne_iff_ne]
    tauto
  · simp only [Bool.and_eq_true, Bool.not_eq_true', bne_iff_ne]
    tauto

theorem storeFits_iff (pref : Option Store) (st : Store) : StoreFits s tr pref st ↔
    (s.store st).available tr = true ∧ (pref = none ∨ pref = some st) := by
  simp only [StoreFits, StoreRec.available, Bool.and_eq_true]
  split
  · simp only [Bool.and_eq_true, bne_iff_ne, decide_eq_true_eq]
    tauto
  · simp only [Bool.and_eq_true, Bool.not_eq_true', bne_iff_ne, Option.isNone_iff_eq_none]
    tauto

theorem cavernBefore_iff (c d : Cavern) : CavernBefore s tr c d ↔
    ((s.cavern c).flowMatches tr = true ∧ (s.cavern d).flowMatches tr = false) ∨
      ((s.cavern c).flowMatches tr = (s.cavern d).flowMatches tr ∧
        ((s.cavern d).figureFor tr < (s.cavern c).figureFor tr ∨
          ((s.cavern c).figureFor tr = (s.cavern d).figureFor tr ∧ c = .cv1))) := by
  simp only [CavernBefore, CavernRec.flowMatches, CavernRec.figureFor]
  cases tr.expands <;> rfl

/-- CV2 comes before CV1 exactly where the choice between the two takes it. -/
theorem cavernBefore_second : CavernBefore s tr .cv2 .cv1 ↔
    prefersSecond (s.cavern .cv1) (s.cavern .cv2) tr = true := by
  rw [cavernBefore_iff, prefersSecond]
  split
  case isTrue h => simp [h]
  case isFalse h =>
    cases h1 : (s.cavern .cv1).flowMatches tr <;> cases h2 : (s.cavern .cv2).flowMatches tr <;> simp [h1, h2] at h ⊢

theorem cavernBefore_first : CavernBefore s tr .cv1 .cv2 ↔
    prefersSecond (s.cavern .cv1) (s.cavern .cv2) tr = false := by
  rw [cavernBefore_iff, prefersSecond]
  split
  case isTrue h => grind
  case isFalse h =>
    cases h1 : (s.cavern .cv1).flowMatches tr <;> cases h2 : (s.cavern .cv2).flowMatches tr <;> simp [h1, h2] at h ⊢

/-- HS-B comes before HS-A exactly where it has the larger figure. -/
theorem storeBefore_second : StoreBefore s tr .hsB .hsA ↔
    (s.store .hsA).figureFor tr < (s.store .hsB).figureFor tr := by
  simp [StoreBefore, StoreRec.figureFor]

theorem storeBefore_first : StoreBefore s tr .hsA .hsB ↔
    ¬ (s.store .hsA).figureFor tr < (s.store .hsB).figureFor tr := by
  simp only [StoreBefore, StoreRec.figureFor, and_true]
  omega

/-- The cavern chosen is the one that comes before every other that fits. -/
structure CavernChosen (pref : Option Cavern) (c : Cavern) : Prop where
  fits : CavernFits s tr pref c
  first : ∀ d, d ≠ c → CavernFits s tr pref d → CavernBefore s tr c d

structure StoreChosen (pref : Option Store) (st : Store) : Prop where
  fits : StoreFits s tr pref st
  first : ∀ x, x ≠ st → StoreFits s tr pref x → StoreBefore s tr st x

theorem chooseCavern_chosen (pref : Option Cavern) :
    (chooseCavern s.ciu tr pref = none ∧ ∀ c, ¬ CavernFits s tr pref c) ∨
      ∃ c, chooseCavern s.ciu tr pref = some c ∧ CavernChosen s tr pref c := by
  have hfirst : (s.ciu.cv1.available tr && pref != some .cv2) = true ↔ CavernFits s tr pref .cv1 := by
    rw [cavernFits_iff, Bool.and_eq_true]
    exact and_congr_right fun _ => by rcases pref with _ | _ | _ <;> decide
  have hsecond : (s.ciu.cv2.available tr && pref != some .cv1) = true ↔ CavernFits s tr pref .cv2 := by
    rw [cavernFits_iff, Bool.and_eq_true]
    exact and_congr_right fun _ => by rcases pref with _ | _ | _ <;> decide
  obtain h | ⟨c, hc, hfits, hbefore⟩ := pickOfTwo_picked (takes := prefersSecond s.ciu.cv1 s.ciu.cv2 tr = true)
    (fun c => by cases c <;> simp) hfirst hsecond (cavernBefore_second s tr).2
    fun h => (cavernBefore_first s tr).2 (Bool.eq_false_iff.2 h)
  exacts [.inl h, .inr ⟨c, hc, hfits, hbefore⟩]

theorem chooseStore_chosen (pref : Option Store) :
    (chooseStore s.hsu tr pref = none ∧ ∀ st, ¬ StoreFits s tr pref st) ∨
      ∃ st, chooseStore s.hsu tr pref = some st ∧ StoreChosen s tr pref st := by
  have hfirst : (s.hsu.hsA.available tr && pref != some .hsB) = true ↔ StoreFits s tr pref .hsA := by
    rw [storeFits_iff, Bool.and_eq_true]
    exact and_congr_right fun _ => by rcases pref with _ | _ | _ <;> decide
  have hsecond : (s.hsu.hsB.available tr && pref != some .hsA) = true ↔ StoreFits s tr pref .hsB := by
    rw [storeFits_iff, Bool.and_eq_true]
    exact and_congr_right fun _ => by rcases pref with _ | _ | _ <;> decide
  obtain h | ⟨st, hst, hfits, hbefore⟩ := pickOfTwo_picked (takes := s.hsu.hsA.figureFor tr < s.hsu.hsB.figureFor tr)
    (fun st => by cases st <;> simp) hfirst hsecond (storeBefore_second s tr).2 (storeBefore_first s tr).2
  exacts [.inl h, .inr ⟨st, hst, hfits, hbefore⟩]

end Choice

/-- What is chosen fits and comes first; nothing is chosen where a cavern or a store is wanting. -/
theorem chooseResources_chosen (s : State) (tr : Train) (prefs : Prefs) :
    (chooseResources s tr prefs = none ↔
      (∀ c, ¬ CavernFits s tr prefs.cavern c) ∨ ∀ st, ¬ StoreFits s tr prefs.store st) ∧
    ∀ a, chooseResources s tr prefs = some a →
      CavernChosen s tr prefs.cavern a.cavern ∧ StoreChosen s tr prefs.store a.store := by
  obtain ⟨hcavern, hnoCavern⟩ | ⟨c, hcavern, hchosen⟩ := chooseCavern_chosen s tr prefs.cavern
  · have hnone : chooseResources s tr prefs = none := by rw [chooseResources, hcavern]
    exact ⟨iff_of_true hnone (.inl hnoCavern), fun a ha => by rw [hnone] at ha; cases ha⟩
  obtain ⟨hstore, hnoStore⟩ | ⟨st, hstore, kchosen⟩ := chooseStore_chosen s tr prefs.store
  · have hnone : chooseResources s tr prefs = none := by rw [chooseResources, hcavern, hstore]
    exact ⟨iff_of_true hnone (.inr hnoStore), fun a ha => by rw [hnone] at ha; cases ha⟩
  · have hsome : chooseResources s tr prefs = some ⟨c, st⟩ := by rw [chooseResources, hcavern, hstore]
    refine ⟨iff_of_false (by rw [hsome]; nofun) ?_, fun a ha => ?_⟩
    · exact not_or.2 ⟨fun h => h c hchosen.fits, fun h => h st kchosen.fits⟩
    · obtain rfl : ⟨c, st⟩ = a := Option.some.inj (hsome.symm.trans ha)
      exact ⟨hchosen, kchosen⟩

/-! ## A grant (R120, R122, R142) -/

section Grant
variable (tr : Train) (a : Attachment) (s : State)

theorem grant_kept : DispatchKept s (grant tr a s) := (DispatchKept.attachTrain tr a s).trans (.runSplit ..)

theorem grant_queue : (grant tr a s).dsu.queue = s.dsu.queue := (runSplit_queue ..).trans (attachTrain_queue ..)

theorem grant_view : (grant tr a s).dsu.view = s.dsu.view :=
  (runSplit_view ..).trans (ViewKept.attachTrain tr a s).view

/-- The grant's train has its permit, its attachment and its timing from the grant. -/
theorem grant_train : ((grant tr a s).train tr).permit = .granted ∧ ((grant tr a s).train tr).attachment = some a ∧
    ((grant tr a s).train tr).prefs = none ∧ ((grant tr a s).train tr).silence = 0 ∧
    ((grant tr a s).train tr).timing = .onTime ∧ ((grant tr a s).train tr).reference = some s.pck.seconds := by
  have htrain := runSplit_train (attachTrain tr a s).dsu (attachTrain tr a s) tr
  rw [attachTrain_train, if_pos rfl] at htrain
  rw [grant, htrain]
  exact ⟨rfl, rfl, rfl, rfl, rfl, rfl⟩

theorem grant_others {v : Train} (hv : v ≠ tr) : ((grant tr a s).train v).permit = (s.train v).permit ∧
    ((grant tr a s).train v).attachment = (s.train v).attachment := by
  have htrain := runSplit_train (attachTrain tr a s).dsu (attachTrain tr a s) v
  rw [attachTrain_train, if_neg hv] at htrain
  rw [grant, htrain]
  exact ⟨rfl, rfl⟩

/-- Cavern and store hold the train among their attached trains. -/
theorem grant_attached : tr ∈ ((grant tr a s).cavern a.cavern).attached ∧
    (if tr.expands then tr ∈ ((grant tr a s).store a.store).drawing
      else ((grant tr a s).store a.store).charging = some tr) := by
  have hcavern : (grant tr a s).cavern a.cavern = (attachTrain tr a s).cavern a.cavern := by
    simp [grant, State.cavern]
  have hstore : (grant tr a s).store a.store = (attachTrain tr a s).store a.store := by simp [grant, State.store]
  rw [hcavern, hstore]
  refine ⟨by simp [attachTrain, attachCavern, attachStore], ?_⟩
  cases htr : tr.expands <;> simp [attachTrain, attachStore, htr]

theorem grant_eq : grant tr a s = { s with
    evr := (grant tr a s).evr, ciu := (grant tr a s).ciu, hsu := (grant tr a s).hsu, sbk := (grant tr a s).sbk
    dsu := (grant tr a s).dsu } := by
  have hciu : (grant tr a s).ciu = (attachTrain tr a s).ciu := by simp [grant]
  have hhsu : (grant tr a s).hsu = (attachTrain tr a s).hsu := by simp [grant]
  rw [hciu, hhsu, grant, runSplit_state_eq]
  rfl

end Grant

/-- Settles O25: the choice is made independently for cavern and store, and the taking of the command is a grant or an
entry at the tail of the queue. -/
theorem requestRunEffect : Obligations.RequestRunEffect := by
  refine ⟨fun s tr cp sp => ?_, fun p s b cb sb tr cp sp h hb ho hc hs hpart hpresence hoff hdirection hable =>
    ⟨fun a ha => ?_, fun hnone => ?_⟩⟩
  · obtain ⟨hnone, hsome⟩ := chooseResources_chosen s tr ⟨cp, sp⟩
    refine ⟨hnone, fun a ha => ?_⟩
    obtain ⟨hcavern, hstore⟩ := hsome a ha
    exact ⟨hcavern.fits, hcavern.first, hstore.fits, hstore.first⟩
  all_goals
    have hpassed (u : State) (hu : PresenceKept p s u) : requestRefusal p tr u = none :=
      (requestRefusal_congr hu tr).trans (requestRefusal_none hpart hpresence hoff hdirection hable)
    have hchoice (u : State) (hu : PresenceKept p s u) :
        chooseResources u tr ⟨cp, sp⟩ = chooseResources s tr ⟨cp, sp⟩ := by rw [hu.only.1]; rfl
  · obtain ⟨x, hport, -, hcommand⟩ := command_served h (code := 0x10) (params := [b, cb, sb])
      (take := takeRequestRun p b cb sb) (f := grant tr a) (a := grantedAnswer a) rfl
      fun u hu => takeRequestRun_granted hb hc hs ho (hpassed u hu) ((hchoice u hu).trans ha)
    obtain ⟨hpermit, hattachment, hprefs, hsilence, htiming, hreference⟩ := grant_train tr a { s with spi := x }
    obtain ⟨hcavern, hstore⟩ := grant_attached tr a { s with spi := x }
    have hkept := grant_kept tr a { s with spi := x }
    have hspi : (grant tr a { s with spi := x }).spi = x := by simp [grant]
    refine ⟨_, exec_requestRun p b cb sb s, ?_⟩
    rw [hcommand]
    refine ⟨placeNow_answers .., hpermit, hattachment, hprefs, hsilence, htiming, hreference, hcavern, hstore,
      grant_queue tr a _, grant_view tr a _, fun u hu => grant_others tr a _ hu, fun u => runSplit_order _ _ u,
      hkept.caverns, hkept.stores, hkept.book, hkept.trains, hkept.joins, hport.placed_otherPorts hspi _, ?_⟩
    rw [grant_eq]
    rfl
  · obtain ⟨x, hport, -, hcommand⟩ := command_served h (code := 0x10) (params := [b, cb, sb])
      (take := takeRequestRun p b cb sb) (f := fun u => (enqueue tr ⟨cp, sp⟩ u).1)
      (a := queuedAnswer (s.dsu.queue ++ [tr]) tr) rfl
      fun u hu => by
        rw [takeRequestRun_queued hb hc hs ho (hpassed u hu) ((hchoice u hu).trans hnone), hu.only.1]
    have htrain := enqueue_train tr ⟨cp, sp⟩ { s with spi := x }
    refine ⟨_, exec_requestRun p b cb sb s, ?_⟩
    rw [hcommand]
    exact ⟨placeNow_answers .., enqueue_queue .., (htrain tr).trans (if_pos rfl),
      fun u hu => (htrain u).trans (if_neg hu), rfl⟩

end Sys2Proof.Machine
end

section
/-! PROOFS. RELEASE: what becomes of a QUEUED, a GRANTED and a RUNNING train (O27). -/

namespace Sys2Proof.Machine

/-- An order of a train that is neither GRANTED nor RUNNING, in a part whose orders are lawful. -/
theorem OrdersLawful.target_zero {s : State} (h : OrdersLawful s) {tr : Train}
    (hpermit : (s.train tr).permit.holdsOrder = false) : (s.train tr).order.target = 0 := (h tr).2 (.inl hpermit)

/-! ## A QUEUED train (R123, R127) -/

section Queued
variable (tr : Train) (s : State)

/-- The train has left the queue, before the split. -/
def leftQueue : State :=
  { s with dsu := { s.dsu with queue := s.dsu.queue.filter (fun x => x ≠ tr) } }.modTrain tr
    (fun r => { r with permit := .off, prefs := none })

theorem releaseQueued_eq : releaseQueued tr s = runSplit s.dsu (leftQueue tr s) := rfl

theorem leftQueue_train (v : Train) : (leftQueue tr s).train v =
    if v = tr then { s.train tr with permit := .off, prefs := none } else s.train v := by
  cases tr <;> cases v <;> rfl

theorem leftQueue_kept : DispatchKept s (leftQueue tr s) := by
  have hqueue : DispatchKept s { s with dsu := { s.dsu with queue := s.dsu.queue.filter (fun x => x ≠ tr) } } :=
    .of_eq (.of_eq rfl) rfl (fun v => by cases v <;> rfl) rfl rfl
  exact hqueue.trans (.modTrain (by simp [TrainKept]))

theorem releaseQueued_kept : DispatchKept s (releaseQueued tr s) := (leftQueue_kept tr s).trans (.runSplit ..)

theorem releaseQueued_queue : (releaseQueued tr s).dsu.queue = s.dsu.queue.filter (fun x => x ≠ tr) ∧
    (releaseQueued tr s).dsu.view = s.dsu.view := by
  rw [releaseQueued_eq, runSplit_queue, runSplit_view]
  simp [leftQueue, State.modTrain_dsu]

theorem releaseQueued_train (v : Train) :
    ((releaseQueued tr s).train v).permit = (if v = tr then .off else (s.train v).permit) ∧
    ((releaseQueued tr s).train v).prefs = (if v = tr then none else (s.train v).prefs) ∧
    ((releaseQueued tr s).train v).attachment = (s.train v).attachment := by
  rw [releaseQueued_eq, runSplit_train s.dsu (leftQueue tr s) v, leftQueue_train]
  split
  case isTrue h => rw [h]; exact ⟨rfl, rfl, rfl⟩
  case isFalse => exact ⟨rfl, rfl, rfl⟩

theorem releaseQueued_state_eq : releaseQueued tr s = { s with
    evr := (releaseQueued tr s).evr, sbk := (releaseQueued tr s).sbk, dsu := (releaseQueued tr s).dsu } := by
  rw [releaseQueued_eq, runSplit_state_eq]
  rfl

end Queued

/-! ## A RUNNING train (R130) -/

section Running
variable {tr : Train} {s : State}

/-- A train that neither carries an order nor has a next order gets none from a split. -/
theorem runSplit_nextOrder (before : Dsu) (hpermit : (s.train tr).permit.holdsOrder = false)
    (hnext : (s.train tr).nextOrder = none) : ((runSplit before s).train tr).nextOrder = none := by
  have hcommitted := commitOrders_ordered before (split s) tr
  rw [split_train] at hcommitted
  simp only [TrainRec.ordered, Prod.mk.injEq] at hcommitted
  obtain ⟨⟨hholds, -⟩, -, hordered⟩ := hcommitted
  exact stagedSplit_nextOrder (hholds.trans hpermit) (hordered.trans hnext)

theorem stopTrains_running (h : (s.train tr).permit = .running) :
    stopTrains [tr] s = runSplit s.dsu (stopTrain s tr) := by
  have hholds : [tr].any (fun t => (s.train t).permit.holdsOrder) = true := by simp [h, Permit.holdsOrder]
  rw [stopTrains, if_pos hholds]
  rfl

/-- A RUNNING train is STOPPING without an order, and keeps its attachment. -/
theorem stopTrains_train (h : (s.train tr).permit = .running) :
    let r := (stopTrains [tr] s).train tr
    r.permit = .stopping ∧ r.order.target = 0 ∧ r.order.held = false ∧ r.nextOrder = none ∧
      r.attachment = (s.train tr).attachment := by
  have hstopped : (stopTrain s tr).train tr = { s.train tr with
      permit := .stopping, order := { (s.train tr).order with target := 0, held := false }, nextOrder := none } := by
    rw [stopTrain, State.modTrain_train, if_pos rfl, if_pos (by rw [h]; rfl)]
  have hpermit : ((stopTrain s tr).train tr).permit = .stopping := by rw [hstopped]
  have hsplit := runSplit_train s.dsu (stopTrain s tr) tr
  have kpermit := runSplit_permit s.dsu (stopTrain s tr) tr
  rw [stopTrains_running h]
  refine ⟨kpermit.trans hpermit, ?_, by rw [hsplit, hstopped],
    runSplit_nextOrder _ (by rw [hpermit]; rfl) (by rw [hstopped]), by rw [hsplit, hstopped]⟩
  exact (runSplit_ordersLawful s.dsu (stopTrain s tr)).target_zero (by rw [kpermit, hpermit]; rfl)

theorem stopTrains_rest (h : (s.train tr).permit = .running) : DispatchKept s (stopTrains [tr] s) ∧
    (stopTrains [tr] s).dsu.queue = s.dsu.queue ∧
    (∀ u, u ≠ tr → ((stopTrains [tr] s).train u).permit = (s.train u).permit) ∧
    stopTrains [tr] s = { s with
      evr := (stopTrains [tr] s).evr, sbk := (stopTrains [tr] s).sbk, dsu := (stopTrains [tr] s).dsu } := by
  rw [stopTrains_running h]
  refine ⟨(DispatchKept.stopTrain s tr).trans (.runSplit ..), ?_, fun u hu => ?_, ?_⟩
  · rw [runSplit_queue]
    simp [stopTrain, State.modTrain_dsu]
  · rw [runSplit_permit, stopTrain, State.modTrain_train, if_neg hu]
  · rw [runSplit_state_eq]
    rfl

end Running

/-! ## A GRANTED train (R124, R127) -/

theorem grantQueued_other (t : Train) (a : Attachment) (s : State) {v : Train} (hv : v ≠ t) :
    ((grantQueued t a s).train v).permit = (s.train v).permit ∧
      ((grantQueued t a s).train v).attachment = (s.train v).attachment := by
  have hqueue : ({ s with dsu := { s.dsu with queue := s.dsu.queue.filter (fun x => x ≠ t) } } : State).train v =
      s.train v := by cases v <;> rfl
  rw [grantQueued, runSplit_train, emit_train, attachTrain_train, if_neg hv, hqueue]
  exact ⟨rfl, rfl⟩

/-- An examination grants to QUEUED trains only. -/
theorem examineQueue_other (s : State) {v : Train} (hv : v ∉ s.dsu.queue) :
    ((examineQueue s).train v).permit = (s.train v).permit ∧
      ((examineQueue s).train v).attachment = (s.train v).attachment := by
  have hentry (u : State) {t : Train} (ht : v ≠ t) : ((examineEntry u t).train v).permit = (u.train v).permit ∧
      ((examineEntry u t).train v).attachment = (u.train v).attachment := by
    simp only [examineEntry]
    repeat' split
    exacts [grantQueued_other _ _ u ht, ⟨rfl, rfl⟩, ⟨rfl, rfl⟩]
  rw [examineQueue]
  generalize s.dsu.queue = l at hv
  induction l generalizing s with
  | nil => exact ⟨rfl, rfl⟩
  | cons t l ih =>
    obtain ⟨ht, hl⟩ := not_or.1 (fun h => hv (List.mem_cons.2 h))
    obtain ⟨hpermit, hattachment⟩ := ih (examineEntry s t) hl
    obtain ⟨kpermit, kattachment⟩ := hentry s ht
    exact ⟨hpermit.trans kpermit, hattachment.trans kattachment⟩

theorem leaveShort_joins (st : Store) (s : State) : EventsOnlyJoin s (leaveShort st s) := by
  have hleft : EventsOnlyJoin s (s.modStore st fun r => { r with short := false, shortfall := 0 }) := .of_eq rfl
  simp only [leaveShort]
  split
  exacts [hleft.trans (emit_joins _ _ _ _ _ _), .of_eq rfl]

theorem inventoryChangeIf_joins (changed : Bool) (s : State) : EventsOnlyJoin s (inventoryChangeIf changed s) := by
  rw [inventoryChangeIf]
  split
  exacts [inventoryChange_joins s, .of_eq rfl]

theorem releaseStore_joins (st : Store) (t : Train) (lost : Bool) (s : State) :
    EventsOnlyJoin s (releaseStore st t lost s) := by
  have hwithout : EventsOnlyJoin s (s.modStore st fun r => r.without t lost) := .of_eq rfl
  simp only [releaseStore]
  refine EventsOnlyJoin.trans ?_ (inventoryChangeIf_joins _ _)
  split
  exacts [hwithout.trans (leaveShort_joins st _), hwithout]

theorem releaseAttachment_joins (t : Train) (lost : Bool) (s : State) :
    EventsOnlyJoin s (releaseAttachment t lost s) := by
  have hcavern (c : Cavern) : EventsOnlyJoin s (releaseCavern c t lost
      (s.modTrain t fun r => { r with attachment := none })) := .of_eq rfl
  rw [releaseAttachment]
  split
  exacts [(hcavern _).trans (releaseStore_joins _ t lost _), .of_eq rfl]

section Granted
variable (tr : Train) (s : State)

/-- The train is OFF and detached, before the split. -/
def detached : State := releaseAttachment tr false
  (s.modTrain tr fun r => { r with permit := .off, nextOrder := none, order := { r.order with held := false } })

theorem releaseGranted_eq : releaseGranted tr s = examineQueue (runSplit s.dsu (detached tr s)) := rfl

theorem detached_train (v : Train) : (detached tr s).train v = if v = tr then { s.train tr with
    permit := .off, nextOrder := none, order := { (s.train tr).order with held := false }, attachment := none }
    else s.train v := by
  rw [detached, (releaseAttachment_dsu tr false _).2]
  split
  · rw [State.modTrain_train, if_pos rfl]
  case isFalse h => rw [State.modTrain_train, if_neg h]

theorem detached_queue : (detached tr s).dsu.queue = s.dsu.queue := by
  rw [detached, (releaseAttachment_dsu tr false _).1]
  simp [State.modTrain_dsu]

theorem releaseGranted_kept : (∀ v, TrainKept v s (releaseGranted tr s)) ∧ EventsOnlyJoin s (releaseGranted tr s) := by
  have hkept : DispatchKept (detached tr s) (releaseGranted tr s) :=
    (DispatchKept.runSplit s.dsu (detached tr s)).trans (.examineIf true _)
  have hoff : EventsOnlyJoin s (s.modTrain tr fun r => { r with
      permit := .off, nextOrder := none, order := { r.order with held := false } }) := .of_eq rfl
  have hjoins : EventsOnlyJoin s (detached tr s) := hoff.trans (releaseAttachment_joins tr false _)
  refine ⟨fun v => TrainKept.trans (b := detached tr s) ?_ (hkept.trains v), hjoins.trans hkept.joins⟩
  rw [TrainKept, detached_train]
  split
  case isTrue h => rw [h]
  case isFalse => rfl

theorem releaseGranted_mass (c : Cavern) : ((releaseGranted tr s).cavern c).mass = (s.cavern c).mass :=
  congrArg (fun l : Ledger => (l.caverns c).mass) (releaseGranted_ledger tr s)

theorem releaseGranted_state_eq : releaseGranted tr s = { s with
    evr := (releaseGranted tr s).evr, ciu := (releaseGranted tr s).ciu, hsu := (releaseGranted tr s).hsu
    sbk := (releaseGranted tr s).sbk, dsu := (releaseGranted tr s).dsu, pen := (releaseGranted tr s).pen } := by
  obtain ⟨hpins, hspi, hilr, hpck, harith, hsvc, hpending⟩ := releaseGranted_frame tr s
  rw [← hpins, ← hspi, ← hilr, ← hpck, ← harith, ← hsvc, ← hpending]

variable {tr s} in
/-- A GRANTED train stands in no queue, so that it is OFF after the examination too. -/
theorem releaseGranted_train (hmatches : QueueMatchesPermits s) (h : (s.train tr).permit = .granted) :
    let r := (releaseGranted tr s).train tr
    r.permit = .off ∧ r.attachment = none ∧ r.order.target = 0 := by
  have hqueue : tr ∉ (runSplit s.dsu (detached tr s)).dsu.queue := by
    rw [runSplit_queue, detached_queue, hmatches.2, h]
    nofun
  obtain ⟨hpermit, hattachment⟩ := examineQueue_other _ hqueue
  have hsplit := runSplit_train s.dsu (detached tr s) tr
  rw [detached_train, if_pos rfl] at hsplit
  rw [hsplit] at hpermit hattachment
  rw [releaseGranted_eq]
  refine ⟨hpermit, hattachment, ?_⟩
  exact ((examineQueue_orderly _).orders (runSplit_ordersLawful _ _)).target_zero (by rw [hpermit]; rfl)

end Granted

/-- Settles O27: RELEASE acts by the permit, each form a split over what becomes of the train. -/
theorem releaseEffect : Obligations.ReleaseEffect := by
  intro p s b h
  have hrefused {a : ResultCode} (ht : ∀ u, OnlyPort p s u → takeRelease p b u = refuse a u) :
      AnswersOnly (.release p b) p (.bare a) s := ⟨_, exec_release p b s, command_answersOnly h rfl ht⟩
  refine ⟨fun hb => hrefused fun u _ => by rw [takeRelease, nameTrain_range hb], fun tr hb =>
    ⟨fun ho => hrefused fun u _ => by rw [takeRelease, nameTrain_port hb ho], fun ho hmatches =>
      ⟨fun hqueued => ?queued, fun hgranted => ?granted, fun hrunning => ?running, fun hother => ?other⟩⟩⟩
  case queued =>
    obtain ⟨x, hport, -, hcommand⟩ := command_served h (code := 0x11) (params := [b]) (take := takeRelease p b)
      (f := releaseQueued tr) (a := .bare .done) rfl fun u hu => by
        simp only [takeRelease, nameTrain_train hb ho, releaseTrain, hu.only.train, hqueued]
        rfl
    obtain ⟨hqueue, hview⟩ := releaseQueued_queue tr { s with spi := x }
    have htrain := releaseQueued_train tr { s with spi := x }
    have hkept := releaseQueued_kept tr { s with spi := x }
    have hspi : (releaseQueued tr { s with spi := x }).spi = x := by rw [releaseQueued_state_eq]
    refine ⟨_, exec_release p b s, ?_⟩
    rw [hcommand]
    refine ⟨placeNow_answers .., (htrain tr).1.trans (if_pos rfl), (htrain tr).2.1.trans (if_pos rfl), hqueue, hview,
      fun u hu => ⟨(htrain u).1.trans (if_neg hu), (htrain u).2.1.trans (if_neg hu)⟩,
      fun u => ⟨(htrain u).2.2, runSplit_order _ _ u⟩, hkept.trains, hkept.book, hkept.joins,
      hport.placed_otherPorts hspi _, ?_⟩
    rw [releaseQueued_state_eq]
    rfl
  case granted =>
    obtain ⟨x, hport, -, hcommand⟩ := command_served h (code := 0x11) (params := [b]) (take := takeRelease p b)
      (f := releaseGranted tr) (a := .bare .done) rfl fun u hu => by
        simp only [takeRelease, nameTrain_train hb ho, releaseTrain, hu.only.train, hgranted]
        rfl
    obtain ⟨hpermit, hattachment, htarget⟩ := releaseGranted_train (s := { s with spi := x }) hmatches hgranted
    obtain ⟨htrains, hjoins⟩ := releaseGranted_kept tr { s with spi := x }
    have hspi : (releaseGranted tr { s with spi := x }).spi = x := by simp
    refine ⟨_, exec_release p b s, ?_⟩
    rw [hcommand]
    refine ⟨placeNow_answers .., hpermit, hattachment, htarget, releaseGranted_mass tr _, htrains, hjoins,
      hport.placed_otherPorts hspi _, ?_⟩
    rw [releaseGranted_state_eq]
    rfl
  case running =>
    obtain ⟨x, hport, -, hcommand⟩ := command_served h (code := 0x11) (params := [b]) (take := takeRelease p b)
      (f := stopTrains [tr]) (a := .bare .done) rfl fun u hu => by
        simp only [takeRelease, nameTrain_train hb ho, releaseTrain, hu.only.train, hrunning]
        rfl
    obtain ⟨hpermit, htarget, hheld, hnext, hattachment⟩ := stopTrains_train (s := { s with spi := x }) hrunning
    obtain ⟨hkept, hqueue, hothers, hstate⟩ := stopTrains_rest (s := { s with spi := x }) hrunning
    have hspi : (stopTrains [tr] { s with spi := x }).spi = x := by simp
    refine ⟨_, exec_release p b s, ?_⟩
    rw [hcommand]
    refine ⟨placeNow_answers .., hpermit, htarget, hheld, hnext, hattachment, hqueue, hothers, hkept.trains, hkept.book,
      hkept.joins, hport.placed_otherPorts hspi _, ?_⟩
    rw [hstate]
    rfl
  case other =>
    refine hrefused fun u hu => ?_
    simp only [takeRelease, nameTrain_train hb ho, releaseTrain, hu.train]
    rcases hother with hoff | hstopping | htripped
    · rw [hoff]
    · rw [hstopping]
    · rw [htripped]

end Sys2Proof.Machine
end

section
/-! PROOFS. Frames, first bytes and what a slot shifts out (O36). -/

namespace Sys2Proof.Machine

/-! ## The bytes of a frame (R155, R174 to R176) -/

theorem exec_selectFall (p : Port) (s : State) : exec (.selectFall p) s = .next (live (takeSelectFall p) s) := rfl
theorem exec_frameEnd (p : Port) (bytes : List Byte) (s : State) :
    exec (.frameEnd p bytes) s = .next (live (takeFrameEnd p bytes) s) := rfl
theorem exec_escapeByte (p : Port) (s : State) : exec (.escapeByte p) s = .next (live (clockBytes p [0xE7]) s) := rfl
theorem exec_unknownCommandCode (p : Port) (b : Byte) (s : State) :
    exec (.unknownCommandCode p b) s = .next (live (clockBytes p [b]) s) := rfl

theorem PortIface.ready_iff (r : PortIface) :
    r.ready = true ↔ (∃ n, r.frame = .taken n) ∧ r.phase = .idle ∧ r.stream = false := by
  cases h : r.frame <;> simp [ready, h, Frame.isTaken]

theorem PortIface.streams_iff (r : PortIface) :
    r.streams = true ↔ (∃ n, r.frame = .taken n) ∧ r.phase = .idle ∧ r.stream = true := by
  cases h : r.frame <;> simp [streams, h, Frame.isTaken]

section Clocked
variable {p : Port} {s : State} {n : Nat} (hframe : (s.port p).frame = .taken n)
include hframe

theorem addSlots_taken (k : Nat) : (addSlots p k s).port p = { s.port p with frame := .taken (n + k) } := by
  simp [addSlots, hframe]

theorem clockByte_taken (b : Byte) : clockByte p s b = receiveByte p n b (addSlots p 1 s) := by
  simp only [clockByte, hframe]

theorem clockByte_idle (hphase : (s.port p).phase = .idle) (b : Byte) :
    clockByte p s b = firstByte p b (addSlots p 1 s) := by
  rw [clockByte_taken hframe]
  simp only [receiveByte, addSlots_taken hframe, hphase]

theorem clockByte_executing (hphase : (s.port p).phase = .executing) (b : Byte) :
    clockByte p s b = addSlots p 1 s := by
  rw [clockByte_taken hframe]
  simp only [receiveByte, addSlots_taken hframe, hphase]

theorem clockByte_result (hphase : (s.port p).phase = .result) (b : Byte) :
    clockByte p s b = resultByte p n b (addSlots p 1 s) := by
  rw [clockByte_taken hframe]
  simp only [receiveByte, addSlots_taken hframe, hphase]

end Clocked

theorem addSlots_onlyPort (p : Port) (n : Nat) (s : State) : OnlyPort p s (addSlots p n s) := modPort_onlyPort ..

/-- An answer of one byte placed at a port that has been clocked. -/
theorem placeNow_oneByte (p : Port) (n : Nat) (a : Answer) (s : State) :
    let t := placeNow p a.oneByte (addSlots p n s)
    (t.port p).phase = .result ∧ (t.port p).result = a.oneByte ∧ (t.port p).read = 0 ∧ OnlyPort p s t := by
  exact ⟨by simp [placeNow], by simp [placeNow], by simp [placeNow],
    (addSlots_onlyPort p n s).trans (modPort_onlyPort ..)⟩

theorem firstByte_unknown {p : Port} {s : State} {b : Byte} (hstream : (s.port p).stream = false)
    (hb : catalogueLength b.toNat = none) : firstByte p b s = placeNow p (Answer.bare .unknown).oneByte s := by
  simp [firstByte, hstream, hb]

theorem firstByte_foreign {p : Port} {s : State} {b : Byte} (hstream : (s.port p).stream = true)
    (hb : p.owns b.toNat = false) (hescape : b ≠ 0xE7) :
    firstByte p b s = placeNow p (Answer.bare .unknown).oneByte s := by
  simp only [firstByte, hstream, hb, if_true, Bool.false_eq_true, if_false, if_neg hescape]

theorem firstByte_escape {p : Port} {s : State} (hstream : (s.port p).stream = true) :
    firstByte p 0xE7 s = setStream p false s := by
  have howns : p.owns (0xE7 : Byte).toNat = false := by cases p <;> decide
  simp only [firstByte, hstream, howns, if_true, Bool.false_eq_true, if_false]

/-! ## What the slots of a frame shift out (R174, R176) -/

/-- A frame that is not taken takes no byte. -/
theorem clockByte_untaken {p : Port} {s : State} (h : (s.port p).frame = .refused ∨ (s.port p).frame = .closed)
    (b : Byte) : clockByte p s b = s := by
  rcases h with h | h <;> simp only [clockByte, h]

theorem shiftedOut_untaken {p : Port} {s : State} (h : (s.port p).frame = .refused ∨ (s.port p).frame = .closed)
    (bytes : List Byte) : shiftedOut p bytes s = List.replicate bytes.length 0 := by
  induction bytes with
  | nil => rfl
  | cons b rest ih =>
    rw [shiftedOut, clockByte_untaken h, ih, List.length_cons, List.replicate_succ]
    rcases h with h | h <;> simp only [PortIface.shiftsOut, h]

theorem shiftsOut_status {r : PortIface} (h : r.frame = .taken 0) : r.shiftsOut = r.status := by
  simp only [PortIface.shiftsOut, h]

theorem shiftsOut_result {r : PortIface} {n : Nat} (h : r.frame = .taken (n + 1)) (hphase : r.phase = .result)
    (hdeferred : r.deferred = false) : r.shiftsOut = r.result.getD r.read 0 := by
  simp only [PortIface.shiftsOut, h, hphase, hdeferred, and_self, if_true]

/-- The result bytes of a port from the first unread one on, as many as there are slots, and then 0x00. -/
def PortIface.unread (r : PortIface) (k : Nat) : List Byte := (r.result.drop r.read ++ List.replicate k 0).take k

/-- One result byte has been read. -/
def PortIface.shifted (r : PortIface) (n : Nat) : PortIface :=
  { r with frame := .taken n, read := min r.result.length (r.read + 1) }

theorem unread_succ (r : PortIface) (n k : Nat) :
    r.unread (k + 1) = r.result.getD r.read 0 :: (r.shifted n).unread k := by
  simp only [PortIface.unread, PortIface.shifted]
  rcases Nat.lt_or_ge r.read r.result.length with h | h
  · rw [Nat.min_eq_right h, List.drop_eq_getElem_cons h, List.cons_append, List.take_succ_cons]
    simp [h, List.replicate_succ', ← List.append_assoc, List.take_append]
  · rw [Nat.min_eq_left (Nat.le_succ_of_le h), List.drop_eq_nil_of_le h, List.drop_length]
    simp [List.replicate_succ, h]

section Reading
variable {p : Port} {s : State} {n : Nat} (hframe : (s.port p).frame = .taken (n + 1))
  (hphase : (s.port p).phase = .result)
include hframe hphase

theorem clockByte_reads (hdeferred : (s.port p).deferred = false) (b : Byte) :
    (clockByte p s b).port p = (s.port p).shifted (n + 2) := by
  simp [clockByte_result hframe hphase, resultByte, addSlots_taken hframe, hdeferred, PortIface.shifted]

theorem clockByte_waits (hdeferred : (s.port p).deferred = true) (b : Byte) :
    (clockByte p s b).port p = { s.port p with frame := .taken (n + 2) } := by
  simp [clockByte_result hframe hphase, resultByte, addSlots_taken hframe, hdeferred]

end Reading

theorem shiftedOut_result {p : Port} {s : State} {n : Nat} (hframe : (s.port p).frame = .taken (n + 1))
    (hphase : (s.port p).phase = .result) (hdeferred : (s.port p).deferred = false) (bytes : List Byte) :
    shiftedOut p bytes s = (s.port p).unread bytes.length := by
  induction bytes generalizing s n with
  | nil => simp [shiftedOut, PortIface.unread]
  | cons b rest ih =>
    have hport := clockByte_reads hframe hphase hdeferred b
    rw [shiftedOut, shiftsOut_result hframe hphase hdeferred, ih (n := n + 1) (by rw [hport]; rfl)
      (by rw [hport]; exact hphase) (by rw [hport]; exact hdeferred), hport, List.length_cons, unread_succ]

/-- While a result is awaited, or held back to the next frame, the slots after the first shift out 0x00. -/
theorem shiftedOut_waiting {p : Port} {s : State} {n : Nat} (hframe : (s.port p).frame = .taken (n + 1))
    (hwait : (s.port p).phase = .executing ∨ ((s.port p).phase = .result ∧ (s.port p).deferred = true))
    (bytes : List Byte) : shiftedOut p bytes s = List.replicate bytes.length 0 := by
  induction bytes generalizing s n with
  | nil => rfl
  | cons b rest ih =>
    have hport : (clockByte p s b).port p = { s.port p with frame := .taken (n + 2) } := by
      rcases hwait with h | ⟨h, hdeferred⟩
      · rw [clockByte_executing hframe h, addSlots_taken hframe]
      · exact clockByte_waits hframe h hdeferred b
    have hzero : (s.port p).shiftsOut = 0 := by
      rcases hwait with h | ⟨h, hdeferred⟩
      · simp [PortIface.shiftsOut, hframe, h]
      · simp [PortIface.shiftsOut, hframe, hdeferred]
    rw [shiftedOut, hzero, ih (n := n + 1) (by rw [hport]) (by rw [hport]; exact hwait), List.length_cons,
      List.replicate_succ]

/-- The first slot of a frame in RESULT shifts out the status byte and reads nothing; 0x3F alone acts there (R177). -/
theorem shiftedOut_first {p : Port} {s : State} (hframe : (s.port p).frame = .taken 0)
    (hphase : (s.port p).phase = .result) (hdeferred : (s.port p).deferred = false) {b : Byte} (hb : b ≠ 0x3F)
    (bytes : List Byte) : shiftedOut p (b :: bytes) s = (s.port p).status :: (s.port p).unread bytes.length := by
  have hport : (clockByte p s b).port p = { s.port p with frame := .taken 1 } := by
    rw [clockByte_result hframe hphase, resultByte, if_pos rfl, if_neg hb, addSlots_taken hframe]
  rw [shiftedOut, shiftsOut_status hframe, shiftedOut_result (n := 0) (by rw [hport]) (by rw [hport]; exact hphase)
    (by rw [hport]; exact hdeferred), hport]
  rfl

/-! ## The end of a frame (R175, R176; log 9) -/

/-- The further slots of a frame read as many result bytes, as long as the result has more. -/
theorem clockBytes_reads {p : Port} {s : State} {n : Nat} (hframe : (s.port p).frame = .taken (n + 1))
    (hphase : (s.port p).phase = .result) (hdeferred : (s.port p).deferred = false) (bytes : List Byte)
    (hlength : (s.port p).read + bytes.length ≤ (s.port p).result.length) : OnlyPort p s (clockBytes p bytes s) ∧
      (clockBytes p bytes s).port p = { s.port p with
        frame := .taken (n + 1 + bytes.length), read := (s.port p).read + bytes.length } := by
  induction bytes generalizing s n with
  | nil =>
    refine ⟨⟨rfl, fun _ _ => rfl⟩, ?_⟩
    simp only [clockBytes, List.foldl_nil, List.length_nil, Nat.add_zero, ← hframe]
  | cons b rest ih =>
    rw [List.length_cons] at hlength
    have hport := clockByte_reads hframe hphase hdeferred b
    rw [PortIface.shifted, Nat.min_eq_right (by omega)] at hport
    have honly : OnlyPort p s (clockByte p s b) := by
      rw [clockByte_result hframe hphase, resultByte, if_neg n.succ_ne_zero]
      exact (addSlots_onlyPort ..).trans (modPort_onlyPort ..)
    obtain ⟨hrest, hread⟩ := ih (s := clockByte p s b) (n := n + 1) (by rw [hport]) (by rw [hport]; exact hphase)
      (by rw [hport]; exact hdeferred) (by rw [hport, Nat.add_assoc, Nat.add_comm 1]; exact hlength)
    refine ⟨honly.trans hrest, Eq.trans hread ?_⟩
    simp only [hport, List.length_cons, Nat.add_assoc, Nat.add_comm rest.length]

theorem risen_closed (r : PortIface) : r.risen.frame = .closed := by
  simp only [PortIface.risen]
  repeat' split
  all_goals rfl

theorem risen_unread {r : PortIface} (hphase : r.phase = .result) (hread : r.read < r.result.length) :
    r.risen = { r with frame := .closed } := by
  simp only [PortIface.risen, hphase, if_neg (not_le.2 hread), ite_self]

theorem risen_read {r : PortIface} {n : Nat} (hframe : r.frame = .taken n) (hphase : r.phase = .result)
    (hread : r.result.length ≤ r.read) : r.risen.phase = .idle := by
  simp only [PortIface.risen, hframe, Frame.isTaken, hphase, if_true, if_pos hread]

theorem risen_command {r : PortIface} {n : Nat} (hframe : r.frame = .taken n) (hphase : r.phase = .command) :
    r.risen.phase = .idle ∧ r.risen.collected = [] := by
  simp only [PortIface.risen, hframe, Frame.isTaken, hphase, if_true, and_self]

/-! ## The fall of select (R174; log 31) -/

theorem statusByte_eq (s : State) (p : Port) : statusByte s p = BitVec.ofNat 8 (
    (if (s.port p).phase = .idle ∨ (s.port p).phase = .command then 128 else 0) +
    (if (s.port p).phase = .result then 64 else 0) + (if (s.port p).phase = .executing then 32 else 0) +
    (if (s.events p).queue ≠ [] then 16 else 0) + (if (s.port p).stream then 8 else 0) +
    (if s.presence p = .declared then 4 else 0) + (if (s.events p).missed then 2 else 0) + 1) := by
  simp [statusByte, bit, State.attn, State.presence]
  rfl

theorem takeSelectFall_taken {p : Port} {s : State} (h : s.presence p ≠ .absent) : (takeSelectFall p s).port p =
    { s.port p with frame := .taken 0, status := statusByte s p, deferred := false } := by
  rw [takeSelectFall, State.modPort_port, if_pos rfl]
  exact if_neg h

theorem takeSelectFall_refused {p : Port} {s : State} (h : s.presence p = .absent) : (takeSelectFall p s).port p =
    { s.port p with frame := .refused, status := 0 } := by
  rw [takeSelectFall, State.modPort_port, if_pos rfl]
  exact if_pos h

theorem takeFrameEnd_port (p : Port) (bytes : List Byte) (s : State) :
    (takeFrameEnd p bytes s).port p = ((clockBytes p bytes s).port p).risen := by
  rw [takeFrameEnd, State.modPort_port, if_pos rfl]

/-- Settles O36: each row is read off the one port it writes, and the slots by induction on their number. -/
theorem framesBeginAndEnd : Obligations.FramesBeginAndEnd := by
  intro p s hreset
  have hclocked (b : Byte) : live (clockBytes p [b]) s = clockByte p s b := live_released hreset
  refine ⟨fun b hready hb => ?unknown, fun b hstreaming howns hescape => ?foreign, fun hstreaming => ?escape,
    fun hpresent => ?fall, fun habsent => ?absent, ?frameEnd, fun bytes => ⟨fun h => ?untaken,
    fun b rest hbytes hframe => ?status, fun b hb hframe hphase hdeferred => ?first, fun n hframe =>
    ⟨fun hphase hdeferred => ?result, fun hwait => ?waiting⟩⟩, fun n bytes hframe hphase hdeferred hlength => ?reads⟩
  case unknown =>
    obtain ⟨⟨n, hframe⟩, hphase, hstream⟩ := (PortIface.ready_iff _).1 hready.2
    refine ⟨_, exec_unknownCommandCode p b s, ?_⟩
    rw [hclocked, clockByte_idle hframe hphase, firstByte_unknown (by rw [addSlots_taken hframe]; exact hstream) hb]
    exact placeNow_oneByte p 1 _ s
  case foreign =>
    obtain ⟨⟨n, hframe⟩, hphase, hstream⟩ := (PortIface.streams_iff _).1 hstreaming.2
    refine ⟨_, exec_unknownCommandCode p b s, ?_⟩
    rw [hclocked, clockByte_idle hframe hphase,
      firstByte_foreign (by rw [addSlots_taken hframe]; exact hstream) howns hescape]
    obtain ⟨hresult, hbytes, -, honly⟩ := placeNow_oneByte p 1 (.bare .unknown) s
    refine ⟨hresult, hbytes, ?_, honly⟩
    rw [placeNow_stream, addSlots_taken hframe]
    exact hstream
  case escape =>
    obtain ⟨⟨n, hframe⟩, hphase, hstream⟩ := (PortIface.streams_iff _).1 hstreaming.2
    refine ⟨_, exec_escapeByte p s, ?_⟩
    rw [hclocked, clockByte_idle hframe hphase, firstByte_escape (by rw [addSlots_taken hframe]; exact hstream)]
    refine ⟨?_, by simp [setStream], (addSlots_onlyPort p 1 s).trans (modPort_onlyPort ..)⟩
    rw [setStream, State.modPort_port, if_pos rfl, addSlots_taken hframe]
    exact hphase
  case fall =>
    refine ⟨_, exec_selectFall p s, ?_⟩
    rw [live_released hreset, takeSelectFall_taken hpresent]
    exact ⟨rfl, statusByte_eq s p, rfl, rfl, modPort_onlyPort ..⟩
  case absent =>
    refine ⟨_, exec_selectFall p s, ?_⟩
    rw [live_released hreset, takeSelectFall_refused habsent]
    exact ⟨rfl, rfl, modPort_onlyPort ..⟩
  case frameEnd =>
    refine ⟨_, exec_frameEnd p [] s, ?_⟩
    rw [live_released hreset, takeFrameEnd_port]
    refine ⟨risen_closed _, modPort_onlyPort .., fun n hframe => ⟨risen_command hframe, risen_read hframe,
      fun hphase hread => ?_⟩⟩
    rw [clockBytes, List.foldl_nil, risen_unread hphase hread]
    exact ⟨hphase, rfl, rfl⟩
  case untaken => exact shiftedOut_untaken h bytes
  case status => rw [hbytes, shiftedOut, shiftsOut_status hframe]; rfl
  case first => exact shiftedOut_first hframe hphase hdeferred hb bytes
  case result => exact shiftedOut_result hframe hphase hdeferred bytes
  case waiting => exact shiftedOut_waiting hframe hwait bytes
  case reads =>
    obtain ⟨honly, hport⟩ := clockBytes_reads hframe hphase hdeferred bytes hlength.le
    refine ⟨_, exec_frameEnd p bytes s, ?_⟩
    rw [live_released hreset, takeFrameEnd_port, hport, risen_unread (by exact hphase) (by exact hlength)]
    exact ⟨hphase, rfl, honly.trans (modPort_onlyPort ..)⟩

end Sys2Proof.Machine
end

section
/-! PROOFS. What splits, examinations and the hand-offs of an event leave of a train that stands in no queue, how a
permit ends, and the silence ladder (O42). -/

namespace Sys2Proof.Machine

/-! ## The engine through several hand-overs (R94) -/

theorem EngineKept.trans {a b c : State} (h : EngineKept a b) (k : EngineKept b c) : EngineKept a c := by
  obtain ⟨hpen, hflight⟩ := h
  obtain ⟨kpen, kflight⟩ := k
  refine ⟨kpen.trans (by rw [hpen]), ?_⟩
  rcases kflight with ksame | ⟨knone, kstarted⟩
  · rw [ksame]
    exact hflight
  · rcases hflight with hsame | ⟨-, hstarted⟩
    · exact .inr ⟨hsame ▸ knone, kstarted⟩
    · rw [knone] at hstarted
      cases hstarted

theorem WalkKept.engineKept {s t : State} (h : WalkKept s t) : EngineKept s t := ⟨by rw [h], .inl h.flight⟩

theorem BookKept.of_eq {s t : State} (h : t.sbk = s.sbk) : BookKept s t := ⟨by rw [h], fun n => by rw [slot_congr h]⟩

/-- A record for a train's owner port that is handed over before any other (R165 to R168). -/
theorem told_owner {kind : EventKind} (hroute : kind.route = .owner) {cls : EventClass} {tr : Train} {w1 w2 : Int}
    {s w t : State} (hevr : w.evr = s.evr) (hpck : w.pck = s.pck)
    (h : EventsOnlyJoin (emit kind cls (.train tr) w1 w2 w) t) : Told tr.owner kind cls (.train tr) w1 w2 s t := by
  intro hroom hmask
  have hevents : w.events tr.owner = s.events tr.owner := by rw [State.events, hevr]; rfl
  have hnot : ¬ (cls = .info ∧ (s.events tr.owner).mask = true) := fun ⟨hinfo, hmasked⟩ => by
    simp [hmask hinfo] at hmasked
  refine List.IsPrefix.trans ?_ (h tr.owner).1
  rw [emit, route_events, EventPort.offered, if_pos (by simp [routedTo, hroute]), hevents, hpck, EventPort.take,
    if_neg hnot, if_pos (show (s.events tr.owner).queue.length < Config.queueTop from hroom)]

theorem holdsOrder_attached {p : Permit} (h : p.holdsOrder = true) : p.attached = true := by
  cases p with
  | granted | running => rfl
  | off | queued | stopping | tripped => cases h

/-! ## A train that stands in no queue (R122, R130 to R136) -/

/-- A train keeps its attachment and its report timing. It may be stopped; once it carries no order its permit stands
and it gets no next order. -/
structure TrainStands (tr : Train) (s t : State) : Prop where
  kept : (t.train tr).attachment = (s.train tr).attachment ∧ (t.train tr).silence = (s.train tr).silence ∧
    (t.train tr).timing = (s.train tr).timing ∧ (t.train tr).reference = (s.train tr).reference
  attached : (t.train tr).permit.attached = (s.train tr).permit.attached
  ended : (s.train tr).permit.holdsOrder = false → (t.train tr).permit = (s.train tr).permit ∧
    ((s.train tr).nextOrder = none → (t.train tr).nextOrder = none)

namespace TrainStands
variable {tr : Train}

theorem of_train {s t : State} (h : t.train tr = s.train tr) : TrainStands tr s t := by
  constructor <;> simp [h]

theorem refl (s : State) : TrainStands tr s s := of_train rfl

theorem trans {a b c : State} (h : TrainStands tr a b) (k : TrainStands tr b c) : TrainStands tr a c where
  kept := by
    obtain ⟨hattachment, hsilence, htiming, hreference⟩ := h.kept
    rw [← hattachment, ← hsilence, ← htiming, ← hreference]
    exact k.kept
  attached := k.attached.trans h.attached
  ended hpermit := by
    obtain ⟨hsame, hnext⟩ := h.ended hpermit
    obtain ⟨ksame, knext⟩ := k.ended (hsame ▸ hpermit)
    exact ⟨ksame.trans hsame, knext ∘ hnext⟩

theorem foldl {α : Type} {f : State → α → State} (hf : ∀ s x, TrainStands tr s (f s x)) (l : List α) (s : State) :
    TrainStands tr s (l.foldl f s) := by
  induction l generalizing s with
  | nil => exact refl s
  | cons x l ih => exact (hf s x).trans (ih (f s x))

theorem runSplit (before : Dsu) (s : State) : TrainStands tr s (runSplit before s) where
  kept := by rw [runSplit_train before s tr]; exact ⟨rfl, rfl, rfl, rfl⟩
  attached := by rw [runSplit_permit]
  ended hpermit := ⟨runSplit_permit before s tr, runSplit_nextOrder before hpermit⟩

theorem stopTrain (s : State) (t : Train) : TrainStands tr s (stopTrain s t) := by
  by_cases htr : tr = t
  · subst htr
    have htrain := State.modTrain_train s tr tr fun r => if r.permit.holdsOrder then
      { r with permit := .stopping, order := { r.order with target := 0, held := false }, nextOrder := none } else r
    rw [if_pos rfl] at htrain
    cases hholds : (s.train tr).permit.holdsOrder with
    | false =>
      rw [hholds] at htrain
      exact of_train htrain
    | true =>
      rw [hholds, if_pos rfl] at htrain
      have hattached : (s.train tr).permit.attached = true := holdsOrder_attached hholds
      refine ⟨?_, ?_, fun hnot => ?_⟩
      · rw [Machine.stopTrain, htrain]
        exact ⟨rfl, rfl, rfl, rfl⟩
      · rw [Machine.stopTrain, htrain, hattached]
        rfl
      · rw [hholds] at hnot
        cases hnot
  · exact of_train (by rw [Machine.stopTrain, State.modTrain_train, if_neg htr])

/-- A change of orders alone. -/
theorem modOrder {f : TrainRec → TrainRec} (hf : ∀ r, f r = { r with order := (f r).order }) (s : State) (t : Train) :
    TrainStands tr s (s.modTrain t f) := by
  have htrain := State.modTrain_train s t tr f
  rw [hf] at htrain
  split at htrain
  case isTrue h =>
    subst h
    constructor <;> simp [htrain]
  case isFalse => exact of_train htrain

theorem grantQueued (t : Train) (a : Attachment) (s : State) (h : tr ≠ t) : TrainStands tr s (grantQueued t a s) := by
  refine TrainStands.trans (of_train ?_) (.runSplit ..)
  rw [emit_train, attachTrain_train, if_neg h]
  cases tr <;> rfl

end TrainStands

/-- What holds of every grant to another train holds of an examination, for a train outside the queue (R124). -/
theorem examineQueue_induction {v : Train} {R : State → State → Prop} (refl : ∀ s, R s s)
    (trans : ∀ {a b c}, R a b → R b c → R a c) (grant : ∀ t a s, v ≠ t → R s (grantQueued t a s)) (s : State)
    (hv : v ∉ s.dsu.queue) : R s (examineQueue s) := by
  rw [examineQueue]
  generalize s.dsu.queue = l at hv
  induction l generalizing s with
  | nil => exact refl s
  | cons t l ih =>
    obtain ⟨ht, hl⟩ := not_or.1 (fun h => hv (List.mem_cons.2 h))
    refine trans ?_ (ih (examineEntry s t) hl)
    simp only [examineEntry]
    repeat' split
    exacts [grant _ _ s ht, refl s, refl s]

theorem TrainStands.examineQueue {tr : Train} {s : State} (h : tr ∉ s.dsu.queue) :
    TrainStands tr s (examineQueue s) :=
  examineQueue_induction .refl .trans TrainStands.grantQueued s h

theorem TrainStands.examineIf {tr : Train} {s : State} (h : tr ∉ s.dsu.queue) (asked : Bool) :
    TrainStands tr s (examineIf asked s) := by
  rw [Machine.examineIf]
  split
  exacts [.examineQueue h, .refl s]

theorem grantQueued_cavern (t : Train) (a : Attachment) (s : State) (c : Cavern) : (grantQueued t a s).cavern c =
    if c = a.cavern then { s.cavern c with attached := (s.cavern c).attached ++ [t] } else s.cavern c := by
  have hciu : (grantQueued t a s).ciu = (attachTrain t a
      { s with dsu := { s.dsu with queue := s.dsu.queue.filter (fun x => x ≠ t) } }).ciu := by simp [grantQueued]
  rw [State.cavern, hciu]
  simp only [attachTrain, attachStore, attachCavern, State.modStore_ciu, State.modCavern_ciu, Ciu.get_set]
  split
  case isTrue h => rw [h]; rfl
  case isFalse => rfl

/-- Only trains of the queue are attached by an examination (R124, R36). -/
theorem examineQueue_detached {tr : Train} {s : State} (h : tr ∉ s.dsu.queue) {c : Cavern}
    (hc : tr ∉ (s.cavern c).attached) : tr ∉ ((examineQueue s).cavern c).attached := by
  refine examineQueue_induction (R := fun s t => tr ∉ (s.cavern c).attached → tr ∉ (t.cavern c).attached)
    (fun _ => id) (fun h k => k ∘ h) (fun t a u ht hu => ?_) s h hc
  rw [grantQueued_cavern]
  split
  case isTrue => simpa [ht] using hu
  case isFalse => exact hu

theorem TrainStands.respond {tr : Train} (before : State) (atBoundary : Bool) (s : State) :
    TrainStands tr s (respond before atBoundary s) := by
  have hhold (u : State) (t : Train) : TrainStands tr u (holdTrain u t) :=
    .modOrder (fun r => by split <;> rfl) u t
  have hfree (u : State) (t : Train) : TrainStands tr u (unholdTrain u t) :=
    .modOrder (by exact fun _ => rfl) u t
  rw [Machine.respond]
  generalize (if atBoundary = true then [] else freeList before s) = frees
  split
  · exact (((foldl stopTrain _ s).trans (.foldl hhold _ _)).trans (.foldl hfree _ _)).trans (.runSplit ..)
  · exact .refl s

theorem not_mem_queue {s : State} (hmatches : QueueMatchesPermits s) {tr : Train}
    (h : (s.train tr).permit.attached = true) : tr ∉ s.dsu.queue := fun hmem => by
  rw [(hmatches.2 tr).1 hmem] at h
  cases h

/-- The hand-offs of an event leave an attached train attached (R40, R45, R70). -/
theorem TrainStands.handOn {tr : Train} {s : State} (hmatches : QueueMatchesPermits s)
    (h : (s.train tr).permit.attached = true) (before : State) (atBoundary always : Bool) :
    TrainStands tr s (handOn before atBoundary always s) := by
  have hchange (changed : Bool) (u : State) : TrainStands tr u (inventoryChangeIf changed u) :=
    .of_train (by simp [State.train])
  have hfirst := TrainStands.examineIf (not_mem_queue hmatches h) (leftFull before s)
  have hanswered := hfirst.trans (.respond before atBoundary _)
  have kmatches := ((examineIf_orderly (leftFull before s) s).trans (respond_orderly before atBoundary _)).queue
    hmatches
  exact (hanswered.trans (.examineIf (not_mem_queue kmatches (hanswered.attached.trans h)) _)).trans (hchange ..)

/-! ## The split and the examination at the end of a permit (R126, R128) -/

/-- The split over the trains as they stand, and then an examination of the queue. -/
def resplit (s : State) : State := examineQueue (runSplit s.dsu s)

section Resplit
variable (s : State)

theorem resplit_kept : DispatchKept s (resplit s) := (DispatchKept.runSplit s.dsu s).trans (.examineIf true _)

theorem resplit_pen : (resplit s).pen = s.pen := by simp [resplit]

theorem resplit_state_eq : resplit s = { s with
    evr := (resplit s).evr, ciu := (resplit s).ciu, hsu := (resplit s).hsu, sbk := (resplit s).sbk
    dsu := (resplit s).dsu } := by
  obtain ⟨hpins, hspi, hilr, hpck, harith, hpen, hsvc, hpending⟩ := examineQueue_frame (runSplit s.dsu s)
  rw [← resplit] at hpins hspi hilr hpck harith hpen hsvc hpending
  rw [runSplit_state_eq] at hpins hspi hilr hpck harith hpen hsvc hpending
  rw [← hpins, ← hspi, ← hilr, ← hpck, ← harith, ← hpen, ← hsvc, ← hpending]

variable {s} {tr : Train} (h : tr ∉ s.dsu.queue)
include h

theorem resplit_stands : TrainStands tr s (resplit s) :=
  (TrainStands.runSplit s.dsu s).trans (.examineQueue (by rw [runSplit_queue]; exact h))

/-- A train whose permit has ended has no order and no next order afterwards (R135, R136). -/
theorem resplit_noOrder (hpermit : (s.train tr).permit.holdsOrder = false) (hnext : (s.train tr).nextOrder = none) :
    ((resplit s).train tr).permit = (s.train tr).permit ∧ ((resplit s).train tr).order.target = 0 ∧
      ((resplit s).train tr).nextOrder = none := by
  obtain ⟨hsame, hnone⟩ := (resplit_stands h).ended hpermit
  exact ⟨hsame, ((examineQueue_orderly _).orders (runSplit_ordersLawful s.dsu s)).target_zero (hsame ▸ hpermit),
    hnone hnext⟩

theorem resplit_detached {c : Cavern} (hc : tr ∉ (s.cavern c).attached) : tr ∉ ((resplit s).cavern c).attached :=
  examineQueue_detached (by rw [runSplit_queue]; exact h) (by rw [State.cavern, runSplit_state_eq]; exact hc)

end Resplit

/-! ## What a report's answers leave as they were (R122, R126, R128, R130) -/

/-- What the Dispatch Unit does for one attached train leaves: records only join the queues; book, other trains, other
caverns and other stores keep everything but marks, orders and attached trains; the train's timing stands; and its
cavern changes its attached set, stable timer and quality only. -/
structure TrainServed (tr : Train) (a : Attachment) (s t : State) : Prop where
  joins : EventsOnlyJoin s t
  book : BookKept s t
  trains : ∀ v, v ≠ tr → TrainKept v s t
  engine : EngineKept s t
  timing : (t.train tr).silence = (s.train tr).silence ∧ (t.train tr).timing = (s.train tr).timing ∧
    (t.train tr).reference = (s.train tr).reference
  cavern : t.cavern a.cavern = { s.cavern a.cavern with
    attached := (t.cavern a.cavern).attached, stableTimer := (t.cavern a.cavern).stableTimer
    quality := (t.cavern a.cavern).quality }
  caverns : ∀ c, c ≠ a.cavern → CavernKept c s t
  stores : ∀ st, st ≠ a.store → StoreKept st s t
  frame : t = { s with evr := t.evr, ciu := t.ciu, hsu := t.hsu, sbk := t.sbk, dsu := t.dsu, pen := t.pen }

namespace TrainServed
variable {tr : Train} {a : Attachment}

theorem trans {s w t : State} (h : TrainServed tr a s w) (k : TrainServed tr a w t) : TrainServed tr a s t where
  joins := h.joins.trans k.joins
  book := h.book.trans k.book
  trains v hv := (h.trains v hv).trans (k.trains v hv)
  engine := h.engine.trans k.engine
  timing := by
    obtain ⟨hsilence, htiming, hreference⟩ := h.timing
    rw [← hsilence, ← htiming, ← hreference]
    exact k.timing
  cavern := k.cavern.trans (by rw [h.cavern])
  caverns c hc := (h.caverns c hc).trans (k.caverns c hc)
  stores st hst := (h.stores st hst).trans (k.stores st hst)
  frame := k.frame.trans (by rw [h.frame])

theorem of_kept {s t : State} (hkept : DispatchKept s t) (hengine : EngineKept s t) (hstands : TrainStands tr s t)
    (hframe : t = { s with
      evr := t.evr, ciu := t.ciu, hsu := t.hsu, sbk := t.sbk, dsu := t.dsu, pen := t.pen }) : TrainServed tr a s t where
  joins := hkept.joins
  book := hkept.book
  trains v _ := hkept.trains v
  engine := hengine
  timing := hstands.kept.2
  cavern := by rw [hkept.caverns a.cavern]
  caverns c _ := hkept.caverns c
  stores st _ := hkept.stores st
  frame := hframe

theorem emit (kind : EventKind) (cls : EventClass) (subject : Subject) (w1 w2 : Int) (s : State) :
    TrainServed tr a s (emit kind cls subject w1 w2 s) :=
  of_kept (.emit ..) (WalkKept.of_eq (by simp)).engineKept (.of_train (emit_train ..)) rfl

/-- A change of the train itself that leaves its timing. -/
theorem modTrain {f : TrainRec → TrainRec} (hf : ∀ r, (f r).silence = r.silence ∧ (f r).timing = r.timing ∧
    (f r).reference = r.reference) (s : State) : TrainServed tr a s (s.modTrain tr f) where
  joins := .of_eq rfl
  book := .of_eq rfl
  trains v hv := by rw [TrainKept, State.modTrain_train, if_neg hv]
  engine := (WalkKept.of_eq rfl).engineKept
  timing := by rw [State.modTrain_train, if_pos rfl]; exact hf _
  cavern := rfl
  caverns _ _ := rfl
  stores _ _ := rfl
  frame := rfl

theorem runSplit (before : Dsu) (s : State) : TrainServed tr a s (runSplit before s) :=
  of_kept (.runSplit before s) (WalkKept.of_eq (by simp)).engineKept (.runSplit before s) (by
    rw [runSplit_state_eq])

theorem postRecheck (s : State) : TrainServed tr a s (postRecheck (bumpGeneration s)) :=
  of_kept ((bumpGeneration_kept s).trans (.postRecheck _)) (recheckAsked (w := s) rfl rfl rfl).engine
    (.of_train (by simp [State.train])) (by rw [Machine.postRecheck]; split <;> rfl)

theorem resplit {s : State} (h : tr ∉ s.dsu.queue) : TrainServed tr a s (resplit s) :=
  of_kept (resplit_kept s) (WalkKept.of_eq (resplit_pen s)).engineKept (resplit_stands h) (by rw [resplit_state_eq])

theorem booked {s t : State} (h : TrainServed tr a s t) (c : Cavern) :
    (t.cavern c).mass = (s.cavern c).mass ∧ (t.cavern c).spent = (s.cavern c).spent := by
  by_cases hc : c = a.cavern
  · rw [hc, h.cavern]
    exact ⟨rfl, rfl⟩
  · rw [h.caverns c hc]
    exact ⟨rfl, rfl⟩

end TrainServed

/-! ## The end of an attachment (R34, R36, R49, R67, R122) -/

section Release
variable {tr : Train} {a : Attachment} {lost : Bool} {s : State} (h : (s.train tr).attachment = some a)

theorem leaveShort_store (st : Store) (s : State) :
    (∀ x, x ≠ st → (leaveShort st s).store x = s.store x) ∧
      ((leaveShort st s).store st).quality = (s.store st).quality := by
  simp only [leaveShort]
  split
  · exact ⟨fun x hx => by simp [State.store, State.modStore, hx], by simp [State.store, State.modStore]⟩
  · exact ⟨fun _ _ => rfl, rfl⟩

theorem without_quality (r : StoreRec) (t : Train) (lost : Bool) :
    (r.without t lost).quality = if lost then .estimated else r.quality := by
  simp only [StoreRec.without]
  repeat' split
  all_goals rfl

theorem without_short (r : StoreRec) (t : Train) (lost : Bool) : (r.without t lost).short = r.short := by
  simp only [StoreRec.without]
  repeat' split
  all_goals rfl

theorem releaseStore_store (st : Store) (t : Train) (lost : Bool) (s : State) :
    (∀ x, x ≠ st → (releaseStore st t lost s).store x = s.store x) ∧
      ((releaseStore st t lost s).store st).quality = if lost then .estimated else (s.store st).quality := by
  have hwithout (x : Store) : (s.modStore st fun r => r.without t lost).store x =
      if x = st then (s.store st).without t lost else s.store x := State.modStore_store ..
  have hchange (b : Bool) (u : State) (x : Store) : (inventoryChangeIf b u).store x = u.store x := by
    simp [State.store]
  obtain ⟨hothers, hquality⟩ := leaveShort_store st (s.modStore st fun r => r.without t lost)
  simp only [releaseStore, hchange]
  split
  · refine ⟨fun x hx => (hothers x hx).trans ((hwithout x).trans (if_neg hx)), hquality.trans ?_⟩
    rw [hwithout, if_pos rfl, without_quality]
  · refine ⟨fun x hx => (hwithout x).trans (if_neg hx), ?_⟩
    rw [hwithout, if_pos rfl, without_quality]

/-- Where the store is not SHORT no record of the release goes to the event queues. -/
theorem releaseStore_evr (st : Store) (t : Train) (lost : Bool) {s : State} (h : (s.store st).short = false) :
    (releaseStore st t lost s).evr = s.evr := by
  have hshort : ((s.modStore st fun r => r.without t lost).store st).short = false := by
    rw [State.modStore_store, if_pos rfl, without_short, h]
  have hleave : leaveShort st (s.modStore st fun r => r.without t lost) = s.modStore st fun r => r.without t lost := by
    simp only [leaveShort, hshort, Bool.false_eq_true, false_and, if_false]
  simp only [releaseStore, hleave, ite_self, hshort, h]
  rfl

/-- Where no store is SHORT the end of an attachment hands no record over. -/
theorem releaseAttachment_evr (tr : Train) (lost : Bool) {s : State} (hshort : ∀ st, (s.store st).short = false) :
    (releaseAttachment tr lost s).evr = s.evr := by
  rw [releaseAttachment]
  split
  case h_1 a h => rw [releaseStore_evr _ _ _ (by exact hshort a.store)]; simp
  case h_2 => rfl

include h

theorem releaseAttachment_eq : releaseAttachment tr lost s =
    releaseStore a.store tr lost (releaseCavern a.cavern tr lost
      (s.modTrain tr fun r => { r with attachment := none })) := by
  rw [releaseAttachment, h]

/-- The released train leaves the cavern's attached set; a LOST one leaves the cavern ESTIMATED. -/
theorem releaseAttachment_cavern (c : Cavern) : (releaseAttachment tr lost s).cavern c =
    if c = a.cavern then
      { s.cavern a.cavern with
        attached := (s.cavern a.cavern).attached.filter (fun x => x ≠ tr)
        stableTimer := if (s.cavern a.cavern).attached.filter (fun x => x ≠ tr) = [] then 0
          else (s.cavern a.cavern).stableTimer
        quality := if lost then .estimated else (s.cavern a.cavern).quality }
    else s.cavern c := by
  have hciu : (releaseAttachment tr lost s).ciu = (releaseCavern a.cavern tr lost
      (s.modTrain tr fun r => { r with attachment := none })).ciu := by
    rw [releaseAttachment_eq h]
    simp
  rw [State.cavern, hciu]
  exact State.modCavern_cavern ..

theorem releaseAttachment_store : (∀ x, x ≠ a.store → (releaseAttachment tr lost s).store x = s.store x) ∧
    ((releaseAttachment tr lost s).store a.store).quality =
      if lost then .estimated else (s.store a.store).quality := by
  rw [releaseAttachment_eq h]
  exact releaseStore_store a.store tr lost _

theorem TrainServed.releaseAttachment : TrainServed tr a s (releaseAttachment tr lost s) where
  joins := releaseAttachment_joins tr lost s
  book := .of_eq (by simp)
  trains v hv := by rw [TrainKept, (releaseAttachment_dsu tr lost s).2, if_neg hv]
  engine := (releaseAttachment_walk tr lost s).engineKept
  timing := by rw [(releaseAttachment_dsu tr lost s).2, if_pos rfl]; exact ⟨rfl, rfl, rfl⟩
  cavern := by rw [releaseAttachment_cavern h, if_pos rfl]
  caverns c hc := by rw [CavernKept, releaseAttachment_cavern h, if_neg hc]
  stores st hst := by rw [StoreKept, (releaseAttachment_store h).1 st hst]
  frame := by
    obtain ⟨hpins, hspi, hilr, hpck, hsbk, harith, hsvc, hpending⟩ := releaseAttachment_frame tr lost s
    rw [← hpins, ← hspi, ← hilr, ← hpck, ← harith, ← hsvc, ← hpending]

end Release

/-! ## The end of a permit (R126, R128) -/

/-- A train has another permit, with a cause where one is given. -/
def permitMarked (tr : Train) (permit : Permit) (cause : Option TripCause) (s : State) : State :=
  s.modTrain tr fun r => { r with permit := permit, cause := cause.or r.cause }

/-- A train's permit has ended: it is released and has no order. -/
def permitEnded (tr : Train) (lost : Bool) (permit : Permit) (cause : Option TripCause) (s : State) : State :=
  (releaseAttachment tr lost (permitMarked tr permit cause s)).modTrain tr TrainRec.endOrder

/-- A trip whose event is one hand-over to the router. -/
theorem trip_eq (tr : Train) (cause : TripCause) (kind : EventKind) (cls : EventClass) (subject : Subject)
    (w1 w2 : Int) (s : State) : trip tr cause (emit kind cls subject w1 w2) s =
      resplit (postRecheck (bumpGeneration
        (emit kind cls subject w1 w2 (permitEnded tr (cause = .lost) .tripped (some cause) s)))) := rfl

section Ended
variable {tr : Train} {a : Attachment} {lost : Bool} {permit : Permit} {cause : Option TripCause} {s : State}

theorem permitEnded_train : (permitEnded tr lost permit cause s).train tr =
    ({ s.train tr with permit := permit, cause := cause.or (s.train tr).cause, attachment := none } :
      TrainRec).endOrder := by
  rw [permitEnded, State.modTrain_train, if_pos rfl, (releaseAttachment_dsu tr lost _).2, if_pos rfl,
    permitMarked, State.modTrain_train, if_pos rfl]

theorem endPermit_eq : endPermit tr s = resplit (emit .permitEnded .info (.train tr) (s.train tr).totalAir
    (s.train tr).totalEnergy (permitEnded tr false .off none s)) := by
  have hended : endPermit tr s = resplit (emit .permitEnded .info (.train tr)
      ((permitEnded tr false .off none s).train tr).totalAir
      ((permitEnded tr false .off none s).train tr).totalEnergy (permitEnded tr false .off none s)) := rfl
  rw [hended, permitEnded_train]
  rfl

theorem permitEnded_queue : (permitEnded tr lost permit cause s).dsu.queue = s.dsu.queue := by
  have hset (u : State) (f : TrainRec → TrainRec) : (u.modTrain tr f).dsu.queue = u.dsu.queue := by
    simp [State.modTrain_dsu]
  rw [permitEnded, hset, (releaseAttachment_dsu tr lost _).1, permitMarked, hset]

theorem permitEnded_walk : WalkKept s (permitEnded tr lost permit cause s) :=
  releaseAttachment_walk tr lost (permitMarked tr permit cause s)

theorem permitEnded_evr (hshort : ∀ st, (s.store st).short = false) :
    (permitEnded tr lost permit cause s).evr = s.evr :=
  releaseAttachment_evr tr lost (s := permitMarked tr permit cause s) hshort

section Attached
variable (h : (s.train tr).attachment = some a)
include h

theorem permitMarked_attachment : ((permitMarked tr permit cause s).train tr).attachment = some a := by
  rw [permitMarked, State.modTrain_train, if_pos rfl, ← h]

theorem permitEnded_served : TrainServed tr a s (permitEnded tr lost permit cause s) :=
  have hmarked : TrainServed tr a s (permitMarked tr permit cause s) :=
    .modTrain (f := fun r => { r with permit := permit, cause := cause.or r.cause }) (fun _ => ⟨rfl, rfl, rfl⟩) s
  (hmarked.trans (.releaseAttachment (permitMarked_attachment h))).trans
    (.modTrain (f := TrainRec.endOrder) (fun _ => ⟨rfl, rfl, rfl⟩) _)

theorem permitEnded_detached : tr ∉ ((permitEnded tr lost permit cause s).cavern a.cavern).attached := by
  rw [permitEnded, State.modTrain_cavern, releaseAttachment_cavern (permitMarked_attachment h), if_pos rfl]
  simp

theorem permitEnded_estimated : ((permitEnded tr true permit cause s).cavern a.cavern).quality = .estimated ∧
    ((permitEnded tr true permit cause s).store a.store).quality = .estimated := by
  rw [permitEnded, State.modTrain_cavern, State.modTrain_store, releaseAttachment_cavern (permitMarked_attachment h),
    if_pos rfl]
  exact ⟨rfl, (releaseAttachment_store (permitMarked_attachment h)).2⟩

end Attached

/-- A train as the end of its permit leaves it: without attachment and order, and with the cause of a trip. -/
structure EndedTrain (tr : Train) (permit : Permit) (cause : Option TripCause) (s t : State) : Prop where
  permit : (t.train tr).permit = permit
  attachment : (t.train tr).attachment = none
  target : (t.train tr).order.target = 0
  nextOrder : (t.train tr).nextOrder = none
  kept : TrainKept tr (s.modTrain tr fun r => { r with cause := cause.or r.cause }) t

theorem EndedTrain.cause_eq {t : State} (h : EndedTrain tr permit cause s t) :
    (t.train tr).cause = cause.or (s.train tr).cause := by
  rw [h.kept, State.modTrain_train, if_pos rfl]

theorem EndedTrain.totals {t : State} (h : EndedTrain tr permit cause s t) :
    (t.train tr).totalAir = (s.train tr).totalAir ∧ (t.train tr).totalHeat = (s.train tr).totalHeat ∧
      (t.train tr).totalEnergy = (s.train tr).totalEnergy ∧ (t.train tr).last = (s.train tr).last := by
  rw [h.kept, State.modTrain_train, if_pos rfl]
  exact ⟨rfl, rfl, rfl, rfl⟩

/-- The split and the examination that follow the end of a permit leave the train out. -/
theorem resplit_ended {w : State} (hqueue : tr ∉ s.dsu.queue) (hpermit : permit.holdsOrder = false)
    (hw : w.dsu = (permitEnded tr lost permit cause s).dsu) : EndedTrain tr permit cause s (resplit w) := by
  have htrain : w.train tr = ({ s.train tr with
      permit := permit, cause := cause.or (s.train tr).cause, attachment := none } : TrainRec).endOrder := by
    rw [State.train, hw]
    exact permitEnded_train
  have hout : tr ∉ w.dsu.queue := by rw [hw, permitEnded_queue]; exact hqueue
  obtain ⟨hsame, htarget, hnext⟩ := resplit_noOrder hout (by rw [htrain]; exact hpermit) (by rw [htrain]; rfl)
  obtain ⟨hattachment, -⟩ := (resplit_stands hout).kept
  refine ⟨by rw [hsame, htrain]; rfl, by rw [hattachment, htrain]; rfl, htarget, hnext, ?_⟩
  refine TrainKept.trans (b := w) ?_ ((resplit_kept w).trains tr)
  rw [TrainKept, htrain, State.modTrain_train, if_pos rfl]
  rfl

section Trip
variable {c : TripCause} {kind : EventKind} {cls : EventClass} {subject : Subject} {w1 w2 : Int}

theorem trip_ended (hqueue : tr ∉ s.dsu.queue) :
    EndedTrain tr .tripped (some c) s (trip tr c (emit kind cls subject w1 w2) s) := by
  rw [trip_eq]
  exact resplit_ended (lost := c = .lost) hqueue rfl (by simp)

theorem trip_served (hqueue : tr ∉ s.dsu.queue) (h : (s.train tr).attachment = some a) :
    TrainServed tr a s (trip tr c (emit kind cls subject w1 w2) s) := by
  rw [trip_eq]
  refine (((permitEnded_served h).trans (.emit ..)).trans (.postRecheck _)).trans (.resplit ?_)
  simpa [permitEnded_queue] using hqueue

theorem trip_detached (hqueue : tr ∉ s.dsu.queue) (h : (s.train tr).attachment = some a) :
    tr ∉ ((trip tr c (emit kind cls subject w1 w2) s).cavern a.cavern).attached := by
  rw [trip_eq]
  refine resplit_detached (by simpa [permitEnded_queue] using hqueue) ?_
  simpa [State.cavern] using permitEnded_detached h

/-- A LOST train leaves its cavern and its store ESTIMATED. -/
theorem trip_lost_estimated (h : (s.train tr).attachment = some a) :
    let t := trip tr .lost (emit kind cls subject w1 w2) s
    (t.cavern a.cavern).quality = .estimated ∧ (t.store a.store).quality = .estimated := by
  obtain ⟨hcavern, hstore⟩ := permitEnded_estimated (permit := .tripped) (cause := some .lost) h
  have hkept := resplit_kept (postRecheck (bumpGeneration
    (emit kind cls subject w1 w2 (permitEnded tr true .tripped (some .lost) s))))
  intro t
  constructor
  · rw [← hcavern, show t.cavern a.cavern = _ from hkept.caverns a.cavern]
    simp [State.cavern]
  · rw [← hstore, show t.store a.store = _ from hkept.stores a.store]
    simp [State.store]

theorem trip_posted (hpart : s.svc.part ≠ .config) : RecheckPosted s (trip tr c (emit kind cls subject w1 w2) s) := by
  have hflight := (permitEnded_walk (tr := tr) (lost := c = .lost) (permit := .tripped) (cause := some c)
    (s := s)).flight
  have hasked := recheckAsked (s := emit kind cls subject w1 w2 (permitEnded tr (c = .lost) .tripped (some c) s))
    (t := trip tr c (emit kind cls subject w1 w2) s) rfl rfl (by rw [trip_eq, resplit_pen])
  have hposted := hasked.posted (by simpa [permitEnded, permitMarked] using hpart)
  rw [RecheckPosted] at hposted ⊢
  rwa [(emit_frame ..).2.2.2.2.2.2.2.2.2.1, hflight] at hposted

theorem trip_told (hroute : kind.route = .owner) (hshort : ∀ st, (s.store st).short = false) :
    Told tr.owner kind cls (.train tr) w1 w2 s (trip tr c (emit kind cls (.train tr) w1 w2) s) := by
  have hpck : (permitEnded tr (c = .lost) .tripped (some c) s).pck = s.pck := by simp [permitEnded, permitMarked]
  refine told_owner hroute (permitEnded_evr hshort) hpck ?_
  rw [trip_eq]
  exact (((bumpGeneration_kept _).trans (.postRecheck _)).trans (resplit_kept _)).joins

end Trip

theorem endPermit_ended (hqueue : tr ∉ s.dsu.queue) : EndedTrain tr .off none s (endPermit tr s) := by
  rw [endPermit_eq]
  exact resplit_ended hqueue rfl rfl

theorem endPermit_served (hqueue : tr ∉ s.dsu.queue) (h : (s.train tr).attachment = some a) :
    TrainServed tr a s (endPermit tr s) := by
  rw [endPermit_eq]
  refine ((permitEnded_served h).trans (.emit ..)).trans (.resplit ?_)
  simpa [permitEnded_queue] using hqueue

theorem endPermit_told (hshort : ∀ st, (s.store st).short = false) :
    Told tr.owner .permitEnded .info (.train tr) (s.train tr).totalAir (s.train tr).totalEnergy s
      (endPermit tr s) := by
  have hpck : (permitEnded tr false .off none s).pck = s.pck := by simp [permitEnded, permitMarked]
  refine told_owner rfl (permitEnded_evr hshort) hpck ?_
  rw [endPermit_eq]
  exact (resplit_kept _).joins

end Ended

/-! ## The rungs LATE and OVERDUE (R130, R151) -/

section Overdue
variable (tr : Train) (s : State)

/-- The train is OVERDUE and its event handed over, before it is stopped. -/
def overdueTold : State :=
  emit .reportOverdue .notice (.train tr) (s.train tr).silence (s.train tr).order.target
    (s.modTrain tr fun r => { r with timing := .overdue })

theorem overdueTold_train (v : Train) : (overdueTold tr s).train v =
    if v = tr then { s.train tr with timing := .overdue } else s.train v := by
  rw [overdueTold, emit_train, State.modTrain_train]

theorem overdueTold_kept : DispatchKept s (overdueTold tr s) :=
  (DispatchKept.modTrain (by simp [TrainKept])).trans (.emit ..)

variable {tr s}

theorem stopTrain_train (v : Train) : (stopTrain s tr).train v =
    if v = tr ∧ (s.train tr).permit.holdsOrder = true then { s.train tr with
      permit := .stopping, order := { (s.train tr).order with target := 0, held := false }, nextOrder := none }
    else s.train v := by
  rw [stopTrain, State.modTrain_train]
  by_cases hv : v = tr
  · subst hv
    simp only [if_true, true_and]
  · simp only [hv, if_false, false_and]

/-- An attached train, GRANTED, RUNNING or STOPPING, is STOPPING afterwards; where it carried an order it has none. -/
theorem stopTrains_stopped (h : (s.train tr).permit.attached = true) :
    let t := stopTrains [tr] s
    (t.train tr).permit = .stopping ∧ (t.train tr).timing = (s.train tr).timing ∧
      (t.train tr).attachment = (s.train tr).attachment ∧
      ((s.train tr).permit ≠ .stopping → (t.train tr).order.target = 0 ∧ (t.train tr).nextOrder = none) ∧
      (∀ v, v ≠ tr → (t.train v).permit = (s.train v).permit) ∧ DispatchKept s t ∧
      t = { s with evr := t.evr, sbk := t.sbk, dsu := t.dsu } := by
  intro t
  have ht : t = if (s.train tr).permit.holdsOrder then runSplit s.dsu (stopTrain s tr) else s := by
    simp [t, stopTrains]
  cases hholds : (s.train tr).permit.holdsOrder with
  | false =>
    have hstopping : (s.train tr).permit = .stopping := by
      revert h hholds
      cases (s.train tr).permit <;> decide
    rw [hholds, if_neg Bool.false_ne_true] at ht
    rw [ht]
    exact ⟨hstopping, rfl, rfl, fun hnot => absurd hstopping hnot, fun _ _ => rfl, .refl s, rfl⟩
  | true =>
    have hstopped := stopTrain_train (s := s) (tr := tr) tr
    rw [if_pos ⟨rfl, hholds⟩] at hstopped
    have hpermit := runSplit_permit s.dsu (stopTrain s tr) tr
    have hnone : ((stopTrain s tr).train tr).permit.holdsOrder = false := by rw [hstopped]; rfl
    obtain ⟨hattachment, -, htiming, -⟩ := (TrainStands.runSplit (tr := tr) s.dsu (stopTrain s tr)).kept
    rw [hholds, if_pos rfl] at ht
    rw [ht]
    refine ⟨by rw [hpermit, hstopped], by rw [htiming, hstopped], by rw [hattachment, hstopped], fun _ => ⟨?_, ?_⟩,
      fun v hv => ?_, (DispatchKept.stopTrain s tr).trans (.runSplit ..), ?_⟩
    · exact (runSplit_ordersLawful s.dsu (stopTrain s tr)).target_zero (hpermit ▸ hnone)
    · exact runSplit_nextOrder _ hnone (by rw [hstopped])
    · rw [runSplit_permit, stopTrain_train, if_neg fun hv' => hv hv'.1]
    · rw [runSplit_state_eq]
      rfl

end Overdue

/-- Settles O42: a rung is one of the three steps of the ladder; LOST is a trip. -/
theorem silenceLadder : Obligations.SilenceLadder := by
  intro s tr hreset hattached
  have hwaits {rung : Nat} {timing : Timing} (hrung : rung ≤ (s.train tr).rungs)
      (htiming : (s.train tr).timing = timing) : (s.train tr).rungWaits rung timing = true := by
    simp [TrainRec.rungWaits, hattached, hrung, htiming]
  refine ⟨fun hrung htiming => ?late, fun hrung htiming => ?overdue, fun hrung htiming hmatches a ha => ?lost⟩
  case late =>
    refine ⟨_, rfl, ?_⟩
    rw [live_released hreset, takeLate, if_pos (hwaits hrung htiming)]
    refine ⟨?_, fun u hu => ?_, rfl⟩
    · rw [emit_train, State.modTrain_train, if_pos rfl]
    · rw [emit_train, State.modTrain_train, if_neg hu]
  case overdue =>
    refine ⟨_, rfl, ?_⟩
    rw [live_released hreset, takeOverdue, if_pos (hwaits hrung htiming), ← overdueTold]
    have htold := overdueTold_train tr s
    have hself := (htold tr).trans (if_pos rfl)
    obtain ⟨hpermit, ktiming, kattachment, hordered, hothers, hkept, hstate⟩ :=
      stopTrains_stopped (s := overdueTold tr s) (tr := tr) (by rw [hself]; exact hattached)
    have hall := (overdueTold_kept tr s).trans hkept
    refine ⟨by rw [ktiming, hself], hpermit, by rw [kattachment, hself],
      fun hnot => hordered (by rw [hself]; exact hnot), fun u hu => by rw [hothers u hu, htold, if_neg hu],
      hall.trains, hall.book, hall.joins, ?_⟩
    rw [hstate]
    rfl
  case lost =>
    have hqueue := not_mem_queue hmatches hattached
    refine ⟨_, rfl, ?_⟩
    simp only [live_released hreset, takeLost, hwaits hrung htiming, if_true]
    have hended := trip_ended (c := .lost) (kind := .permitLost) (cls := .alert) (subject := .train tr)
      (w1 := (s.train tr).silence) (w2 := ((s.train tr).reference.getD 0 : Nat)) hqueue
    have hserved := trip_served (c := .lost) (kind := .permitLost) (cls := .alert) (subject := .train tr)
      (w1 := (s.train tr).silence) (w2 := ((s.train tr).reference.getD 0 : Nat)) hqueue ha
    obtain ⟨hsilence, ktiming, -⟩ := hserved.timing
    obtain ⟨hcavern, hstore⟩ := trip_lost_estimated (kind := .permitLost) (cls := .alert) (subject := .train tr)
      (w1 := (s.train tr).silence) (w2 := ((s.train tr).reference.getD 0 : Nat)) ha
    exact ⟨hended.permit, hended.cause_eq, hended.attachment, hended.target, hended.nextOrder, ktiming.trans htiming,
      hsilence, hcavern, hstore, trip_detached hqueue ha, fun c => (hserved.booked c).1, trip_posted,
      hserved.engine, hserved.joins, hserved.book, hserved.trains, hserved.frame⟩

end Sys2Proof.Machine
end

section
/-! PROOFS. What the Dispatch Unit does with a run report of an attached train (R126, R128, R138; first part of O28). -/

namespace Sys2Proof.Machine

/-! ## States with the same event queues, clock and engine -/

theorem Told.congr {p : Port} {kind : EventKind} {cls : EventClass} {subject : Subject} {w1 w2 : Int} {s w t : State}
    (hevr : w.evr = s.evr) (hpck : w.pck = s.pck) (h : Told p kind cls subject w1 w2 w t) :
    Told p kind cls subject w1 w2 s t := by
  simpa only [Told, State.events, hevr, hpck] using h

theorem RecheckPosted.congr {s w t : State} (hpen : w.pen = s.pen) (h : RecheckPosted w t) : RecheckPosted s t := by
  simpa only [RecheckPosted, hpen] using h

theorem TrainServed.refl {tr : Train} {a : Attachment} (s : State) : TrainServed tr a s s :=
  .of_kept (.refl s) (WalkKept.of_eq rfl).engineKept (.refl s) rfl

/-! ## The settle check (R138) -/

section Settle
variable {tr : Train} {power : Nat} {s : State}

theorem settleCheck_idle (h : (s.train tr).settlePending = false) : settleCheck tr power s = s := by
  simp [settleCheck, h]

/-- The check ends at a report within the band. -/
theorem settleCheck_within (h : (s.train tr).settlePending = true)
    (hband : gap power (s.train tr).order.target ≤ (s.train tr).band) : settleCheck tr power s =
      emit .orderSettled .info (.train tr) (s.train tr).order.target power
        (s.modTrain tr fun r => { r with settlePending := false }) := by
  simp [settleCheck, h, hband]

/-- A report outside the band is counted while the settle time lasts. -/
theorem settleCheck_counted (h : (s.train tr).settlePending = true)
    (hband : ¬ gap power (s.train tr).order.target ≤ (s.train tr).band)
    (hcount : (s.train tr).settleCount + 1 < s.svc.times.settle) :
    settleCheck tr power s = s.modTrain tr fun r => { r with settleCount := r.settleCount + 1 } := by
  simp [settleCheck, h, hband, hcount]

/-- The check has failed: it is over and EQUIPMENT CHECK is handed over. -/
def checkFailed (tr : Train) (power : Nat) (s : State) : State :=
  emit .equipmentCheck .notice (.train tr) (s.train tr).order.target power
    (s.modTrain tr fun r => { r with settlePending := false, settleCount := r.settleCount + 1 })

theorem settleCheck_failed (h : (s.train tr).settlePending = true)
    (hband : ¬ gap power (s.train tr).order.target ≤ (s.train tr).band)
    (hcount : s.svc.times.settle ≤ (s.train tr).settleCount + 1) : settleCheck tr power s =
      if power < (s.train tr).order.target then derate tr power (checkFailed tr power s)
      else checkFailed tr power s := by
  simp [settleCheck, h, hband, hcount, checkFailed]

theorem checkFailed_train : (checkFailed tr power s).train tr =
    { s.train tr with settlePending := false, settleCount := (s.train tr).settleCount + 1 } := by
  rw [checkFailed, emit_train, State.modTrain_train, if_pos rfl]

/-- The train has its new capability, before the split of a derate. -/
def derated (tr : Train) (power : Nat) (s : State) : State :=
  postRecheck (bumpGeneration (s.modTrain tr fun r => { r with cap := power, derated := true }))

theorem derate_eq (tr : Train) (power : Nat) (s : State) :
    derate tr power s = runSplit (derated tr power s).dsu (derated tr power s) := rfl

theorem derated_train : (derated tr power s).train tr = { s.train tr with cap := power, derated := true } := by
  have hdsu : (derated tr power s).dsu = (s.modTrain tr fun r => { r with cap := power, derated := true }).dsu := by
    simp [derated]
  rw [State.train, hdsu]
  exact (State.modTrain_train ..).trans (if_pos rfl)

theorem derate_asked (tr : Train) (power : Nat) (s : State) : RecheckAsked s (derate tr power s) :=
  recheckAsked (w := s.modTrain tr fun r => { r with cap := power, derated := true }) rfl rfl (by
    simp [derate_eq, derated])

theorem derate_train : TrainRec.Followed { s.train tr with
    cap := power, derated := true
    order := { (s.train tr).order with
      target := (derated tr power s).splitPlan.target tr, ramp := (s.train tr).rampLimit } }
    ((derate tr power s).train tr) := by
  have htrain := runSplit_train (derated tr power s).dsu (derated tr power s) tr
  rw [derated_train] at htrain
  exact htrain

/-- A record follows by a settle check: the check itself, the order and the capability may differ. -/
def TrainRec.Checked (r x : TrainRec) : Prop := x = { r with
  order := x.order, nextOrder := x.nextOrder, stagedSeq := x.stagedSeq, settlePending := x.settlePending
  settleCount := x.settleCount, cap := x.cap, derated := x.derated }

theorem settleCheck_train : (s.train tr).Checked ((settleCheck tr power s).train tr) := by
  have hmod {f : TrainRec → TrainRec} (hf : ∀ r, TrainRec.Checked r (f r)) :
      (s.train tr).Checked ((s.modTrain tr f).train tr) := by
    rw [State.modTrain_train, if_pos rfl]
    exact hf _
  simp only [settleCheck]
  split
  · split
    · rw [emit_train]
      exact hmod fun _ => rfl
    · split
      · split
        · rw [← checkFailed, TrainRec.Checked, derate_train, checkFailed_train]
        · rw [← checkFailed, TrainRec.Checked, checkFailed_train]
      · exact hmod fun _ => rfl
  · rfl

theorem derate_joins (tr : Train) (power : Nat) (s : State) : EventsOnlyJoin s (derate tr power s) := by
  have hderated : EventsOnlyJoin s (derated tr power s) := .of_eq (by simp [derated])
  exact hderated.trans (DispatchKept.runSplit _ _).joins

theorem derate_served (a : Attachment) : TrainServed tr a s (derate tr power s) :=
  ((TrainServed.modTrain (f := fun r => { r with cap := power, derated := true }) (fun _ => ⟨rfl, rfl, rfl⟩) s).trans
    (.postRecheck _)).trans (.runSplit ..)

theorem checkFailed_served (a : Attachment) : TrainServed tr a s (checkFailed tr power s) :=
  (TrainServed.modTrain (f := fun r => { r with settlePending := false, settleCount := r.settleCount + 1 })
    (fun _ => ⟨rfl, rfl, rfl⟩) s).trans (.emit ..)

theorem settleCheck_served (a : Attachment) : TrainServed tr a s (settleCheck tr power s) := by
  simp only [settleCheck]
  split
  · split
    · exact (TrainServed.modTrain (f := fun r => { r with settlePending := false })
        (fun _ => ⟨rfl, rfl, rfl⟩) s).trans (.emit ..)
    · split
      · split
        · exact (checkFailed_served a).trans (derate_served a)
        · exact checkFailed_served a
      · exact TrainServed.modTrain (f := fun r => { r with settleCount := r.settleCount + 1 })
          (fun _ => ⟨rfl, rfl, rfl⟩) s
  · exact .refl s

end Settle

/-! ## The permit at a READY report (R126) -/

/-- Power or air flows in a report. -/
def Report.flows (y : Report) : Bool := decide (0 < y.power) || decide (0 < y.air)

theorem Report.flows_iff (y : Report) : y.flows = true ↔ 0 < y.power ∨ 0 < y.air := by simp [Report.flows]

section Report
variable (tr : Train) (y : Report) (s : State)

/-- A GRANTED train is RUNNING at the first flow. -/
def firstFlow : State :=
  if (s.train tr).permit = .granted ∧ y.flows = true then s.modTrain tr (fun r => { r with permit := .running }) else s

theorem movePermit_eq : movePermit tr y s =
    if (s.train tr).permit = .stopping ∧ y.flows = false then endPermit tr s
    else settleCheck tr y.power (firstFlow tr y s) := rfl

theorem firstFlow_train : (firstFlow tr y s).train tr = { s.train tr with
    permit := if (s.train tr).permit = .granted ∧ y.flows = true then .running else (s.train tr).permit } := by
  rw [firstFlow]
  split
  · rw [State.modTrain_train, if_pos rfl]
  · rfl

theorem firstFlow_eq : firstFlow tr y s = { s with dsu := (firstFlow tr y s).dsu } := by
  rw [firstFlow]
  split <;> rfl

theorem firstFlow_served (a : Attachment) : TrainServed tr a s (firstFlow tr y s) := by
  rw [firstFlow]
  split
  exacts [.modTrain (f := fun r => { r with permit := .running }) (fun _ => ⟨rfl, rfl, rfl⟩) s, .refl s]

theorem bookReport_train : (bookReport tr y s).train tr = { s.train tr with
    totalAir := min 4294967295 ((s.train tr).totalAir + y.air)
    totalHeat := min 4294967295 ((s.train tr).totalHeat + y.heat)
    totalEnergy := min 4294967295 ((s.train tr).totalEnergy + y.energy)
    last := some ⟨y.power, y.condition⟩ } := by
  rw [bookReport, State.modTrain_train, if_pos rfl]
  rfl

theorem bookReport_queue : (bookReport tr y s).dsu.queue = s.dsu.queue := by
  simp [bookReport, State.modTrain_dsu]

theorem bookReport_served (a : Attachment) : TrainServed tr a s (bookReport tr y s) :=
  .modTrain (f := fun r => { r with
    totalAir := totalWith r.totalAir y.air, totalHeat := totalWith r.totalHeat y.heat
    totalEnergy := totalWith r.totalEnergy y.energy, last := some ⟨y.power, y.condition⟩ })
    (fun _ => ⟨rfl, rfl, rfl⟩) s

/-! ## The report as a whole (R126, R128, R138) -/

variable {tr y s}

theorem reportDispatch_ready (h : y.condition = .ready) :
    reportDispatch tr y s = movePermit tr y (bookReport tr y s) := by
  simp only [reportDispatch, h]

/-- The cause of the trip that a report's condition asks for. -/
def Condition.tripCause : Condition → Option TripCause
  | .ready => none
  | .notReady => some .notReady
  | .tripped => some .tripped

theorem reportDispatch_trip {cause : TripCause} (h : y.condition.tripCause = some cause) :
    reportDispatch tr y s = trip tr cause (emit .trainTripped .alert (.train tr) cause.code
      (s.train tr).order.target) (bookReport tr y s) := by
  have htarget : ((bookReport tr y s).train tr).order.target = (s.train tr).order.target := by rw [bookReport_train]
  rw [← htarget]
  cases hcondition : y.condition with
  | ready => rw [hcondition] at h; cases h
  | notReady | tripped =>
    rw [hcondition] at h
    cases h
    simp only [reportDispatch, hcondition]
    rfl

theorem reportDispatch_served (hmatches : QueueMatchesPermits s) (hattached : (s.train tr).permit.attached = true)
    {a : Attachment} (ha : (s.train tr).attachment = some a) : TrainServed tr a s (reportDispatch tr y s) := by
  have hqueue : tr ∉ (bookReport tr y s).dsu.queue := by rw [bookReport_queue]; exact not_mem_queue hmatches hattached
  have kattachment : ((bookReport tr y s).train tr).attachment = some a := by rw [bookReport_train, ← ha]
  refine (bookReport_served tr y s a).trans ?_
  cases hcause : y.condition.tripCause with
  | some cause => rw [reportDispatch_trip hcause]; exact trip_served hqueue kattachment
  | none =>
    have hready : y.condition = .ready := by
      revert hcause
      cases y.condition <;> simp [Condition.tripCause]
    rw [reportDispatch_ready hready, movePermit_eq]
    split
    exacts [endPermit_served hqueue kattachment, (firstFlow_served tr y _ a).trans (settleCheck_served a)]

/-- A trip at a report that is NOT_READY or TRIPPED. -/
theorem reportDispatch_tripped (hmatches : QueueMatchesPermits s) (hattached : (s.train tr).permit.attached = true)
    {cause : TripCause} (h : y.condition.tripCause = some cause) :
    EndedTrain tr .tripped (some cause) (bookReport tr y s) (reportDispatch tr y s) ∧
      (s.svc.part ≠ .config → RecheckPosted s (reportDispatch tr y s)) ∧
      ((∀ st, (s.store st).short = false) →
        Told tr.owner .trainTripped .alert (.train tr) cause.code (s.train tr).order.target s
          (reportDispatch tr y s)) := by
  rw [reportDispatch_trip h]
  exact ⟨trip_ended (by rw [bookReport_queue]; exact not_mem_queue hmatches hattached),
    fun hpart => .congr (w := bookReport tr y s) rfl (trip_posted hpart),
    fun hshort => .congr (w := bookReport tr y s) rfl rfl (trip_told rfl hshort)⟩

/-- The permit of a STOPPING train ends at a READY report without flow. -/
theorem reportDispatch_ended (hmatches : QueueMatchesPermits s) (hattached : (s.train tr).permit.attached = true)
    (hready : y.condition = .ready) (hstopping : (s.train tr).permit = .stopping) (hflows : y.flows = false) :
    EndedTrain tr .off none (bookReport tr y s) (reportDispatch tr y s) ∧
      ((∀ st, (s.store st).short = false) → Told tr.owner .permitEnded .info (.train tr)
        ((bookReport tr y s).train tr).totalAir ((bookReport tr y s).train tr).totalEnergy s
        (reportDispatch tr y s)) := by
  have hbooked : ((bookReport tr y s).train tr).permit = .stopping := by rw [bookReport_train, ← hstopping]
  rw [reportDispatch_ready hready, movePermit_eq, if_pos ⟨hbooked, hflows⟩]
  exact ⟨endPermit_ended (by rw [bookReport_queue]; exact not_mem_queue hmatches hattached),
    fun hshort => .congr (w := bookReport tr y s) rfl rfl (endPermit_told hshort)⟩

/-- The part before the settle check of a report: booked, and RUNNING at the first flow. -/
def checkStart (tr : Train) (y : Report) (s : State) : State := firstFlow tr y (bookReport tr y s)

theorem checkStart_train : (checkStart tr y s).train tr = { s.train tr with
    totalAir := min 4294967295 ((s.train tr).totalAir + y.air)
    totalHeat := min 4294967295 ((s.train tr).totalHeat + y.heat)
    totalEnergy := min 4294967295 ((s.train tr).totalEnergy + y.energy)
    last := some ⟨y.power, y.condition⟩
    permit := if (s.train tr).permit = .granted ∧ y.flows = true then .running else (s.train tr).permit } := by
  rw [checkStart, firstFlow_train, bookReport_train]

theorem checkStart_eq : checkStart tr y s = { s with dsu := (checkStart tr y s).dsu } := firstFlow_eq ..

theorem reportDispatch_checked (hready : y.condition = .ready)
    (h : (s.train tr).permit ≠ .stopping ∨ y.flows = true) :
    reportDispatch tr y s = settleCheck tr y.power (checkStart tr y s) := by
  have hnot : ¬ (((bookReport tr y s).train tr).permit = .stopping ∧ y.flows = false) := by
    rw [bookReport_train]
    rintro ⟨hstopping, hflows⟩
    rcases h with hpermit | hflowing
    exacts [hpermit hstopping, by rw [hflows] at hflowing; cases hflowing]
  rw [reportDispatch_ready hready, movePermit_eq, if_neg hnot, checkStart]

/-- A power away from the target by more than the band (R138). -/
theorem gap_le_iff (power target band : Nat) :
    gap power target ≤ band ↔ ¬ (min target power + band < max target power) := by
  simp only [gap]
  omega

/-- A train keeps its capability and its order, and its settle check waits or not. -/
structure CheckKept (tr : Train) (pending : Bool) (s t : State) : Prop where
  pending : (t.train tr).settlePending = pending
  cap : (t.train tr).cap = (s.train tr).cap
  order : (t.train tr).order = (s.train tr).order

section Checked
variable (hready : y.condition = .ready) (h : (s.train tr).permit ≠ .stopping ∨ y.flows = true)
include hready h

theorem reportDispatch_idle (hpending : (s.train tr).settlePending = false) :
    CheckKept tr false s (reportDispatch tr y s) := by
  rw [reportDispatch_checked hready h, settleCheck_idle (by rw [checkStart_train]; exact hpending)]
  exact ⟨by rw [checkStart_train]; exact hpending, by rw [checkStart_train], by rw [checkStart_train]⟩

theorem reportDispatch_within (hpending : (s.train tr).settlePending = true)
    (hband : gap y.power (s.train tr).order.target ≤ (s.train tr).band) :
    CheckKept tr false s (reportDispatch tr y s) ∧
      Told tr.owner .orderSettled .info (.train tr) (s.train tr).order.target y.power s (reportDispatch tr y s) := by
  have hstart := checkStart_train (tr := tr) (y := y) (s := s)
  have hchecked := settleCheck_within (power := y.power) (s := checkStart tr y s) (by rw [hstart]; exact hpending)
    (by rw [hstart]; exact hband)
  rw [hstart] at hchecked
  rw [reportDispatch_checked hready h, hchecked]
  refine ⟨⟨?_, ?_, ?_⟩, told_owner rfl (by rw [checkStart_eq]; rfl) (by rw [checkStart_eq]; rfl) (.of_eq rfl)⟩
  all_goals rw [emit_train, State.modTrain_train, if_pos rfl]
  exacts [by rw [hstart], by rw [hstart]]

theorem reportDispatch_counted (hpending : (s.train tr).settlePending = true)
    (hband : ¬ gap y.power (s.train tr).order.target ≤ (s.train tr).band)
    (hcount : (s.train tr).settleCount + 1 < s.svc.times.settle) :
    CheckKept tr true s (reportDispatch tr y s) ∧
      ((reportDispatch tr y s).train tr).settleCount = (s.train tr).settleCount + 1 := by
  have hstart := checkStart_train (tr := tr) (y := y) (s := s)
  have hchecked := settleCheck_counted (power := y.power) (s := checkStart tr y s) (by rw [hstart]; exact hpending)
    (by rw [hstart]; exact hband) (by rw [hstart, checkStart_eq]; exact hcount)
  have htrain : ((reportDispatch tr y s).train tr) = { (checkStart tr y s).train tr with
      settleCount := (s.train tr).settleCount + 1 } := by
    rw [reportDispatch_checked hready h, hchecked, State.modTrain_train, if_pos rfl, hstart]
  rw [htrain, hstart]
  refine ⟨⟨?_, ?_, ?_⟩, rfl⟩
  all_goals rw [htrain, hstart]
  exact hpending

theorem reportDispatch_failed (hpending : (s.train tr).settlePending = true)
    (hband : ¬ gap y.power (s.train tr).order.target ≤ (s.train tr).band)
    (hcount : s.svc.times.settle ≤ (s.train tr).settleCount + 1) :
    let t := reportDispatch tr y s
    Told tr.owner .equipmentCheck .notice (.train tr) (s.train tr).order.target y.power s t ∧
      (y.power < (s.train tr).order.target → (t.train tr).cap = y.power ∧ (t.train tr).derated = true ∧
        t.pen.generation = s.pen.generation + 1 ∧ (s.svc.part ≠ .config → RecheckPosted s t)) ∧
      ((s.train tr).order.target ≤ y.power → CheckKept tr false s t) := by
  have hstart := checkStart_train (tr := tr) (y := y) (s := s)
  have hframe := checkStart_eq (tr := tr) (y := y) (s := s)
  have htarget : ((checkStart tr y s).train tr).order.target = (s.train tr).order.target := by rw [hstart]
  have hchecked := settleCheck_failed (power := y.power) (s := checkStart tr y s) (by rw [hstart]; exact hpending)
    (by rw [hstart]; exact hband) (by rw [hstart, hframe]; exact hcount)
  have htold {t : State} (k : EventsOnlyJoin (checkFailed tr y.power (checkStart tr y s)) t) :
      Told tr.owner .equipmentCheck .notice (.train tr) (s.train tr).order.target y.power s t := by
    rw [checkFailed, htarget] at k
    exact told_owner rfl (by rw [hframe]; rfl) (by rw [hframe]; rfl) k
  intro t
  have ht : t = if y.power < (s.train tr).order.target
      then derate tr y.power (checkFailed tr y.power (checkStart tr y s))
      else checkFailed tr y.power (checkStart tr y s) := by
    rw [← htarget, ← hchecked]
    exact reportDispatch_checked hready h
  by_cases hlower : y.power < (s.train tr).order.target
  · rw [if_pos hlower] at ht
    have hasked := derate_asked tr y.power (checkFailed tr y.power (checkStart tr y s))
    have hpen : (checkFailed tr y.power (checkStart tr y s)).pen = s.pen := by rw [hframe]; rfl
    have hsvc : (checkFailed tr y.power (checkStart tr y s)).svc = s.svc := by rw [hframe]; rfl
    have htrain := derate_train (tr := tr) (power := y.power) (s := checkFailed tr y.power (checkStart tr y s))
    rw [ht]
    refine ⟨htold (derate_joins _ _ _), fun _ => ⟨by rw [htrain], by rw [htrain], ?_, fun hpart => ?_⟩,
      fun hge => absurd hlower (not_lt.2 hge)⟩
    · rw [hasked.generation, hpen]
    · exact .congr hpen (hasked.posted (by rw [hsvc]; exact hpart))
  · rw [if_neg hlower] at ht
    rw [ht]
    refine ⟨htold (.of_eq rfl), fun hlt => absurd hlt hlower, fun _ => ⟨?_, ?_, ?_⟩⟩
    all_goals rw [checkFailed_train]
    exacts [by rw [hstart], by rw [hstart]]

end Checked

/-- Interval totals and last report of a train as a report leaves them. -/
def TrainRec.Booked (y : Report) (r x : TrainRec) : Prop :=
  x.totalAir = min 4294967295 (r.totalAir + y.air) ∧ x.totalHeat = min 4294967295 (r.totalHeat + y.heat) ∧
    x.totalEnergy = min 4294967295 (r.totalEnergy + y.energy) ∧ x.last = some ⟨y.power, y.condition⟩

theorem EndedTrain.booked {permit : Permit} {cause : Option TripCause} {t : State}
    (h : EndedTrain tr permit cause (bookReport tr y s) t) : (s.train tr).Booked y (t.train tr) := by
  obtain ⟨hair, hheat, henergy, hlast⟩ := h.totals
  rw [bookReport_train] at hair hheat henergy hlast
  exact ⟨hair, hheat, henergy, hlast⟩

/-- A READY report that ends no permit moves it at the first flow only. -/
theorem reportDispatch_moved (hready : y.condition = .ready) (h : (s.train tr).permit ≠ .stopping ∨ y.flows = true) :
    let x := (reportDispatch tr y s).train tr
    (s.train tr).Booked y x ∧ x.attachment = (s.train tr).attachment ∧
      x.permit = if (s.train tr).permit = .granted ∧ y.flows = true then .running else (s.train tr).permit := by
  intro x
  have hx : ((checkStart tr y s).train tr).Checked x := by
    rw [show x = _ from congrArg (State.train · tr) (reportDispatch_checked hready h)]
    exact settleCheck_train
  rw [checkStart_train] at hx
  rw [hx]
  exact ⟨⟨rfl, rfl, rfl, rfl⟩, rfl, rfl⟩

/-- Interval totals and last report take the report whatever becomes of the permit. -/
theorem reportDispatch_booked (hmatches : QueueMatchesPermits s) (hattached : (s.train tr).permit.attached = true) :
    (s.train tr).Booked y ((reportDispatch tr y s).train tr) := by
  cases hcause : y.condition.tripCause with
  | some cause => exact (reportDispatch_tripped hmatches hattached hcause).1.booked
  | none =>
    have hready : y.condition = .ready := by
      revert hcause
      cases y.condition <;> simp [Condition.tripCause]
    by_cases h : (s.train tr).permit ≠ .stopping ∨ y.flows = true
    · exact (reportDispatch_moved hready h).1
    · obtain ⟨hstopping, hflows⟩ := not_or.1 h
      exact (reportDispatch_ended hmatches hattached hready (not_not.1 hstopping)
        (Bool.eq_false_iff.2 hflows)).1.booked

/-- The Dispatch Unit's step of a report, for a train whose permit is attached (first part of O28). -/
theorem reportDispatch_dispatched (hmatches : QueueMatchesPermits s) (hattached : (s.train tr).permit.attached = true) :
    ReportDispatched tr y s (reportDispatch tr y s) := by
  obtain ⟨hair, hheat, henergy, hlast⟩ := reportDispatch_booked (y := y) hmatches hattached
  have hband := gap_le_iff y.power (s.train tr).order.target (s.train tr).band
  simp only [ReportDispatched, ← Report.flows_iff]
  refine ⟨hair, hheat, henergy, hlast, fun cause hcause => ?tripped, fun hready hstopping hflows => ?ended,
    fun hready hflows => ?moved⟩
  case tripped =>
    have htrips : y.condition.tripCause = some cause := by
      rcases hcause with ⟨hcondition, rfl⟩ | ⟨hcondition, rfl⟩ <;> rw [hcondition] <;> rfl
    obtain ⟨hended, hposted, htold⟩ := reportDispatch_tripped hmatches hattached htrips
    exact ⟨hended.permit, hended.cause_eq, hended.attachment, hended.target, hended.nextOrder, hposted, htold⟩
  case ended =>
    obtain ⟨hended, htold⟩ := reportDispatch_ended hmatches hattached hready hstopping (Bool.eq_false_iff.2 hflows)
    obtain ⟨kair, -, kenergy, -⟩ := hended.totals
    rw [← kair, ← kenergy] at htold
    exact ⟨hended.permit, hended.attachment, hended.target, hended.nextOrder, htold⟩
  case moved =>
    obtain ⟨-, hattachment, hpermit⟩ := reportDispatch_moved hready hflows
    refine ⟨hpermit, hattachment, fun hpending => ?_, fun hpending hnear => ?_, fun hpending haway hcount => ?_,
      fun hpending haway hcount => ?_⟩
    · obtain ⟨kpending, hcap, horder⟩ := reportDispatch_idle hready hflows hpending
      exact ⟨kpending, hcap, horder⟩
    · obtain ⟨⟨kpending, hcap, horder⟩, htold⟩ := reportDispatch_within hready hflows hpending (hband.2 hnear)
      exact ⟨kpending, hcap, horder, htold⟩
    · obtain ⟨⟨kpending, hcap, horder⟩, kcount⟩ :=
        reportDispatch_counted hready hflows hpending (fun h => hband.1 h haway) hcount
      exact ⟨kpending, kcount, hcap, horder⟩
    · obtain ⟨htold, hlower, hhigher⟩ :=
        reportDispatch_failed hready hflows hpending (fun h => hband.1 h haway) hcount
      refine ⟨htold, hlower, fun hle => ?_⟩
      obtain ⟨kpending, hcap, horder⟩ := hhigher hle
      exact ⟨kpending, hcap, horder⟩

end Report
end Sys2Proof.Machine
end

section
/-! PROOFS. What a run report leaves of its store: a deposit or a draw, with its hand-offs (R50 to R60; for O28 and
O29). -/

namespace Sys2Proof.Machine

/-! ## The store's own work at a deposit (R50 to R53) -/

section Deposit
variable (st : Store) (s : State)

theorem addDeposited_work (x : Nat) : StoreWork st s (addDeposited st x s) :=
  (StoreWork.modStore st s _).trans (.raise st _ _ _ _)

theorem enterFull_work (x : Nat) : StoreWork st s (enterFull st x s) := by
  simp only [enterFull]
  split
  exacts [.refl st s, (StoreWork.modStore st s _).trans (.emit st _ _ _ _ _ _)]

theorem makeRoom_work : StoreWork st s (makeRoom st s) := by
  rw [makeRoom]
  split
  exacts [(StoreWork.modStore st s _).trans (.evalReachable st _), .refl st s]

theorem openParcel_work (t : Train) : StoreWork st s (openParcel st t s) :=
  (makeRoom_work st s).trans (.modStore st _ _)

theorem depositOpen_work (taken : Nat) (outlet : Option Nat) : StoreWork st s (depositOpen st taken outlet s) := by
  rw [depositOpen]
  split
  exacts [(StoreWork.modStore st s _).trans (.evalReachable st _), .refl st s]

theorem depositHeat_work (t : Train) (q : Nat) (outlet : Option Nat) :
    StoreWork st s (depositHeat st t q outlet s) := by
  have hif {p : Prop} [Decidable p] {a b : State} (h : StoreWork st a b) : StoreWork st a (if p then b else a) := by
    split
    exacts [h, .refl st a]
  have hopened (p : Prop) [Decidable p] (a : State) : StoreWork st a (if p then a else openParcel st t a) := by
    split
    exacts [.refl st a, openParcel_work st a t]
  simp only [depositHeat]
  refine (addDeposited_work st s q).trans ?_
  split
  · exact .addWrittenOff st _ _ _
  · exact (((hopened _ _).trans (depositOpen_work st _ _ _)).trans (hif (.addWrittenOff st _ _ _))).trans
      (hif (enterFull_work st _ _))

/-! ### The records of the steps -/

theorem addWrittenOff_store (source : ExcSource) (x : Nat) : (addWrittenOff st source x s).store st =
    { s.store st with writtenOff := (saturateCounter ((s.store st).writtenOff + x)).val } := by
  have hraise (e : Option ExcCode) (u : State) : (raise e source (.store st) u).store st = u.store st := by
    simp [State.store]
  rw [addWrittenOff, hraise, State.modStore_store, if_pos rfl]

theorem enterFull_store (x : Nat) : (enterFull st x s).store st = { s.store st with full := true } := by
  simp only [enterFull]
  split
  case isTrue h => rw [← h]
  case isFalse => simp [State.store, State.modStore]

/-- An evaluation of reachable heat, on a record with another stack. -/
theorem evalReachable_replaced (stack : StoreRec → List Parcel) : ∃ reach,
    (evalReachable st (s.modStore st fun r => { r with stack := stack r })).store st =
      { s.store st with stack := stack (s.store st), reachable := reach } := by
  obtain ⟨reach, hrecord, -⟩ := evalReachable_record st (s.modStore st fun r => { r with stack := stack r })
  exact ⟨reach, by rw [hrecord, State.modStore_store, if_pos rfl]⟩

/-- The stack that takes a further parcel (R51). -/
def StoreRec.roomy (mode : Mode) (r : StoreRec) : List Parcel :=
  if 24 ≤ r.stack.length then mergeBottom mode r.tBase r.stack else r.stack

theorem makeRoom_record : ∃ reach, (makeRoom st s).store st =
    { s.store st with stack := (s.store st).roomy s.arith.mode, reachable := reach } := by
  rw [makeRoom, StoreRec.roomy]
  split
  case isTrue hfull =>
    rw [if_pos (by exact hfull)]
    exact evalReachable_replaced st s fun r => mergeBottom s.arith.mode r.tBase r.stack
  case isFalse hroom =>
    rw [if_neg (by exact hroom)]
    exact ⟨_, rfl⟩

/-- The stack with its new OPEN parcel (R50). -/
def StoreRec.opened (mode : Mode) (t : Train) (current : Nat) (r : StoreRec) : List Parcel :=
  ⟨0, some r.tBase, true, some t, current⟩ :: r.roomy mode

theorem openParcel_record (t : Train) : ∃ reach, (openParcel st t s).store st =
    { s.store st with stack := (s.store st).opened s.arith.mode t s.sbk.current, reachable := reach } := by
  obtain ⟨reach, hrecord⟩ := makeRoom_record st s
  refine ⟨reach, ?_⟩
  rw [openParcel, State.modStore_store, if_pos rfl, hrecord]
  rfl

theorem depositOpen_record (taken : Nat) (outlet : Option Nat) : ∃ reach, (depositOpen st taken outlet s).store st =
    { s.store st with
      stack := if (s.store st).hasOpen && (decide (0 < taken) || outlet.isNone)
        then depositTop s.arith.mode (s.store st).tBase taken outlet (s.store st).stack else (s.store st).stack
      reachable := reach } := by
  rw [depositOpen]
  split
  case isTrue => exact evalReachable_replaced st s fun r => depositTop s.arith.mode r.tBase taken outlet r.stack
  case isFalse => exact ⟨_, rfl⟩

end Deposit

/-! ## The deposit of a report as a whole -/

/-- The stack of a charging train's store as a report with a heat leaves it, above T_base (R50 to R52). -/
def StoreRec.chargedStack (mode : Mode) (t : Train) (current heat : Nat) (outlet : Option Nat) (r : StoreRec) :
    List Parcel :=
  if r.free == 0 && (!r.hasOpen || outlet.isSome) then r.stack
  else depositTop mode r.tBase (min heat r.free) outlet (if r.hasOpen then r.stack else r.opened mode t current)

/-- The deposit into the OPEN parcel, opened where free capacity allows. -/
def depositParcel (st : Store) (t : Train) (taken : Nat) (outlet : Option Nat) (s : State) : State :=
  depositOpen st taken outlet
    (if (s.store st).hasOpen || (s.store st).free == 0 then s else openParcel st t s)

theorem depositParcel_record (st : Store) (t : Train) {heat : Nat} (hheat : heat ≠ 0) (outlet : Option Nat)
    (s : State) : ∃ reach, (depositParcel st t (min heat (s.store st).free) outlet s).store st =
      { s.store st with
        stack := (s.store st).chargedStack s.arith.mode t s.sbk.current heat outlet, reachable := reach } := by
  rw [depositParcel]
  by_cases hopen : (s.store st).hasOpen = true
  · obtain ⟨reach, hrecord⟩ := depositOpen_record st s (min heat (s.store st).free) outlet
    refine ⟨reach, ?_⟩
    rw [hopen, Bool.true_or, if_pos rfl, hrecord, StoreRec.chargedStack, hopen]
    cases hfree : (s.store st).free with
    | zero => cases outlet <;> simp
    | succ n => simp [Nat.pos_of_ne_zero hheat]
  · rw [Bool.not_eq_true] at hopen
    cases hfree : (s.store st).free with
    | zero =>
      obtain ⟨reach, hrecord⟩ := depositOpen_record st s (min heat 0) outlet
      refine ⟨reach, ?_⟩
      simp only [hopen, BEq.rfl, Bool.or_true, if_true, hrecord, StoreRec.chargedStack, hfree]
      simp
    | succ n =>
      obtain ⟨first, hopened⟩ := openParcel_record st s t
      have hmode : (openParcel st t s).arith.mode = s.arith.mode := by rw [(openParcel_work st s t).arith]
      have hhas := openParcel_hasOpen st t s
      obtain ⟨reach, hrecord⟩ := depositOpen_record st (openParcel st t s) (min heat (n + 1)) outlet
      refine ⟨reach, ?_⟩
      have htaken : 0 < min heat (n + 1) := by omega
      rw [hmode, hhas, hopened] at hrecord
      simp only [hopen, Bool.false_or, show ((n + 1 == 0) = false) from rfl, Bool.false_eq_true, if_false, hrecord,
        StoreRec.chargedStack, hfree]
      simp [htaken]

/-- What the heat of a report leaves of a record, but for its reachable heat. -/
def StoreRec.charged (mode : Mode) (t : Train) (current heat : Nat) (outlet : Option Nat) (r : StoreRec) : StoreRec :=
  let cold := outlet.any (fun o => o ≤ r.tBase)
  let lost := if cold then heat else heat - min heat r.free
  { r with
    stack := if cold then r.stack else r.chargedStack mode t current heat outlet
    deposited := (saturateCounter (r.deposited + heat)).val
    writtenOff := if lost = 0 then r.writtenOff else (saturateCounter (r.writtenOff + lost)).val
    full := r.full || (!cold && decide (r.free ≤ heat)) }

theorem depositParcel_content (st : Store) (t : Train) {taken : Nat} (outlet : Option Nat) (s : State)
    (h : taken ≤ (s.store st).free) :
    ((depositParcel st t taken outlet s).store st).content = (s.store st).content + taken := by
  obtain ⟨heats, hledger, hsum, -⟩ := depositParcel_takes (st := st) (s := s) t outlet rfl h
  have hheats : ((depositParcel st t taken outlet s).ledger.stores st).heats = heats := by
    rw [depositParcel, hledger, Ledger.withStore_same]
  rw [← hheats] at hsum
  exact hsum

/-- A capped deposit writes off what free capacity leaves over, and enters FULL; so does one that fills the store. -/
def depositSettled (st : Store) (q taken : Nat) (s : State) : State :=
  let s4 := if taken < q then addWrittenOff st .deposit (q - taken) s else s
  if taken < q ∨ (s4.store st).free = 0 then enterFull st (q - taken) s4 else s4

theorem depositHeat_eq (st : Store) (t : Train) (q : Nat) (outlet : Option Nat) (s : State) :
    depositHeat st t q outlet s =
      if outlet.any (fun o => o ≤ (s.store st).tBase) then addWrittenOff st .deposit q (addDeposited st q s)
      else depositSettled st q (min q (s.store st).free)
        (depositParcel st t (min q (s.store st).free) outlet (addDeposited st q s)) := by
  have hone := addDeposited_store st q s
  have hopen : ((addDeposited st q s).store st).hasOpen = (s.store st).hasOpen := by rw [hone]; rfl
  have hfree : ((addDeposited st q s).store st).free = (s.store st).free := by rw [hone]; rfl
  rw [depositParcel, hopen, hfree]
  rfl

theorem depositSettled_record (st : Store) (q taken : Nat) (s : State) : (depositSettled st q taken s).store st =
    { s.store st with
      writtenOff := if q - taken = 0 then (s.store st).writtenOff
        else (saturateCounter ((s.store st).writtenOff + (q - taken : Nat))).val
      full := (s.store st).full || decide (taken < q ∨ (s.store st).free = 0) } := by
  have hfull (x : Nat) (u : State) (p : Prop) [Decidable p] : (if p then enterFull st x u else u).store st =
      { u.store st with full := (u.store st).full || decide p } := by
    split
    case isTrue h => rw [enterFull_store, decide_eq_true h, Bool.or_true]
    case isFalse h => rw [decide_eq_false h, Bool.or_false]
  rw [depositSettled, hfull]
  by_cases hcapped : taken < q
  · have hrest : q - taken ≠ 0 := by omega
    simp only [hcapped, if_true, true_or, addWrittenOff_store, if_neg hrest]
  · have hrest : q - taken = 0 := by omega
    simp only [hcapped, if_false, if_pos hrest]

theorem StoreRec.free_eq (r : StoreRec) : r.free = if r.configured then r.capacity - r.content else 0 := rfl

/-- The free capacity that a deposit leaves. -/
theorem free_sub (r : StoreRec) (x : Nat) :
    (if r.configured then r.capacity - (r.content + x) else 0) = r.free - x := by
  rw [StoreRec.free_eq]
  split <;> omega

theorem depositHeat_record (st : Store) (t : Train) {heat : Nat} (hheat : heat ≠ 0) (outlet : Option Nat) (s : State) :
    ∃ reach, (depositHeat st t heat outlet s).store st =
      { (s.store st).charged s.arith.mode t s.sbk.current heat outlet with reachable := reach } := by
  have hone := addDeposited_store st heat s
  obtain ⟨-, -, -, -, hsbk, -⟩ := (addDeposited_work st s heat).frame
  have hmode : (addDeposited st heat s).arith.mode = s.arith.mode := by rw [(addDeposited_work st s heat).arith]
  rw [depositHeat_eq]
  split
  case isTrue hcold =>
    refine ⟨(s.store st).reachable, ?_⟩
    rw [addWrittenOff_store, hone]
    simp only [StoreRec.charged, hcold, if_true, if_neg hheat, Bool.not_true, Bool.false_and, Bool.or_false]
  case isFalse hwarm =>
    rw [Bool.not_eq_true] at hwarm
    have hfree : ((addDeposited st heat s).store st).free = (s.store st).free := by rw [hone]; rfl
    obtain ⟨reach, hrecord⟩ := depositParcel_record st t hheat outlet (addDeposited st heat s)
    have hcontent := depositParcel_content st t outlet (addDeposited st heat s)
      (Nat.min_le_right heat ((addDeposited st heat s).store st).free)
    rw [hfree] at hrecord hcontent
    refine ⟨reach, ?_⟩
    have hafter : ((depositParcel st t (min heat (s.store st).free) outlet (addDeposited st heat s)).store st).free =
        (s.store st).free - min heat (s.store st).free := by
      rw [StoreRec.free_eq, hcontent, hrecord, hone]
      exact free_sub (s.store st) _
    have hleft : min heat (s.store st).free < heat ∨ ((depositParcel st t (min heat (s.store st).free) outlet
        (addDeposited st heat s)).store st).free = 0 ↔ (s.store st).free ≤ heat := by
      rw [hafter]
      omega
    rw [depositSettled_record, decide_eq_decide.2 hleft, hrecord, hmode, hsbk, hone]
    simp only [StoreRec.charged, hwarm, Bool.false_eq_true, if_false, Bool.not_false, Bool.true_and]
    rfl

/-! ## The draw of a report (R57, R58, R60) -/

section Draw
variable (st : Store) (s : State)

theorem addDrawn_work (x : Nat) : StoreWork st s (addDrawn st x s) :=
  (StoreWork.modStore st s _).trans (.raise st _ _ _ _)

theorem shortDraw_work (deficit needed : Nat) : StoreWork st s (shortDraw st deficit needed s) := by
  have hadded := StoreWork.modStore st s fun r => { r with shortfall := min Config.countTop (r.shortfall + deficit) }
  simp only [shortDraw]
  split
  exacts [hadded, (hadded.trans (.modStore st _ _)).trans (.emit st _ _ _ _ _ _)]

/-- The heat of the air of a draw, by A6 at q_x (R57). -/
def heatOfDraw (air : Nat) (s : State) : Figure :=
  heatForMass (roundingOf s.arith.mode .requirement) air s.svc.figures.qx

/-- The heat of the air of a draw from a store, taken from its stack (R57). -/
def drawOf (st : Store) (air : Nat) (s : State) : DrawResult :=
  drawStack (s.store st).tUse (heatOfDraw air s).val (s.store st).stack

/-- A draw that is not abandoned, but for a short one's deficit. -/
def drawTaken (st : Store) (d : DrawResult) (s : State) : State :=
  settleStore st (addDrawn st d.taken (s.modStore st fun r => { r with stack := d.stack }))

/-- An abandoned draw (R60). -/
def drawLeft (st : Store) (s : State) : State :=
  raise (some .undefined) .draw (.store st) (s.modStore st fun r => { r with quality := .estimated })

/-- A draw with its outcome. -/
def drawBooked (st : Store) (need : Nat) (d : DrawResult) (s : State) : State :=
  if d.unknown && s.arith.trap then drawLeft st s
  else if d.owed = 0 then drawTaken st d s else shortDraw st d.owed need (drawTaken st d s)

theorem drawHeat_eq (air : Nat) : drawHeat st air s = drawBooked st (heatOfDraw air s).val (drawOf st air s)
    (raise (heatOfDraw air s).exc .draw (.store st) s) := by
  have hraise : (raise (heatOfDraw air s).exc .draw (.store st) s).store st = s.store st := by simp [State.store]
  rw [drawOf, ← hraise]
  rfl

theorem drawTaken_work (d : DrawResult) : StoreWork st s (drawTaken st d s) :=
  ((StoreWork.modStore st s _).trans (addDrawn_work st _ _)).trans (settleStore_work st _)

theorem drawHeat_work (air : Nat) : StoreWork st s (drawHeat st air s) := by
  have hraise := StoreWork.raise st s (heatOfDraw air s).exc .draw (.store st)
  rw [drawHeat_eq]
  refine hraise.trans ?_
  rw [drawBooked]
  repeat' split
  · exact (StoreWork.modStore st _ _).trans (.raise st _ _ _ _)
  · exact drawTaken_work st _ _
  · exact (drawTaken_work st _ _).trans (shortDraw_work st _ _ _)

theorem addDrawn_store (x : Nat) : (addDrawn st x s).store st =
    { s.store st with drawn := (saturateCounter ((s.store st).drawn + x)).val } := by
  have hraise (e : Option ExcCode) (u : State) : (raise e .draw (.store st) u).store st = u.store st := by
    simp [State.store]
  rw [addDrawn, hraise, State.modStore_store, if_pos rfl]

theorem shortDraw_store (deficit needed : Nat) : (shortDraw st deficit needed s).store st =
    { s.store st with short := true, shortfall := min 4294967295 ((s.store st).shortfall + deficit) } := by
  have hadded : (s.modStore st fun r => { r with shortfall := min Config.countTop (r.shortfall + deficit) }).store st =
      { s.store st with shortfall := min 4294967295 ((s.store st).shortfall + deficit) } :=
    (State.modStore_store ..).trans (if_pos rfl)
  simp only [shortDraw, hadded]
  split
  case isTrue hshort => rw [hadded, ← hshort]
  case isFalse => simp [State.store, State.modStore, Config.countTop]

/-- A draw that reaches an UNKNOWN parcel under the trap makes the store ESTIMATED and nothing else. -/
theorem drawLeft_store : (drawLeft st s).store st = { s.store st with quality := .estimated } := by
  have hraise (u : State) : (raise (some .undefined) .draw (.store st) u).store st = u.store st := by
    simp [State.store]
  rw [drawLeft, hraise, State.modStore_store, if_pos rfl]

theorem drawTaken_record (d : DrawResult) : ∃ reach full, (drawTaken st d s).store st = { s.store st with
    stack := d.stack, drawn := (saturateCounter ((s.store st).drawn + d.taken)).val
    reachable := reach, full := full } := by
  obtain ⟨reach, hrecord, -⟩ :=
    evalReachable_record st (addDrawn st d.taken (s.modStore st fun r => { r with stack := d.stack }))
  rw [addDrawn_store, State.modStore_store, if_pos rfl] at hrecord
  exact ⟨reach, _, by rw [drawTaken, settleStore, releaseFull_record, hrecord]⟩

/-- What the air of a report leaves of a record, where the draw is not abandoned, but for reachable heat and FULL. -/
def StoreRec.drawnBy (d : DrawResult) (r : StoreRec) : StoreRec :=
  { r with
    stack := d.stack, drawn := (saturateCounter (r.drawn + d.taken)).val, short := r.short || d.owed != 0
    shortfall := if d.owed = 0 then r.shortfall else min 4294967295 (r.shortfall + d.owed) }

theorem drawHeat_record (air : Nat) :
    if (drawOf st air s).unknown = true ∧ s.arith.trap = true then
      (drawHeat st air s).store st = { s.store st with quality := .estimated }
    else ∃ reach full, (drawHeat st air s).store st =
      { (s.store st).drawnBy (drawOf st air s) with reachable := reach, full := full } := by
  have hraise : (raise (heatOfDraw air s).exc .draw (.store st) s).store st = s.store st := by simp [State.store]
  have htrap := (StoreWork.raise st s (heatOfDraw air s).exc .draw (.store st)).trap
  rw [drawHeat_eq, drawBooked, htrap]
  split
  case isTrue h =>
    rw [if_pos (Bool.and_eq_true_iff.2 h), drawLeft_store, hraise]
  case isFalse h =>
    rw [if_neg (mt Bool.and_eq_true_iff.1 h)]
    obtain ⟨reach, full, hrecord⟩ := drawTaken_record st (raise (heatOfDraw air s).exc .draw (.store st) s)
      (drawOf st air s)
    rw [hraise] at hrecord
    refine ⟨reach, full, ?_⟩
    split
    case isTrue howed =>
      rw [hrecord]
      simp [StoreRec.drawnBy, howed]
    case isFalse howed =>
      rw [shortDraw_store, hrecord]
      simp [StoreRec.drawnBy, howed]

end Draw

end Sys2Proof.Machine
end

section
/-! PROOFS. The energy of a run report in the book, and the report's way through cavern, store and book (R32, R85, R86,
R148; for O28 and O29). -/

namespace Sys2Proof.Machine

/-! ## The energy in the book (R85, R86) -/

/-- The book takes an energy: slots and the unscheduled delivery may differ, and exceptions may be captured. -/
structure EnergyBooked (s t : State) : Prop where
  joins : EventsOnlyJoin s t
  arith : ArithKept s t
  frame : t = { s with evr := t.evr, sbk := t.sbk, arith := t.arith }
  book : t.sbk = { s.sbk with slots := t.sbk.slots, unscheduled := t.sbk.unscheduled }

namespace EnergyBooked

theorem trans {a b c : State} (h : EnergyBooked a b) (k : EnergyBooked b c) : EnergyBooked a c where
  joins := h.joins.trans k.joins
  arith := h.arith.trans k.arith
  frame := k.frame.trans (by rw [h.frame])
  book := k.book.trans (by rw [h.book])

theorem of_captures {s t : State} (w : State) (hframe : w = { s with sbk := w.sbk })
    (hbook : w.sbk = { s.sbk with slots := w.sbk.slots, unscheduled := w.sbk.unscheduled }) (h : CapturesOnly w t) :
    EnergyBooked s t where
  joins := (EventsOnlyJoin.of_eq (by rw [hframe])).trans h.joins
  arith := ArithKept.trans (b := w) (by rw [ArithKept, hframe]) h.arith
  frame := by
    have hsbk : t.sbk = w.sbk := by rw [h.frame]
    rw [hsbk]
    exact h.frame.trans (by rw [hframe])
  book := by
    have hsbk : t.sbk = w.sbk := by rw [h.frame]
    rw [hsbk]
    exact hbook

theorem addDelivered (x : Int) (s : State) : EnergyBooked s (addDelivered x s) := by
  simp only [Machine.addDelivered]
  split
  · exact of_captures (s.modSlot s.sbk.current _) rfl rfl (.raise ..)
  · exact of_captures { s with sbk := { s.sbk with unscheduled := (saturateEnergy (s.sbk.unscheduled + x)).val } }
      rfl rfl (.raise ..)

theorem closeIntegration (second : Nat) (s : State) : EnergyBooked s (closeIntegration second s) := by
  simp only [Machine.closeIntegration]
  split
  · exact of_captures (s.modSlot s.sbk.current _) rfl rfl (.raise ..)
  · exact of_captures s rfl rfl (.refl s)

theorem reportSchedule (t : Train) (energy : Nat) (s : State) : EnergyBooked s (reportSchedule t energy s) :=
  (addDelivered _ s).trans (closeIntegration _ _)

variable {s t : State} (h : EnergyBooked s t)
include h

theorem current : t.sbk.current = s.sbk.current := by rw [h.book]
theorem ring : t.sbk.ring = s.sbk.ring := by rw [h.book]

end EnergyBooked

section Energy
variable (x : Int) {s : State}

theorem raise_slot (exc : Option ExcCode) (source : ExcSource) (subject : Subject) (u : State) (n : Nat) :
    (raise exc source subject u).slot n = u.slot n := slot_congr (by simp) n

theorem addDelivered_active {v : Activity} (hlength : s.sbk.slots.length = 96)
    (hstate : (s.slot s.sbk.current).state = .active) (hv : (s.slot s.sbk.current).activity = some v) :
    (addDelivered x s).slot s.sbk.current = { s.slot s.sbk.current with
      activity := some { v with delivered := (saturateEnergy (v.delivered + x)).val } } ∧
      (addDelivered x s).sbk.slots.length = 96 ∧ (addDelivered x s).sbk.unscheduled = s.sbk.unscheduled := by
  simp only [addDelivered, hstate, hv, raise_slot]
  rw [State.modSlot_slot s _ _ _ hlength, if_pos rfl]
  refine ⟨by rw [← hstate], ?_, ?_⟩
  · rw [(raise_frame ..).2.2.2.2.2.2.1, State.modSlot_length, hlength]
  · rw [(raise_frame ..).2.2.2.2.2.2.1]
    rfl

theorem addDelivered_inactive (h : (s.slot s.sbk.current).state ≠ .active) :
    (addDelivered x s).slot s.sbk.current = s.slot s.sbk.current ∧
      (addDelivered x s).sbk.unscheduled = (saturateEnergy (s.sbk.unscheduled + x)).val := by
  simp only [addDelivered]
  split
  case h_1 hstate _ => exact absurd hstate h
  case h_2 => exact ⟨raise_slot .., by simp⟩

theorem closeIntegration_unscheduled (second : Nat) : (closeIntegration second s).sbk.unscheduled =
    s.sbk.unscheduled := by
  simp only [closeIntegration]
  split
  · simp
  · rfl

/-- The book takes the signed energy of a report. -/
theorem reportSchedule_taken (t : Train) (energy : Nat) (s : State) :
    EnergyTaken (if t.expands then (energy : Int) else -(energy : Int)) s (reportSchedule t energy s) := by
  rw [reportSchedule]
  generalize (if t.expands then (energy : Int) else -(energy : Int)) = x
  have hcurrent := (EnergyBooked.addDelivered x s).current
  refine ⟨fun v hlength hstate hv => ?_, fun hidle => ?_⟩
  · obtain ⟨hslot, klength, hunscheduled⟩ := addDelivered_active x hlength hstate hv
    have hclosed := closeIntegration_active (second := s.pck.seconds) (s := addDelivered x s) klength
      (by rw [hcurrent, hslot]; exact hstate) (by rw [hcurrent, hslot])
    rw [hcurrent] at hclosed
    rw [hclosed, closeIntegration_unscheduled, hunscheduled]
    exact ⟨rfl, rfl⟩
  · obtain ⟨hslot, hunscheduled⟩ := addDelivered_inactive x hidle
    rw [closeIntegration_unscheduled, hunscheduled]

end Energy

/-! ## The cavern's own work at the air of a report (R32, R37, R38) -/

section Air
variable (c : Cavern) (fill : Bool) (air : Nat) (s : State)

/-- The estimate follows a changed mass. -/
def estimateMoved (w : State) : State :=
  if (w.cavern c).mass = (s.cavern c).mass then w else recomputeEstimate c w

/-- The own work of a report's air in its cavern. -/
def airWorked : State := evalRateHold c (evalMassConds c (estimateMoved c s (applyAir c fill air s)))

theorem reportCavern_eq : reportCavern c fill air s =
    if air = 0 then s else handOn s false false (airWorked c fill air s) := rfl

theorem applyAir_work : UnitWork s (applyAir c fill air s) := by
  have hmod (f : CavernRec → CavernRec) : UnitWork s (s.modCavern c f) := ⟨.of_eq rfl, rfl, by simp⟩
  have hraise (exc : Option ExcCode) (u : State) : UnitWork u (raise exc .report (.cavern c) u) :=
    ⟨(CapturesOnly.raise ..).joins, (CapturesOnly.raise ..).arith, by simp⟩
  exact ((hmod _).trans (hraise _ _)).trans (hraise _ _)

theorem airWorked_recomputes : Recomputes c (applyAir c fill air s) (airWorked c fill air s) := by
  have hestimate : Recomputes c (applyAir c fill air s) (estimateMoved c s (applyAir c fill air s)) := by
    rw [estimateMoved]
    split
    exacts [.refl c _, .recomputeEstimate c _]
  exact (hestimate.trans (.evalMassConds c _)).trans (.evalRateHold c _)

theorem airWorked_work : UnitWork s (airWorked c fill air s) := by
  have hrecomputes := airWorked_recomputes c fill air s
  refine (applyAir_work c fill air s).trans ⟨hrecomputes.joins, hrecomputes.arith, ?_⟩
  have hestimate (w : State) (p : Prop) [Decidable p] : (if p then w else recomputeEstimate c w).pins = w.pins ∧
      (if p then w else recomputeEstimate c w).spi = w.spi ∧ (if p then w else recomputeEstimate c w).ilr = w.ilr ∧
      (if p then w else recomputeEstimate c w).pck = w.pck ∧ (if p then w else recomputeEstimate c w).sbk = w.sbk ∧
      (if p then w else recomputeEstimate c w).dsu = w.dsu ∧ (if p then w else recomputeEstimate c w).pen = w.pen ∧
      (if p then w else recomputeEstimate c w).svc = w.svc ∧
      (if p then w else recomputeEstimate c w).pending = w.pending := by
    split <;> simp
  simp [airWorked, estimateMoved, hestimate]

theorem airWorked_hsu : (airWorked c fill air s).hsu = s.hsu := by
  have hestimate (w : State) (p : Prop) [Decidable p] : (if p then w else recomputeEstimate c w).hsu = w.hsu := by
    split <;> simp
  simp [airWorked, estimateMoved, hestimate]

theorem airWorked_others {d : Cavern} (hd : d ≠ c) : (airWorked c fill air s).cavern d = s.cavern d := by
  rw [(airWorked_recomputes c fill air s).others d hd]
  simp [applyAir, hd]

/-- No recomputation after an air writes limits or budget. -/
theorem recomputeEstimate_bounds : ((recomputeEstimate c s).cavern c).limits = (s.cavern c).limits ∧
    ((recomputeEstimate c s).cavern c).budget = (s.cavern c).budget := by
  simp only [recomputeEstimate]
  repeat' split
  all_goals simp

theorem evalMassConds_bounds : ((evalMassConds c s).cavern c).limits = (s.cavern c).limits ∧
    ((evalMassConds c s).cavern c).budget = (s.cavern c).budget := by
  simp only [evalMassConds]
  split
  · simp only [changeCond_cavern, if_true, CavernRec.setCond, and_self]
  · exact ⟨rfl, rfl⟩

theorem airWorked_bounds : ((airWorked c fill air s).cavern c).limits = (s.cavern c).limits ∧
    ((airWorked c fill air s).cavern c).budget = (s.cavern c).budget := by
  obtain ⟨hold, hrate⟩ := evalRateHold_rest c c (evalMassConds c (estimateMoved c s (applyAir c fill air s)))
  obtain ⟨hlimits, hbudget⟩ := evalMassConds_bounds c (estimateMoved c s (applyAir c fill air s))
  have hestimate : ((estimateMoved c s (applyAir c fill air s)).cavern c).limits = (s.cavern c).limits ∧
      ((estimateMoved c s (applyAir c fill air s)).cavern c).budget = (s.cavern c).budget := by
    rw [estimateMoved]
    split
    · simp [applyAir]
    · obtain ⟨klimits, kbudget⟩ := recomputeEstimate_bounds c (applyAir c fill air s)
      rw [klimits, kbudget]
      simp [applyAir]
  rw [airWorked, hrate]
  exact ⟨hlimits.trans hestimate.1, hbudget.trans hestimate.2⟩

/-- What a report's air leaves of its cavern: the mass moves and saturates, and the budget spent takes the air. -/
structure AirTaken (fill : Bool) (air : Nat) (r x : CavernRec) : Prop where
  mass : x.mass = if air = 0 then r.mass else min 100000000 (if fill then r.mass + air else r.mass - air)
  spent : x.spent = if air = 0 then r.spent else min 2147483647 (r.spent + air)
  kept : x.loaded = r.loaded ∧ x.reconciled = r.reconciled ∧ x.limits = r.limits ∧ x.budget = r.budget

theorem airWorked_taken {air : Nat} (hair : air ≠ 0) :
    AirTaken fill air (s.cavern c) ((airWorked c fill air s).cavern c) := by
  obtain ⟨hmass, hloaded, hreconciled, -, -⟩ := applyAir_account c fill air s
  obtain ⟨hlimits, hbudget⟩ := airWorked_bounds c fill air s
  have hfigures := (airWorked_recomputes c fill air s).figures
  have hspent : ((applyAir c fill air s).cavern c).spent = min 2147483647 ((s.cavern c).spent + air) := by
    simp [applyAir, Config.reportTop]
  refine ⟨?_, ?_, ?_, ?_, hlimits, hbudget⟩
  · rw [hfigures, if_neg hair]
    refine hmass.trans ?_
    have hval := saturateMass_val Config.massTop
      (if fill then ((s.cavern c).mass : Int) + air else ((s.cavern c).mass : Int) - air)
    simp only [Config.massTop] at hval ⊢
    cases fill <;> simp only [Bool.false_eq_true, if_true, if_false] at hval ⊢ <;> omega
  all_goals rw [hfigures]
  · rw [if_neg hair]; exact hspent
  · exact hloaded
  · exact hreconciled

end Air

/-! ## The hand-offs of a report's events (R40, R45, R70, R148) -/

/-- An event of the two units with its hand-offs, as a report of an attached train sees it: the book but for SHORT
marks, the train's attachment and timing, and the law of the permit queue stand. -/
structure UnitEvent (tr : Train) (s t : State) : Prop extends PlantEvent s t where
  book : BookKept s t
  length : t.sbk.slots.length = s.sbk.slots.length
  stands : TrainStands tr s t
  queue : QueueMatchesPermits t

section Event
variable {tr : Train} {s w t : State}

theorem PlantEvent.trans {a b c : State} (h : PlantEvent a b) (k : PlantEvent b c) : PlantEvent a c where
  joins := h.joins.trans k.joins
  trains v := (h.trains v).trans (k.trains v)
  engine := h.engine.trans k.engine
  arith := h.arith.trans k.arith
  frame := by
    obtain ⟨hpins, hspi, hilr, hpck, hsvc, hpending⟩ := h.frame
    simpa only [hpins, hspi, hilr, hpck, hsvc, hpending] using k.frame

theorem PlantEvent.refl (s : State) : PlantEvent s s :=
  ⟨.of_eq rfl, fun _ => rfl, (WalkKept.of_eq rfl).engineKept, rfl, by simp⟩

theorem UnitEvent.refl (h : QueueMatchesPermits s) : UnitEvent tr s s :=
  ⟨.refl s, .of_eq rfl, rfl, .refl s, h⟩

theorem UnitEvent.trans (h : UnitEvent tr s w) (k : UnitEvent tr w t) : UnitEvent tr s t :=
  ⟨h.toPlantEvent.trans k.toPlantEvent, h.book.trans k.book, k.length.trans h.length, h.stands.trans k.stands, k.queue⟩

theorem UnitWork.unitEvent (h : UnitWork s w) (hmatches : QueueMatchesPermits s)
    (hattached : (s.train tr).permit.attached = true) : UnitEvent tr s (handOn s false false w) := by
  obtain ⟨-, -, -, -, hsbk, hdsu, -⟩ := h.frame
  have htrain (v : Train) : w.train v = s.train v := by rw [State.train, hdsu]; rfl
  have kmatches : QueueMatchesPermits w :=
    queueMatches_congr (by rw [hdsu]) (fun v => by rw [htrain]) hmatches
  have hintervals : (handOn s false false w).sbk.slots.map Slot.interval = s.sbk.slots.map Slot.interval := by
    rw [← hsbk]
    exact congrArg Ledger.intervals (handOn_ledger s false false w)
  exact {
    toPlantEvent := h.handedOn s false false
    book := h.book (handOn_kept s false false w)
    length := by simpa using congrArg List.length hintervals
    stands := (TrainStands.of_train (htrain tr)).trans
      (.handOn kmatches (by rw [htrain]; exact hattached) s false false)
    queue := (handOn_orderly s false false w).queue kmatches }

theorem AirTaken.handed {c : Cavern} {fill : Bool} {air : Nat} {r : CavernRec} (h : AirTaken fill air r (w.cavern c))
    (k : CavernKept c w t) : AirTaken fill air r (t.cavern c) := by
  obtain ⟨hmass, hspent, hkept⟩ := h
  rw [k]
  exact ⟨hmass, hspent, hkept⟩

/-- Step 3 of a report: the cavern takes the air. -/
theorem reportCavern_event (c : Cavern) (fill : Bool) (air : Nat) (hmatches : QueueMatchesPermits s)
    (hattached : (s.train tr).permit.attached = true) :
    let t := reportCavern c fill air s
    UnitEvent tr s t ∧ AirTaken fill air (s.cavern c) (t.cavern c) ∧ (∀ d, d ≠ c → CavernKept d s t) ∧
      ∀ st, StoreKept st s t := by
  intro t
  have ht : t = if air = 0 then s else handOn s false false (airWorked c fill air s) := reportCavern_eq ..
  by_cases hair : air = 0
  · rw [if_pos hair] at ht
    rw [ht]
    exact ⟨.refl hmatches, ⟨(if_pos hair).symm, (if_pos hair).symm, rfl, rfl, rfl, rfl⟩, fun _ _ => rfl, fun _ => rfl⟩
  · rw [if_neg hair] at ht
    rw [ht]
    have hkept := handOn_kept s false false (airWorked c fill air s)
    exact ⟨(airWorked_work c fill air s).unitEvent hmatches hattached, (airWorked_taken c fill s hair).handed
      (hkept.caverns c), fun d hd => hkept.cavernAside (airWorked_others c fill air s hd),
      fun st => hkept.storeAside (by rw [State.store, airWorked_hsu]; rfl)⟩

end Event

/-! ## What the store takes of a report -/

section Stored
variable {st : Store} {s w t : State}

/-- A store as it was but for its attached trains. -/
theorem StoreKept.attached (h : StoreKept st s t) :
    ∃ charging drawing, t.store st = { s.store st with charging := charging, drawing := drawing } := ⟨_, _, h⟩

theorem StoreRec.charged_attached (mode : Mode) (t : Train) (current heat : Nat) (outlet : Option Nat) (r : StoreRec)
    (charging : Option Train) (drawing : List Train) :
    ({ r with charging := charging, drawing := drawing } : StoreRec).charged mode t current heat outlet =
      { r.charged mode t current heat outlet with charging := charging, drawing := drawing } := rfl

/-- The deposit as the statement words it. -/
theorem storeCharged_of_record {tr : Train} {heat : Nat} {outlet : Option Nat} {reach : Nat} {charging : Option Train}
    {drawing : List Train} (h : t.store st = { (s.store st).charged s.arith.mode tr s.sbk.current heat outlet with
      reachable := reach, charging := charging, drawing := drawing }) : StoreCharged st tr heat outlet s t := by
  simp only [StoreCharged, h, StoreRec.charged, StoreRec.chargedStack, StoreRec.opened, StoreRec.roomy]
  congr 1
  cases outlet.any fun o => decide (o ≤ (s.store st).tBase) <;> rfl

/-- A deposit in a store that differs in attached trains only from what it was. -/
theorem storeCharged_of {tr : Train} {heat : Nat} {outlet : Option Nat} (hbefore : StoreKept st s w)
    (harith : ArithKept s w) (hcurrent : w.sbk.current = s.sbk.current) (hheat : heat ≠ 0)
    (hafter : StoreKept st (depositHeat st tr heat outlet w) t) : StoreCharged st tr heat outlet s t := by
  obtain ⟨_, _, hstart⟩ := hbefore.attached
  obtain ⟨reach, hrecord⟩ := depositHeat_record st tr hheat outlet w
  obtain ⟨charging, drawing, hend⟩ := hafter.attached
  have hmode : w.arith.mode = s.arith.mode := by rw [harith]
  rw [hrecord, hmode, hcurrent, hstart, StoreRec.charged_attached] at hend
  exact storeCharged_of_record hend

theorem drawOf_kept (hbefore : StoreKept st s w) (harith : ArithKept s w) (hsvc : w.svc = s.svc) (air : Nat) :
    drawOf st air w = drawOf st air s := by
  obtain ⟨_, _, hstart⟩ := hbefore.attached
  have hmode : w.arith.mode = s.arith.mode := by rw [harith]
  rw [drawOf, hstart, heatOfDraw, hmode, hsvc]
  rfl

/-- The draw as the statement words it. -/
theorem storeDrawn_iff {air : Nat} : StoreDrawn st air s t ↔
    if (drawOf st air s).unknown = true ∧ s.arith.trap = true then
      t.store st = { s.store st with
        quality := .estimated, charging := (t.store st).charging, drawing := (t.store st).drawing }
    else t.store st = { (s.store st).drawnBy (drawOf st air s) with
      reachable := (t.store st).reachable, full := (t.store st).full, charging := (t.store st).charging
      drawing := (t.store st).drawing } := Iff.rfl

/-- A draw from a store that differs in attached trains only from what it was. -/
theorem storeDrawn_of {air : Nat} (hbefore : StoreKept st s w) (harith : ArithKept s w) (hsvc : w.svc = s.svc)
    (hafter : StoreKept st (drawHeat st air w) t) : StoreDrawn st air s t := by
  obtain ⟨_, _, hstart⟩ := hbefore.attached
  obtain ⟨charging, drawing, hend⟩ := hafter.attached
  have hrecord := drawHeat_record st w air
  have htrap : w.arith.trap = s.arith.trap := by rw [harith]
  rw [drawOf_kept hbefore harith hsvc, htrap] at hrecord
  rw [storeDrawn_iff]
  split at hrecord
  case isTrue habandoned =>
    rw [if_pos habandoned, hend, hrecord, hstart]
  case isFalse htaken =>
    obtain ⟨reach, full, hrecord⟩ := hrecord
    rw [if_neg htaken, hend, hrecord, hstart]
    rfl

end Stored

/-- What the store of an attached train takes of a report: a draw of its air, or a deposit of its heat. -/
def StoreReported (st : Store) (tr : Train) (y : Report) (s t : State) : Prop :=
  if tr.expands then (if y.air = 0 then StoreKept st s t else StoreDrawn st y.air s t)
  else (if y.heat = 0 then StoreKept st s t else StoreCharged st tr y.heat y.outlet s t)

section
variable {tr : Train} {s w : State} (st : Store) (y : Report)

/-- The own work of a report in its store. -/
def storeWorked (tr : Train) (s : State) : State :=
  if tr.expands then drawHeat st y.air s else depositHeat st tr y.heat y.outlet s

theorem storeWorked_work : StoreWork st s (storeWorked st y tr s) := by
  rw [storeWorked]
  split
  exacts [drawHeat_work .., depositHeat_work ..]

/-- Step 4 of a report: the store takes the heat or the draw. -/
theorem reportStore_event (hmatches : QueueMatchesPermits s) (hattached : (s.train tr).permit.attached = true) :
    let t := reportStore st tr y s
    UnitEvent tr s t ∧ (∀ c, CavernKept c s t) ∧ ∀ d, d ≠ st → StoreKept d s t := by
  intro t
  have ht : t = s ∨ t = handOn s false false (storeWorked st y tr s) := by
    simp only [t, reportStore, storeWorked, plantEvent]
    repeat' split
    exacts [.inl rfl, .inr rfl, .inl rfl, .inr rfl]
  rcases ht with ht | ht
  · rw [ht]
    exact ⟨.refl hmatches, fun _ => rfl, fun _ _ => rfl⟩
  · have hwork : StoreWork st s (storeWorked st y tr s) := storeWorked_work st y
    have hkept := handOn_kept s false false (storeWorked st y tr s)
    rw [ht]
    exact ⟨hwork.toUnitWork.unitEvent hmatches hattached,
      fun c => hkept.cavernAside (by rw [State.cavern, hwork.ciu]; rfl),
      fun d hd => hkept.storeAside (hwork.others d hd)⟩

theorem reportStore_reported (hbefore : StoreKept st s w) (harith : ArithKept s w) (hsvc : w.svc = s.svc)
    (hcurrent : w.sbk.current = s.sbk.current) : StoreReported st tr y s (reportStore st tr y w) := by
  rw [StoreReported, reportStore]
  repeat' split
  · exact hbefore
  · exact storeDrawn_of hbefore harith hsvc ((handOn_kept w false false (drawHeat st y.air w)).stores st)
  · exact hbefore
  case isFalse hheat =>
    exact storeCharged_of hbefore harith hcurrent hheat
      ((handOn_kept w false false (depositHeat st tr y.heat y.outlet w)).stores st)

end

end Sys2Proof.Machine
end

section
/-! PROOFS. An accepted report applied to cavern, store, book and dispatch unit in turn (R148; for O28 and O29). -/

namespace Sys2Proof.Machine

/-! ## The energy seen from before the report, and after the hand-offs -/

section Energy
variable {x : Int} {s w u t : State}

theorem EnergyTaken.seenFrom (hbook : BookKept s w) (hlength : w.sbk.slots.length = s.sbk.slots.length)
    (hpck : w.pck = s.pck) (h : EnergyTaken x w u) : EnergyTaken x s u := by
  obtain ⟨hsbk, hslots⟩ := hbook
  have hcurrent : w.sbk.current = s.sbk.current := by rw [hsbk]
  have hunscheduled : w.sbk.unscheduled = s.sbk.unscheduled := by rw [hsbk]
  have hslot := hslots s.sbk.current
  obtain ⟨hactive, hidle⟩ := h
  rw [hcurrent, hslot, hpck, hlength, hunscheduled] at hactive
  rw [hcurrent, hslot, hunscheduled] at hidle
  exact ⟨hactive, hidle⟩

theorem EnergyTaken.handed (h : EnergyTaken x s u) (k : BookKept u t) : EnergyTaken x s t := by
  obtain ⟨hsbk, hslots⟩ := k
  obtain ⟨hactive, hidle⟩ := h
  have hunscheduled : t.sbk.unscheduled = u.sbk.unscheduled := by rw [hsbk]
  refine ⟨fun v hlength hstate hv => ?_, fun hstate => hunscheduled.trans (hidle hstate)⟩
  obtain ⟨hactivity, hsame⟩ := hactive v hlength hstate hv
  rw [hunscheduled, hslots]
  exact ⟨hactivity, hsame⟩

end Energy

/-! ## Steps 1 and 2: what is raised and reported, and the report timing (R147, R148) -/

section Timed
variable {tr : Train} {s w : State}

theorem CapturesOnly.emit (kind : EventKind) (cls : EventClass) (subject : Subject) (w1 w2 : Int) (s : State) :
    CapturesOnly s (emit kind cls subject w1 w2 s) := ⟨emit_joins _ _ _ _ _ _, by simp [ArithKept], rfl⟩

theorem CapturesOnly.raiseLimits (t : Train) (l : ReportLimits) (s : State) :
    CapturesOnly s (raiseLimits t l s) := by
  have hfirst := ((CapturesOnly.raise l.power.exc .report (.train t) s).trans
    (.raise l.air.exc .report (.train t) _)).trans (.raise l.energy.exc .report (.train t) _)
  simp only [Machine.raiseLimits]
  split
  exacts [hfirst, hfirst.trans (.raise ..)]

theorem CapturesOnly.emitClamped (t : Train) (set elapsed : Nat) (s : State) :
    CapturesOnly s (emitClamped t set elapsed s) := by
  rw [Machine.emitClamped]
  split
  exacts [.refl s, .emit ..]

/-- A report of a train starts: exceptions may be captured, and the train's timing starts anew. -/
structure ReportStarted (tr : Train) (s v : State) : Prop extends PlantEvent s v where
  train : v.train tr = { s.train tr with
    silence := 0, rungs := 0, timing := .onTime, reference := some s.pck.seconds }
  ciu : v.ciu = s.ciu
  hsu : v.hsu = s.hsu
  sbk : v.sbk = s.sbk
  queue : QueueMatchesPermits s → QueueMatchesPermits v

theorem reportStarted (h : CapturesOnly s w) : ReportStarted tr s (restartTiming tr w) := by
  obtain ⟨hjoins, harith, hframe⟩ := h
  have htrain (v : Train) : (restartTiming tr w).train v = if v = tr then { s.train tr with
      silence := 0, rungs := 0, timing := .onTime, reference := some s.pck.seconds } else s.train v := by
    rw [restartTiming, State.modTrain_train, hframe]
    rfl
  have hself := (htrain tr).trans (if_pos rfl)
  refine ⟨⟨hjoins.trans (.of_eq rfl), fun v => ?_, (WalkKept.of_eq ?_).engineKept, harith.trans rfl, ?_⟩, hself, ?_, ?_,
    ?_, queueMatches_congr ?_ fun v => ?_⟩
  · rw [TrainKept, htrain]
    split
    case isTrue hv => rw [hv]
    case isFalse => rfl
  · rw [hframe]; rfl
  · rw [hframe]; exact ⟨rfl, rfl, rfl, rfl, rfl, rfl⟩
  · rw [hframe]; rfl
  · rw [hframe]; rfl
  · rw [hframe]; rfl
  · rw [hframe]; simp [restartTiming, State.modTrain_dsu]
  · rw [htrain]
    split
    case isTrue hv => rw [hv]
    case isFalse => rfl

end Timed

/-! ## Steps 3 to 5 -/

section Booked
variable {tr : Train} {a : Attachment} {y : Report} {s w : State}

theorem PlantEvent.of_energy (h : EnergyBooked s w) : PlantEvent s w where
  joins := h.joins
  trains v := by rw [h.frame]; rfl
  engine := (WalkKept.of_eq (by rw [h.frame])).engineKept
  arith := h.arith
  frame := by rw [h.frame]; exact ⟨rfl, rfl, rfl, rfl, rfl, rfl⟩

theorem CavernKept.of_eq {c : Cavern} (h : w.ciu = s.ciu) : CavernKept c s w := by
  simp [CavernKept, State.cavern, h]

theorem StoreKept.of_eq {st : Store} (h : w.hsu = s.hsu) : StoreKept st s w := by
  simp [StoreKept, State.store, h]

/-- What steps 1 to 4 of a report of an attached train leave. -/
structure ReportMetered (tr : Train) (a : Attachment) (y : Report) (s w : State) : Prop extends PlantEvent s w where
  book : BookKept s w
  length : w.sbk.slots.length = s.sbk.slots.length
  queue : QueueMatchesPermits w
  attached : (w.train tr).permit.attached = true
  attachment : (w.train tr).attachment = (s.train tr).attachment
  timing : (w.train tr).silence = 0 ∧ (w.train tr).timing = .onTime ∧ (w.train tr).reference = some s.pck.seconds
  cavern : AirTaken (!tr.expands) y.air (s.cavern a.cavern) (w.cavern a.cavern)
  caverns : ∀ d, d ≠ a.cavern → CavernKept d s w
  store : StoreReported a.store tr y s w
  stores : ∀ st, st ≠ a.store → StoreKept st s w

theorem reportMetered (a : Attachment) (y : Report) (h : CapturesOnly s w) (hmatches : QueueMatchesPermits s)
    (hattached : (s.train tr).permit.attached = true) : ReportMetered tr a y s
      (reportStore a.store tr y (reportCavern a.cavern (!tr.expands) y.air (restartTiming tr w))) := by
  obtain ⟨hstart, htrain, hciu, hhsu, hsbk, hqueue⟩ := reportStarted (tr := tr) h
  generalize restartTiming tr w = v at hstart htrain hciu hhsu hsbk hqueue
  have vattached : (v.train tr).permit.attached = true := by rw [htrain]; exact hattached
  obtain ⟨hcavern, htaken, hcaverns, hstores⟩ :=
    reportCavern_event (tr := tr) a.cavern (!tr.expands) y.air (hqueue hmatches) vattached
  obtain ⟨hstore, kcaverns, kstores⟩ := reportStore_event (tr := tr) a.store y hcavern.queue
    (hcavern.stands.attached.trans vattached)
  have hbefore := hstart.trans hcavern.toPlantEvent
  have hevents := hcavern.trans hstore
  obtain ⟨hattachment, hsilence, htiming, hreference⟩ := hevents.stands.kept
  obtain ⟨-, -, -, -, hsvc, -⟩ := hbefore.frame
  rw [htrain] at hattachment hsilence htiming hreference
  have hsame : v.cavern a.cavern = s.cavern a.cavern := by rw [State.cavern, hciu]; rfl
  rw [hsame] at htaken
  exact {
    toPlantEvent := hstart.trans hevents.toPlantEvent
    book := (BookKept.of_eq hsbk).trans hevents.book
    length := hevents.length.trans (by rw [hsbk])
    queue := hevents.queue
    attached := hevents.stands.attached.trans vattached
    attachment := hattachment
    timing := ⟨hsilence, htiming, hreference⟩
    cavern := htaken.handed (kcaverns a.cavern)
    caverns := fun d hd => ((CavernKept.of_eq hciu).trans (hcaverns d hd)).trans (kcaverns d)
    store := reportStore_reported a.store y ((StoreKept.of_eq hhsu).trans (hstores a.store)) hbefore.arith hsvc
      (by rw [hcavern.book.1, hsbk])
    stores := fun st hst => ((StoreKept.of_eq hhsu).trans (hstores st)).trans (kstores st hst) }

theorem StoreReported.congr {st : Store} {u : State} (hhsu : u.hsu = w.hsu) (h : StoreReported st tr y s w) :
    StoreReported st tr y s u := by
  have hstore : u.store st = w.store st := by rw [State.store, hhsu]; rfl
  simpa only [StoreReported, StoreKept, StoreDrawn, StoreCharged, hstore] using h

/-- Step 5 of a report: the book takes the energy. -/
theorem ReportMetered.booked {u : State} (h : ReportMetered tr a y s w) (hbooked : EnergyBooked w u)
    (htaken : EnergyTaken (if tr.expands then (y.energy : Int) else -(y.energy : Int)) w u) :
    ReportBooked tr a y s u := by
  have hevent := h.toPlantEvent.trans (.of_energy hbooked)
  obtain ⟨-, -, -, hpck, hsvc, -⟩ := h.frame
  obtain ⟨hsilence, htiming, hreference⟩ := h.timing
  obtain ⟨hmass, hspent, hloaded, hreconciled, hlimits, hbudget⟩ := h.cavern
  have hciu : u.ciu = w.ciu := by rw [hbooked.frame]
  have hhsu : u.hsu = w.hsu := by rw [hbooked.frame]
  have hdsu : u.dsu = w.dsu := by rw [hbooked.frame]
  have htrain (v : Train) : u.train v = w.train v := by rw [State.train, hdsu]; rfl
  have hcavern : u.cavern a.cavern = w.cavern a.cavern := by rw [State.cavern, hciu]; rfl
  simp only [ReportBooked, htrain, hcavern]
  refine ⟨queueMatches_congr (by rw [hdsu]) (fun v => by rw [htrain]) h.queue, hevent.trains tr, h.attached,
    h.attachment, hsilence, htiming, hreference, ?_, hspent, hloaded, hreconciled, hlimits, hbudget,
    fun d hd => (h.caverns d hd).trans (.of_eq hciu), fun st hst => (h.stores st hst).trans (.of_eq hhsu),
    h.store.congr hhsu, htaken.seenFrom h.book h.length hpck, hevent.frame.2.2.2.2.1⟩
  rw [hmass]
  cases tr.expands <;> rfl

/-! ## The report as a whole (R148) -/

/-- What an applied report leaves, with the Dispatch Unit's step over what the other blocks took. -/
structure ReportApplied (tr : Train) (a : Attachment) (y : Report) (s t : State) : Prop where
  dispatched : ∃ u, ReportBooked tr a y s u ∧ t = reportDispatch tr y u
  train : (s.train tr).Booked y (t.train tr)
  timing : (t.train tr).silence = 0 ∧ (t.train tr).timing = .onTime ∧ (t.train tr).reference = some s.pck.seconds
  mass : (t.cavern a.cavern).mass = if y.air = 0 then (s.cavern a.cavern).mass
    else min 100000000 (if tr.expands then (s.cavern a.cavern).mass - y.air else (s.cavern a.cavern).mass + y.air)
  spent : (t.cavern a.cavern).spent = if y.air = 0 then (s.cavern a.cavern).spent
    else min 2147483647 ((s.cavern a.cavern).spent + y.air)
  caverns : ∀ c, c ≠ a.cavern → CavernKept c s t
  stores : ∀ st, st ≠ a.store → StoreKept st s t
  energy : EnergyTaken (if tr.expands then (y.energy : Int) else -(y.energy : Int)) s t
  book : t.sbk.ring = s.sbk.ring ∧ t.sbk.current = s.sbk.current
  joins : EventsOnlyJoin s t
  trains : ∀ v, v ≠ tr → TrainKept v s t
  engine : EngineKept s t
  arith : ArithKept s t
  frame : t = { s with evr := t.evr, ciu := t.ciu, hsu := t.hsu, sbk := t.sbk, dsu := t.dsu
                       arith := t.arith, pen := t.pen }

theorem TrainKept.totals {v : Train} (h : TrainKept v s w) : (w.train v).totalAir = (s.train v).totalAir ∧
    (w.train v).totalHeat = (s.train v).totalHeat ∧ (w.train v).totalEnergy = (s.train v).totalEnergy := by
  rw [h]
  exact ⟨rfl, rfl, rfl⟩

/-- Step 6 of a report, over what steps 1 to 5 took. -/
theorem ReportMetered.applied {u : State} (h : ReportMetered tr a y s w) (ha : (s.train tr).attachment = some a)
    (hbooked : EnergyBooked w u)
    (htaken : EnergyTaken (if tr.expands then (y.energy : Int) else -(y.energy : Int)) w u) :
    ReportApplied tr a y s (reportDispatch tr y u) := by
  have hreport := h.booked hbooked htaken
  have hevent := h.toPlantEvent.trans (.of_energy hbooked)
  obtain ⟨hqueue, htrain, hattached, hattachment, hsilence, htiming, hreference, hmass, hspent, -, -, -, -, hcaverns,
    hstores, -, henergy, -⟩ := h.booked hbooked htaken
  have hserved := reportDispatch_served (y := y) hqueue hattached (hattachment.trans ha)
  obtain ⟨ksilence, ktiming, kreference⟩ := hserved.timing
  obtain ⟨kmass, kspent⟩ := hserved.booked a.cavern
  obtain ⟨hair, hheat, hpower⟩ := htrain.totals
  have hring : u.sbk.ring = s.sbk.ring ∧ u.sbk.current = s.sbk.current := by
    rw [hbooked.ring, hbooked.current, h.book.1]
    exact ⟨rfl, rfl⟩
  exact {
    dispatched := ⟨u, hreport, rfl⟩
    train := by
      have htotals := reportDispatch_booked (y := y) hqueue hattached
      simpa only [TrainRec.Booked, hair, hheat, hpower] using htotals
    timing := ⟨ksilence.trans hsilence, ktiming.trans htiming, kreference.trans hreference⟩
    mass := kmass.trans hmass
    spent := kspent.trans hspent
    caverns := fun c hc => (hcaverns c hc).trans (hserved.caverns c hc)
    stores := fun st hst => (hstores st hst).trans (hserved.stores st hst)
    energy := henergy.handed hserved.book
    book := by rw [hserved.book.1]; exact hring
    joins := hevent.joins.trans hserved.joins
    trains := fun v hv => (hevent.trains v).trans (hserved.trains v hv)
    engine := hevent.engine.trans hserved.engine
    arith := hevent.arith.trans (by rw [ArithKept, hserved.frame])
    frame := by
      rw [hserved.frame, hevent.state_eq] }

theorem applyClamped_eq (y : Report) (h : ((restartTiming tr w).train tr).attachment = some a) :
    applyClamped tr y w = reportDispatch tr y (reportSchedule tr y.energy
      (reportStore a.store tr y (reportCavern a.cavern (!tr.expands) y.air (restartTiming tr w)))) := by
  simp only [applyClamped, h]

theorem applyClamped_applied (y : Report) (h : CapturesOnly s w) (hmatches : QueueMatchesPermits s)
    (hattached : (s.train tr).permit.attached = true) (ha : (s.train tr).attachment = some a) :
    ReportApplied tr a y s (applyClamped tr y w) := by
  rw [applyClamped_eq y (by rw [(reportStarted h).train]; exact ha)]
  exact (reportMetered a y h hmatches hattached).applied ha (.reportSchedule ..) (reportSchedule_taken ..)

/-- An accepted report, clamped to its limits, is applied to the state that it finds. -/
theorem applyReport_applied (r : Report) (hmatches : QueueMatchesPermits s)
    (hattached : (s.train tr).permit.attached = true) (ha : (s.train tr).attachment = some a) :
    ReportApplied tr a (r.clamped tr (reportLimits (s.train tr) s.svc.figures.qc r.air)) s (applyReport tr r s).1 :=
  applyClamped_applied _ ((CapturesOnly.raiseLimits ..).trans (.emitClamped ..)) hmatches hattached ha

end Booked
end Sys2Proof.Machine
end

section
/-! PROOFS. RUN REPORT of an attached train (O28). -/

namespace Sys2Proof.Machine

/-! ## The examination of a report (R144, R148) -/

/-- The answer to an accepted report. -/
def acceptedAnswer (tr : Train) (r : Report) (l : ReportLimits) (w : State) : Answer :=
  { code := .done, clamped := r.clampBits tr l != 0, body := reportBody (w.train tr) }

section Examined
variable {tr : Train} {x : ReportFields} {s : State}

theorem examineReport_accepted {r : Report} (hx : x.report = some r) (hattached : (s.train tr).permit.attached = true) :
    examineReport tr x s = ((applyReport tr r s).1, some (acceptedAnswer tr r
      (reportLimits (s.train tr) s.svc.figures.qc r.air) (applyReport tr r s).1)) := by
  simp only [examineReport, hx, hattached, if_true]
  rfl

/-- An applied report, seen past the interface of the port that asked for it. -/
theorem ReportApplied.state_eq {a : Attachment} {y : Report} {v z : Spi} {w : State}
    (h : ReportApplied tr a y { s with spi := v } w) : { w with spi := z } = { s with
      spi := z, evr := w.evr, ciu := w.ciu, hsu := w.hsu, sbk := w.sbk, dsu := w.dsu, arith := w.arith
      pen := w.pen } := by
  rw [h.frame]

theorem ReportApplied.dispatched_eq {a : Attachment} {y : Report} {v z : Spi} {w : State}
    (h : ReportApplied tr a y { s with spi := v } w) :
    ∃ u, ReportBooked tr a y s u ∧ { w with spi := z } = { reportDispatch tr y u with spi := z } := by
  obtain ⟨u, hbooked, rfl⟩ := h.dispatched
  exact ⟨u, hbooked, rfl⟩

end Examined

/-! ## RUN REPORT (R144, R154) -/

theorem takeRunReport_accepted {p : Port} {b : Byte} {tr : Train} {r : Report} {x : ReportFields} {s : State}
    (hb : trainOf b = some tr) (ho : tr.owner = p) (hx : x.report = some r)
    (hattached : (s.train tr).permit.attached = true) : takeRunReport p b x s =
      (streamSet p x.mode (applyReport tr r s).1, some (acceptedAnswer tr r
        (reportLimits (s.train tr) s.svc.figures.qc r.air) (applyReport tr r s).1)) := by
  rw [takeRunReport_examined hb ho, examineReport_accepted hx hattached]

/-- A report arrives over a part that differs at its port only, and the answer stands there with the mode byte's
flag. -/
theorem runReport_applied {p : Port} {s : State} {b : Byte} {tr : Train} {a : Attachment} {r : Report}
    {x : ReportFields} (h : Ready p s) (hmatches : QueueMatchesPermits s) (hb : trainOf b = some tr) (ho : tr.owner = p)
    (hattached : (s.train tr).permit.attached = true) (ha : (s.train tr).attachment = some a)
    (hx : x.report = some r) (params : List Byte) :
    let l := reportLimits (s.train tr) s.svc.figures.qc r.air
    ∃ v w z, ReportApplied tr a (r.clamped tr l) { s with spi := v } w ∧
      command p 0x12 params (takeRunReport p b x) s = { w with spi := z } ∧
      Answers p (acceptedAnswer tr r l w) { w with spi := z } ∧ OtherPorts p s { w with spi := z } ∧
      (z.get p).stream = (x.mode == 0x5C) := by
  intro l
  obtain ⟨v, hport, hstream, hcommand⟩ : ∃ v : Spi, PresenceKept p s { s with spi := v } ∧ (v.get p).stream = false ∧
      ∀ {t answer}, takeRunReport p b x { s with spi := v } = (t, some answer) →
        command p 0x12 params (takeRunReport p b x) s = placeNow p answer.full t := by
    have hport := uncollect_presenceKept p (1 + params.length) s
    refine ⟨_, hport.only.1 ▸ hport, uncollect_stream h _, fun ht => command_answered h rfl ?_⟩
    rw [← hport.only.1] at ht
    exact ht
  have happlied := applyReport_applied (s := { s with spi := v }) r hmatches hattached ha
  have hspi : (applyReport tr r { s with spi := v }).1.spi = v := by simp
  obtain ⟨hothers, hflag⟩ := streamSet_placed hport hstream hspi x.mode
    (acceptedAnswer tr r l (applyReport tr r { s with spi := v }).1).full
  have hanswers := placeNow_answers p (acceptedAnswer tr r l (applyReport tr r { s with spi := v }).1)
    (streamSet p x.mode (applyReport tr r { s with spi := v }).1)
  rw [streamSet_eq] at hothers hflag hanswers
  refine ⟨v, _, _, happlied, ?_, hanswers, hothers, hflag⟩
  rw [hcommand (takeRunReport_accepted hb ho hx hattached), streamSet_eq]
  rfl

/-- Settles O28: the report is applied by the two units, the book and the Dispatch Unit in turn, over the port that
collected it. -/
theorem runReportEffect : Obligations.RunReportEffect := by
  refine ⟨fun tr y u hmatches hattached => reportDispatch_dispatched hmatches hattached,
    fun p s b tr a r power energy air heat outlet validity condition mode h hmatches hb ho hattached ha hreport => ?_⟩
  intro l y signed
  obtain ⟨v, w, z, happlied, hcommand, hanswers, hothers, hstream⟩ := runReport_applied h hmatches hb ho hattached ha
    hreport (b :: ReportFields.bytes ⟨power, energy, air, heat, outlet, validity, condition, mode⟩)
  obtain ⟨hair, hheat, hpower, hlast⟩ := happlied.train
  obtain ⟨hsilence, htiming, hreference⟩ := happlied.timing
  obtain ⟨hring, hcurrent⟩ := happlied.book
  refine ⟨_, exec_runReport .., ?_⟩
  rw [hcommand]
  exact ⟨hanswers, hsilence, htiming, hreference, hlast, hair, hheat, hpower, happlied.mass, happlied.spent,
    happlied.caverns, happlied.stores, happlied.dispatched_eq, fun u hlength hstate hu =>
      (happlied.energy.1 u hlength hstate hu).1, hring, hcurrent, happlied.engine, happlied.arith, happlied.joins,
    happlied.trains, hstream, hothers, happlied.state_eq⟩

end Sys2Proof.Machine
end

section
/-! PROOFS. A streamed report: applied, uncoded, or of a train without an attached permit (O29). -/

namespace Sys2Proof.Machine

/-! ## The taking of a streamed report (R155) -/

theorem exec_streamedReport (p : Port) (b : Byte) (power energy air heat : BitVec 32) (outlet : BitVec 16)
    (validity condition mode : Byte) (s : State) :
    exec (.streamedReport p b power energy air heat outlet validity condition mode) s = .next (streamedCommand p b
      ⟨power, energy, air, heat, outlet, validity, condition, mode⟩ s) := rfl

/-- A mode byte of 0xC5 clears the stream-mode flag. -/
def streamCleared (p : Port) (mode : Byte) (s : State) : State := if mode = 0xC5 then setStream p false s else s

theorem streamCleared_port (p q : Port) (mode : Byte) (s : State) : (streamCleared p mode s).port q =
    if q = p ∧ mode = 0xC5 then { s.port q with stream := false } else s.port q := by
  rw [streamCleared]
  by_cases hmode : mode = 0xC5
  · by_cases hq : q = p <;> simp [hmode, hq, setStream]
  · rw [if_neg hmode, if_neg fun h => hmode h.2]

theorem streamCleared_eq (p : Port) (mode : Byte) (s : State) :
    streamCleared p mode s = { s with spi := (streamCleared p mode s).spi } := by
  rw [streamCleared]
  split <;> rfl

/-- The stream-mode flag stays set unless the mode byte clears it, and no other port is touched. -/
theorem streamCleared_placed {p : Port} {s w : State} {v : Spi} (hport : PresenceKept p s { s with spi := v })
    (hstream : (v.get p).stream = true) (hw : w.spi = v) (mode : Byte) (bytes : List Byte) :
    OtherPorts p s (placeNow p bytes (streamCleared p mode w)) ∧
      ((placeNow p bytes (streamCleared p mode w)).port p).stream = (mode != 0xC5) := by
  refine ⟨fun q hq => ?_, ?_⟩
  · have hother : w.port q = ({ s with spi := v } : State).port q := by rw [State.port, hw]; rfl
    rw [placeNow_otherPorts p bytes _ q hq, streamCleared_port, if_neg fun h => hq h.1, hother, hport.only.2 q hq]
  · rw [placeNow_stream, streamCleared_port]
    by_cases hmode : mode = 0xC5
    · simp [hmode]
    · rw [if_neg fun h => hmode h.2, State.port, hw]
      exact hstream.trans (bne_iff_ne.2 hmode).symm

theorem owns_of_owner {p : Port} {b : Byte} {tr : Train} (hb : trainOf b = some tr) (ho : tr.owner = p) :
    p.owns b.toNat = true := by
  rw [trainOf] at hb
  simp only [Port.owns, hb, ho, BEq.rfl]

section Arrival
variable {p : Port} {s : State} {b : Byte} {tr : Train} {x : ReportFields}

/-- A streamed report of an owned train arrives over a part that differs at its port only. -/
theorem streamed_arrives (h : Streaming p s) (hb : trainOf b = some tr) (ho : tr.owner = p) :
    ∃ v : Spi, PresenceKept p s { s with spi := v } ∧ (v.get p).stream = true ∧
      ∀ {t answer}, takeStreamed p b x { s with spi := v } = (t, some answer) →
        streamedCommand p b x s = placeNow p answer.oneByte t := by
  have hport := uncollect_presenceKept p 22 s
  have hstream : ((uncollect p (addSlots p 22 s)).port p).stream = true := by
    obtain ⟨⟨n, hframe⟩, -, hflag⟩ := (PortIface.streams_iff _).1 h.2
    rw [uncollect, State.modPort_port, if_pos rfl, addSlots_taken hframe]
    exact hflag
  refine ⟨_, hport.only.1 ▸ hport, hstream, fun ht => ?_⟩
  rw [← hport.only.1] at ht
  rw [streamedCommand_streaming h b x (owns_of_owner hb ho), ht, placeTaken]

variable (hb : trainOf b = some tr) (ho : tr.owner = p)
include hb ho

theorem takeStreamed_examined (s : State) : takeStreamed p b x s =
    (streamCleared p x.mode (examineReport tr x s).1, (examineReport tr x s).2) := by
  rw [takeStreamed, nameTrain_train hb ho]
  rfl

theorem takeStreamed_accepted {r : Report} (hx : x.report = some r) (hattached : (s.train tr).permit.attached = true) :
    takeStreamed p b x s = (streamCleared p x.mode (applyReport tr r s).1, some (acceptedAnswer tr r
      (reportLimits (s.train tr) s.svc.figures.qc r.air) (applyReport tr r s).1)) := by
  rw [takeStreamed_examined hb ho, examineReport_accepted hx hattached]

theorem takeStreamed_uncoded (hx : x.report = none) :
    takeStreamed p b x s = (streamCleared p x.mode s, some (.bare .range)) := by
  rw [takeStreamed_examined hb ho, examineReport, hx]
  rfl

/-- A streamed report of a train that is OFF, QUEUED or TRIPPED (R144, R145). -/
theorem takeStreamed_notRunning {r : Report} (hx : x.report = some r) (hpermit : (s.train tr).permit.attached = false) :
    ∃ body, takeStreamed p b x s =
      (streamCleared p x.mode (flowTold tr x.air.toNat s), some { code := .notRunning, body := body }) := by
  refine ⟨putBE 1 (s.train tr).permit.code ++ putBE 1 (((s.train tr).cause.map TripCause.code).getD 0), ?_⟩
  simp only [takeStreamed_examined hb ho, examineReport, hx, hpermit, refuseReport, report_air hx]
  rfl

variable (h : Streaming p s)
include h

/-- The report of an attached train is applied, and one byte answers it. -/
theorem streamed_applied {a : Attachment} {r : Report} (hmatches : QueueMatchesPermits s)
    (hattached : (s.train tr).permit.attached = true) (ha : (s.train tr).attachment = some a) (hx : x.report = some r) :
    let l := reportLimits (s.train tr) s.svc.figures.qc r.air
    ∃ v w z, ReportApplied tr a (r.clamped tr l) { s with spi := v } w ∧ streamedCommand p b x s = { w with spi := z } ∧
      (z.get p).phase = .result ∧ (z.get p).result = (acceptedAnswer tr r l w).oneByte ∧
      OtherPorts p s { w with spi := z } ∧ (z.get p).stream = (x.mode != 0xC5) := by
  intro l
  obtain ⟨v, hport, hstream, hcommand⟩ := streamed_arrives (x := x) h hb ho
  have happlied := applyReport_applied (s := { s with spi := v }) r hmatches hattached ha
  have hspi : (applyReport tr r { s with spi := v }).1.spi = v := by simp
  obtain ⟨hothers, hflag⟩ := streamCleared_placed hport hstream hspi x.mode
    (acceptedAnswer tr r l (applyReport tr r { s with spi := v }).1).oneByte
  rw [streamCleared_eq] at hothers hflag
  refine ⟨v, _, _, happlied, ?_, ?_, ?_, hothers, hflag⟩
  · rw [hcommand (takeStreamed_accepted hb ho hx hattached), streamCleared_eq]
    rfl
  all_goals simp

/-- A report that is not applied is answered with one byte, over what the router heard. -/
theorem streamed_refused {f : State → State} {answer : Answer}
    (hf : ∀ v : Spi, PresenceKept p s { s with spi := v } → f { s with spi := v } = { f s with spi := v })
    (htaken : ∀ v : Spi, ∃ body, takeStreamed p b x { s with spi := v } =
      (streamCleared p x.mode (f { s with spi := v }), some { answer with body := body })) :
    let t := streamedCommand p b x s
    (t.port p).phase = .result ∧ (t.port p).result = answer.oneByte ∧ (t.port p).read = 0 ∧
      (t.port p).stream = (x.mode != 0xC5) ∧ OtherPorts p s t ∧ t = { f s with spi := t.spi } := by
  intro t
  obtain ⟨v, hport, hstream, hcommand⟩ := streamed_arrives (x := x) h hb ho
  obtain ⟨body, hbody⟩ := htaken v
  have ht : t = placeNow p answer.oneByte (streamCleared p x.mode { f s with spi := v }) := by
    rw [← hf v hport]
    exact (hcommand hbody).trans rfl
  obtain ⟨hothers, hflag⟩ := streamCleared_placed (w := { f s with spi := v }) hport hstream rfl x.mode answer.oneByte
  rw [← ht] at hothers hflag
  refine ⟨by rw [ht]; simp [placeNow], by rw [ht]; simp [placeNow], by rw [ht]; simp [placeNow], hflag, hothers, ?_⟩
  rw [ht, streamCleared_eq]
  rfl

end Arrival

theorem acceptedAnswer_oneByte (tr : Train) (r : Report) (l : ReportLimits) (w : State) :
    (acceptedAnswer tr r l w).oneByte = [if r.clampBits tr l = 0 then 0x00 else 0x80] := by
  rw [Answer.oneByte, acceptedAnswer]
  by_cases h : r.clampBits tr l = 0 <;> simp [h, bit, ResultCode.code]

/-- Settles O29: a streamed report is applied as a run report is, over a port that stays in stream mode unless the mode
byte clears it. -/
theorem streamedReportEffect : Obligations.StreamedReportEffect := by
  refine ⟨fun p s b tr a r power energy air heat outlet validity condition mode h hmatches hb ho hattached ha hreport =>
    ?applied, fun p s b tr power energy air heat outlet validity condition mode h hb ho =>
    ⟨fun hcodes => ?uncoded, fun r hreport hpermit => ?notRunning⟩⟩
  case applied =>
    intro l y
    obtain ⟨v, w, z, happlied, hcommand, hphase, hresult, hothers, hstream⟩ :=
      streamed_applied hb ho h hmatches hattached ha hreport
    obtain ⟨hair, hheat, hpower, hlast⟩ := happlied.train
    obtain ⟨hsilence, htiming, hreference⟩ := happlied.timing
    refine ⟨_, exec_streamedReport .., ?_⟩
    rw [hcommand]
    exact ⟨hphase, hresult.trans (acceptedAnswer_oneByte ..), hsilence, htiming, hreference, hlast, happlied.mass,
      happlied.spent, hair, hheat, hpower, happlied.energy, happlied.caverns, happlied.stores, happlied.dispatched_eq,
      hstream, happlied.engine, happlied.arith, happlied.joins, happlied.trains, hothers, happlied.state_eq⟩
  case uncoded =>
    have hunknown : ReportFields.report ⟨power, energy, air, heat, outlet, validity, condition, mode⟩ = none :=
      report_unknown hcodes
    obtain ⟨hphase, hresult, hread, hstream, hothers, hstate⟩ := streamed_refused (f := id) (answer := .bare .range)
      hb ho h (fun _ _ => rfl) fun v => ⟨[], takeStreamed_uncoded hb ho hunknown⟩
    exact ⟨_, exec_streamedReport .., hphase, hresult, hread, hstream, hstate, hothers⟩
  case notRunning =>
    obtain ⟨hphase, hresult, hread, hstream, hothers, hstate⟩ := streamed_refused (f := flowTold tr air.toNat)
      (answer := .bare .notRunning) hb ho h (fun v hport => flowTold_withSpi tr air.toNat (fun q => hport.presence q))
      fun v => takeStreamed_notRunning hb ho hreport hpermit
    refine ⟨_, exec_streamedReport .., hphase, hresult, hread, hstream, hothers, ?_, ?_⟩
    · rw [hstate, flowTold_eq]
    · rw [hstate]
      exact apply_ite State.evr ..

end Sys2Proof.Machine
end
